-- ==== Sys2Proof/Word.lean ====
section
/-! DEFINITION. The word types of the Phizon and their plainest readings (00 R1, 01 R6). -/

namespace Sys2Proof

/-- One byte of memory (R6). -/
abbrev Byte := BitVec 8

/-- An `x` register, a state register, an address operand (R7). -/
abbrev Word := BitVec 64

/-- All ones: the manual's 0xFFFF_FFFF_FFFF_FFFF. -/
def allOnes : Word := BitVec.allOnes 64

end Sys2Proof
end

