-- ==== Sys2Proof/Config.lean ====
section
/-! DEFINITION. What one implementation fixes and what the manual leaves open. A free value is an opaque constant applied to
`State.free`, a counter of the model's own: nothing constrains it (log entry 7). -/

namespace Sys2Proof.Config

/-- The n-th free value. -/
opaque freeNat : Nat → Nat

/-- The hash that gives a line its L2 slice (10 R209), and the sets of the side cache and of the first-level data cache that a line falls into
(R199, R207); the manual gives none of them. `l2Victim` chooses the line that goes out of a full slice. -/
opaque l2Slice : Nat → BitVec 4
opaque sideSet : Nat → BitVec 6
opaque l1Set : Nat → BitVec 9
opaque l2Victim : Nat → Nat

/-- The SM3 digest of a byte string (19 R387, 21 R399): 32 bytes. The manual names the standard function and does not
define it here. -/
opaque sm3 : List Byte → List Byte

/-- Whether an SM2 signature over a message verifies under a public key (21 R399, R401). The manual names the standard
scheme and does not define it here. -/
opaque sm2Verify : List Byte → List Byte → List Byte → Bool

/-- The SM2 signature of a message by the device's key (21 R400). -/
opaque sm2Sign : List Byte → List Byte

end Sys2Proof.Config
end

