-- ==== Sys2Proof/Syntax.lean ====
section
/-! DEFINITION. The instruction type: one constructor for each row of spec/opcode_table.json.
Encoded instructions carry every field of their format (02 R27), must-be-zero fields included;
WellFormed.lean says which values the encoding rules allow. Rows without an encoding are steps of
other agents and of the engines (95_what_each_step_holds.md); their arguments are what the agent
brings: a context, an address, data. -/

namespace Sys2Proof

/-- Formats SR and SR5 without the function code (R27): fields d, a, b. -/
structure OpR where
  d : BitVec 5
  a : BitVec 5
  b : BitVec 5
  deriving DecidableEq, Repr

/-- Format SR of the floating-point SOP: p is f9[8:6], 0 for `.S` and 1 for `.D` (R79). -/
structure OpF where
  p : BitVec 3
  d : BitVec 5
  a : BitVec 5
  b : BitVec 5
  deriving DecidableEq, Repr

/-- Format SR of the AMO major: scope, width and the three registers (R34, R181). -/
structure OpAmo where
  s : BitVec 3
  w : BitVec 2
  d : BitVec 5
  a : BitVec 5
  b : BitVec 5
  deriving DecidableEq, Repr

/-- Format SI (R27): d, a and the 11-bit immediate. -/
structure OpI where
  d : BitVec 5
  a : BitVec 5
  imm : BitVec 11
  deriving DecidableEq, Repr

/-- Wide format SI: the 43-bit immediate of R37. -/
structure OpIW where
  d : BitVec 5
  a : BitVec 5
  imm : BitVec 43
  deriving DecidableEq, Repr

/-- The SIMM shifts: the amount imm[5:0] (R81). -/
structure OpSh where
  d : BitVec 5
  a : BitVec 5
  sh : BitVec 6
  deriving DecidableEq, Repr

/-- Format U (R27). -/
structure OpU where
  d : BitVec 5
  imm : BitVec 19
  deriving DecidableEq, Repr

/-- Wide format U: the 51-bit immediate of R37. -/
structure OpUW where
  d : BitVec 5
  imm : BitVec 51
  deriving DecidableEq, Repr

/-- Format B of BRX (R27): the tested register and the offset in halfwords. -/
structure OpB where
  a : BitVec 5
  off : BitVec 16
  deriving DecidableEq, Repr

/-- Wide format B of BRX: the 48-bit offset of R37. -/
structure OpBW where
  a : BitVec 5
  off : BitVec 48
  deriving DecidableEq, Repr

/-- Format B of BRM: the mask and the offset (R87). -/
structure OpM where
  k : BitVec 4
  off : BitVec 16
  deriving DecidableEq, Repr

/-- Wide format B of BRM. -/
structure OpMW where
  k : BitVec 4
  off : BitVec 48
  deriving DecidableEq, Repr

/-- The SCTL forms of format SI: the d and a fields (R310). -/
structure OpCtl where
  d : BitVec 5
  a : BitVec 5
  deriving DecidableEq, Repr

/-- Format L (R27): index register, trip register, level, body length in halfwords. -/
structure OpL where
  d : BitVec 5
  a : BitVec 5
  v : BitVec 3
  len : BitVec 11
  deriving DecidableEq, Repr

/-- Wide format L: the 43-bit body length of R37. -/
structure OpLW where
  d : BitVec 5
  a : BitVec 5
  v : BitVec 3
  len : BitVec 43
  deriving DecidableEq, Repr

/-- Format VC of `VCFG`: the 13-bit vtype-immediate (R100). -/
structure OpVc where
  d : BitVec 5
  a : BitVec 5
  t : BitVec 13
  deriving DecidableEq, Repr

/-- Format VA (R27): the convoy bit, d, a, b and the governing mask. -/
structure OpVa where
  c : Bool
  d : BitVec 5
  a : BitVec 5
  b : BitVec 5
  m : BitVec 4
  deriving DecidableEq, Repr

/-- Wide format VA of VX: the 32-bit immediate W (R37). -/
structure OpVaW where
  c : Bool
  d : BitVec 5
  a : BitVec 5
  b : BitVec 5
  m : BitVec 4
  imm : BitVec 32
  deriving DecidableEq, Repr

/-- Format VF (R27): fs names a format register. -/
structure OpVf where
  c : Bool
  d : BitVec 5
  a : BitVec 5
  b : BitVec 5
  fs : BitVec 3
  m : BitVec 4
  deriving DecidableEq, Repr

/-- Format VU (R27). -/
structure OpVu where
  c : Bool
  d : BitVec 5
  a : BitVec 5
  fs : BitVec 3
  m : BitVec 4
  deriving DecidableEq, Repr

/-- Format VM (R27): h is the hint of VLD and VST, the scope of VAMO. -/
structure OpVm where
  c : Bool
  d : BitVec 5
  a : BitVec 5
  b : BitVec 5
  h : BitVec 2
  m : BitVec 4
  deriving DecidableEq, Repr

/-- Wide format VM: the signed byte offset W (R37). -/
structure OpVmW where
  c : Bool
  d : BitVec 5
  a : BitVec 5
  b : BitVec 5
  h : BitVec 2
  m : BitVec 4
  off : BitVec 32
  deriving DecidableEq, Repr

/-- Format MX (R27): ac names an accumulator tile. -/
structure OpMx where
  c : Bool
  d : BitVec 5
  a : BitVec 5
  b : BitVec 5
  ac : BitVec 2
  m : BitVec 4
  deriving DecidableEq, Repr

/-- A compact halfword (R39): d and b. -/
structure OpC where
  d : BitVec 5
  b : BitVec 5
  deriving DecidableEq, Repr

/-- A read-modify-write that a host or a peer may ask for (R369, R364). -/
inductive RmwOp where
  | add | swap | and | or | min | max
  | cas (expected : BitVec 64)
  /-- `AMOBINC`, a device-defined atomic that only Phizon devices exchange (R370). -/
  | binc
  deriving DecidableEq, Repr

/-- What a gang operation of another core's leader brings to a member part on the modelled core (R278): the leader's captured words, mask and
format, and the delivered rows of its operand b as encodings. `again`: the leader reissues the part after a DELIVER (R353). `bad` are the addresses
where the new read of b, or the translation of b's barrier for writing, faults at a reissue: address, page CODE, poisoned line, and whether it is the
write (R270, R353). -/
structure MemberArgs where
  addr : BitVec 52
  ac : BitVec 2
  ts : BitVec 5
  fmt : BitVec 64
  vl : Nat
  vtype : BitVec 64
  gov : Option Nat
  rows : List (List Nat)
  again : Bool
  bad : List (Nat × Nat × Nat × Bool)
  deriving DecidableEq, Repr

/-- What the lanes complete (R17): entry k of a context's own VIQ, or a member part that another core's leader has issued (R278). -/
inductive LaneArgs where
  | own (k : Nat)
  | member (o : MemberArgs)
  deriving DecidableEq, Repr

/-- A member of a gang on another core of the cluster, as the modelled core sees it: the gang number, the gang object with its physical and virtual
address and size, the thread and its place, and its tiles, its tile streams as descriptor bytes with bound barriers, `m15` and scratchpad (R195,
R278). -/
structure MateArgs where
  gid : Nat
  obj : Nat
  va : BitVec 64
  size : Nat
  tid : BitVec 64
  coreid : BitVec 64
  ctx : Bool
  tiles : List Nat
  streams : List (Option (List Byte × Option (BitVec 64)))
  m15 : Nat
  banks : List Nat
  spad : List (Nat × Byte)
  deriving DecidableEq, Repr

/-- The entry that finishes: of a context, and which (R17). -/
structure CompleteEntryArgs where
  ctx : Bool
  lane : LaneArgs
  deriving DecidableEq, Repr

/-- The entry whose next element group the lanes perform: of a context, and which (R174). -/
structure GroupArgs where
  ctx : Bool
  entry : Nat
  deriving DecidableEq, Repr

/-- The context whose wait ends, and the members on other cores that have joined or changed (R195). -/
structure GangWakeArgs where
  ctx : Bool
  mates : List MateArgs
  deriving DecidableEq, Repr

/-- The context whose wait ends, and how many members on other cores have left which gang (R195). -/
structure GangFreeArgs where
  ctx : Bool
  gid : Nat
  leaves : Nat
  deriving DecidableEq, Repr

/-- A flit that fails on a link: its direction, and whether it is the one that failed last (R360). -/
structure FlitArgs where
  link : BitVec 2
  back : Bool
  again : Bool
  deriving DecidableEq, Repr

/-- What the dispatcher brings when it places a lot (R22, R168, R304). `here = none`: the lot goes to
context `ctx` of core `core` of die `die`. The place of the stack area, the thread id, context area and scratchpad image are the
dispatcher's choice. -/
structure PlaceArgs where
  here : Option Bool
  die : BitVec 2
  core : BitVec 6
  ctx : Bool
  tid : BitVec 64
  sp : BitVec 64
  ctxarea : BitVec 64
  spimg : BitVec 64
  deriving DecidableEq, Repr

/-- A lot that completes: on a context of the modelled core, or (`here = none`) on another core, where
the thread and whether it failed come from there (R23, R167). -/
structure CompleteArgs where
  here : Option Bool
  tid : BitVec 64
  failed : Bool
  deriving DecidableEq, Repr

/-- Bytes that the host writes, with the poison marker of CXL (R373). -/
structure WriteData where
  bytes : List Byte
  bad : Bool
  deriving DecidableEq, Repr

/-- A host snoop of a far-tier line (R363): with `take` the host takes the line for writing, and then writes it. -/
structure SnoopArgs where
  addr : Nat
  take : Option WriteData
  deriving DecidableEq, Repr

/-- What a peer does through UALink (R369-R371, R373): its requests to this device, and what its requests to others make of it and of its own
memory; `bad` is the error status of the data. -/
inductive PeerArgs where
  | read (addr n : Nat)
  | write (addr : Nat) (bytes : List Byte) (bad : Bool)
  | rmw (addr : Nat) (op : RmwOp) (wide : Bool) (v : BitVec 64)
  /-- One combination of a `CPYRED` whose destination element stands at `addr`: its RED and FMT, and the source element (R371). -/
  | combine (addr red : Nat) (fmt : BitVec 10) (bytes : List Byte) (bad : Bool)
  /-- The peer is there, a Phizon device or not, refuses requests or not, and firmware has assigned ports to it (R369, R370). -/
  | present (id : BitVec 10) (phizon refuses : Bool) (ports : List (Fin 12))
  /-- The peer writes its own memory, at this device's addresses of it; `bad` marks the bytes as poisoned (R373). -/
  | ownWrite (addr : Nat) (bytes : List Byte) (bad : Bool)
  deriving DecidableEq, Repr

/-- A certificate: a public key, and the signature over its SM3 digest by the key above it (R401). -/
structure Cert where
  key : List Byte
  signature : List Byte
  deriving DecidableEq, Repr

/-- The answer to a firmware-debug nonce: the signature, and the certificates from the signer's up to the one that the Jartur debug root signed
(R401). -/
structure DebugAnswer where
  signature : List Byte
  chain : List Cert
  deriving DecidableEq, Repr

/-- What flash holds by name (R397, R399). -/
inductive Component where
  | firmware | decodeTable
  deriving DecidableEq, Repr

/-- A signed image in flash: its bytes, its SM2 signature, its security version (R399). -/
structure FlashImage where
  bytes : List Byte
  signature : List Byte
  version : Nat
  deriving DecidableEq, Repr

/-- A Galys translation that is finished: its key, and the place in firmware-owned HBM that firmware gives it (R390). -/
structure TranslationArgs where
  digest : List Byte
  rev : BitVec 32
  addr : Nat
  deriving DecidableEq, Repr

/-- One charge of a lost cycle to a producer and a consumer, with its lag (R347). -/
structure PairCharge where
  prod : BitVec 52
  cons : BitVec 52
  lag : BitVec 32
  deriving DecidableEq, Repr

/-- The HBM and link energy of one die, and the lines that launches moved there, by launch id (R405). -/
structure DieEnergy where
  used : Nat
  lines : List (Nat × Nat)
  deriving DecidableEq, Repr

/-- What is measured in one interval, in units of 2^-16 mJ (R405): the energy of the cluster's cores and L2 slice; the leakage of the modelled core;
what each thread's work used, by thread id, that of the core monitor for its lot included, and on other cores their leakage; and each die's HBM and
link energy. -/
structure EnergyArgs where
  cluster : Nat
  leak : Nat
  work : List (BitVec 64 × Nat)
  dies : List DieEnergy
  deriving DecidableEq, Repr

/-- What one core clock cycle brings (R98, R345-R347, R403, R405). `causes` has one byte for each of the ten
engines, a set bit for each cause that applies, zero for an idle engine. `ev0` and `ev1` list, for each
context, the events of R346 of this cycle; `energy` is what is measured, and `point` a die's clock point that firmware selects. -/
structure CycleArgs where
  causes : List (BitVec 8)
  ev0 : List (BitVec 8)
  ev1 : List (BitVec 8)
  charges : List PairCharge
  energy : EnergyArgs
  point : Option (BitVec 2 × Fin 9)
  deriving DecidableEq, Repr

/-- The item that a bit error hits (R320). `correctable = true`: corrected and counted. -/
inductive EccItem where
  | line (addr : Nat)
  | x (c : Bool) (r : BitVec 5)
  | v (c : Bool) (r : BitVec 5)
  | m (c : Bool) (r : BitVec 4)
  | tile (c : Bool) (n : BitVec 2)
  | keyed (c : Bool) (slot : Nat)
  /-- A byte of a scratchpad bank, by bank × 64 KiB + offset. -/
  | spad (k : Nat)
  | lane (c : Bool) (n : BitVec 6)
  deriving DecidableEq, Repr

structure EccArgs where
  correctable : Bool
  item : EccItem
  deriving DecidableEq, Repr

/-- The instructions and steps of the Phizon, one constructor per row of spec/opcode_table.json. -/
inductive Instr where
  /-- `ADD` (R77). -/
  | add (o : OpR)
  /-- `SUB` (R77). -/
  | sub (o : OpR)
  /-- `AND` (R77). -/
  | and (o : OpR)
  /-- `OR` (R77). -/
  | or (o : OpR)
  /-- `XOR` (R77). -/
  | xor (o : OpR)
  /-- `ANDN` (R77). -/
  | andn (o : OpR)
  /-- `SLL` (R77). -/
  | sll (o : OpR)
  /-- `SRL` (R77). -/
  | srl (o : OpR)
  /-- `SRA` (R77). -/
  | sra (o : OpR)
  /-- `SLT` (R77). -/
  | slt (o : OpR)
  /-- `SLTU` (R77). -/
  | sltu (o : OpR)
  /-- `MIN` (R77). -/
  | min (o : OpR)
  /-- `MAX` (R77). -/
  | max (o : OpR)
  /-- `MINU` (R77). -/
  | minu (o : OpR)
  /-- `MAXU` (R77). -/
  | maxu (o : OpR)
  /-- `MUL` (R77). -/
  | mul (o : OpR)
  /-- `MULH` (R77). -/
  | mulh (o : OpR)
  /-- `MULHU` (R77). -/
  | mulhu (o : OpR)
  /-- `DIV` (R77). -/
  | div (o : OpR)
  /-- `DIVU` (R77). -/
  | divu (o : OpR)
  /-- `REM` (R77). -/
  | rem (o : OpR)
  /-- `REMU` (R77). -/
  | remu (o : OpR)
  /-- `CLZ` (R77). -/
  | clz (o : OpR)
  /-- `CTZ` (R77). -/
  | ctz (o : OpR)
  /-- `POPC` (R77). -/
  | popc (o : OpR)
  /-- `FADD` (R80). -/
  | fadd (o : OpF)
  /-- `FSUB` (R80). -/
  | fsub (o : OpF)
  /-- `FMUL` (R80). -/
  | fmul (o : OpF)
  /-- `FDIV` (R80). -/
  | fdiv (o : OpF)
  /-- `FMIN` (R80). -/
  | fmin (o : OpF)
  /-- `FMAX` (R80). -/
  | fmax (o : OpF)
  /-- `FEQ` (R80). -/
  | feq (o : OpF)
  /-- `FLT` (R80). -/
  | flt (o : OpF)
  /-- `FLE` (R80). -/
  | fle (o : OpF)
  /-- `FSQRT` (R80). -/
  | fsqrt (o : OpF)
  /-- `FCVTI` (R80). -/
  | fcvti (o : OpF)
  /-- `FCVTF` (R80). -/
  | fcvtf (o : OpF)
  /-- `FCVTW` (R80). -/
  | fcvtw (o : OpF)
  /-- `ADDI` (R81). -/
  | addi (o : OpI)
  /-- `ANDI` (R81). -/
  | andi (o : OpI)
  /-- `ORI` (R81). -/
  | ori (o : OpI)
  /-- `XORI` (R81). -/
  | xori (o : OpI)
  /-- `SLTI` (R81). -/
  | slti (o : OpI)
  /-- `SLTIU` (R81). -/
  | sltiu (o : OpI)
  /-- `SLLI` (R81). -/
  | slli (o : OpSh)
  /-- `SRLI` (R81). -/
  | srli (o : OpSh)
  /-- `SRAI` (R81). -/
  | srai (o : OpSh)
  /-- `MULI` (R81). -/
  | muli (o : OpI)
  /-- `ADDI_WIDE` (R37). -/
  | addiWide (o : OpIW)
  /-- `ANDI_WIDE` (R37). -/
  | andiWide (o : OpIW)
  /-- `ORI_WIDE` (R37). -/
  | oriWide (o : OpIW)
  /-- `XORI_WIDE` (R37). -/
  | xoriWide (o : OpIW)
  /-- `SLTI_WIDE` (R37). -/
  | sltiWide (o : OpIW)
  /-- `SLTIU_WIDE` (R37). -/
  | sltiuWide (o : OpIW)
  /-- `MULI_WIDE` (R37). -/
  | muliWide (o : OpIW)
  /-- `LUP` (R82). -/
  | lup (o : OpU)
  /-- `LUP_WIDE` (R82). -/
  | lupWide (o : OpUW)
  /-- `LB` (R83). -/
  | lb (o : OpI)
  /-- `LH` (R83). -/
  | lh (o : OpI)
  /-- `LW` (R83). -/
  | lw (o : OpI)
  /-- `LD` (R83). -/
  | ld (o : OpI)
  /-- `LBU` (R83). -/
  | lbu (o : OpI)
  /-- `LHU` (R83). -/
  | lhu (o : OpI)
  /-- `LWU` (R83). -/
  | lwu (o : OpI)
  /-- `LB_WIDE` (R37). -/
  | lbWide (o : OpIW)
  /-- `LH_WIDE` (R37). -/
  | lhWide (o : OpIW)
  /-- `LW_WIDE` (R37). -/
  | lwWide (o : OpIW)
  /-- `LD_WIDE` (R37). -/
  | ldWide (o : OpIW)
  /-- `LBU_WIDE` (R37). -/
  | lbuWide (o : OpIW)
  /-- `LHU_WIDE` (R37). -/
  | lhuWide (o : OpIW)
  /-- `LWU_WIDE` (R37). -/
  | lwuWide (o : OpIW)
  /-- `SB` (R83). -/
  | sb (o : OpI)
  /-- `SH` (R83). -/
  | sh (o : OpI)
  /-- `SW` (R83). -/
  | sw (o : OpI)
  /-- `SD` (R83). -/
  | sd (o : OpI)
  /-- `SB_WIDE` (R37). -/
  | sbWide (o : OpIW)
  /-- `SH_WIDE` (R37). -/
  | shWide (o : OpIW)
  /-- `SW_WIDE` (R37). -/
  | swWide (o : OpIW)
  /-- `SD_WIDE` (R37). -/
  | sdWide (o : OpIW)
  /-- `BEQZ` (R86). -/
  | beqz (o : OpB)
  /-- `BNEZ` (R86). -/
  | bnez (o : OpB)
  /-- `BLTZ` (R86). -/
  | bltz (o : OpB)
  /-- `BGEZ` (R86). -/
  | bgez (o : OpB)
  /-- `BGTZ` (R86). -/
  | bgtz (o : OpB)
  /-- `BLEZ` (R86). -/
  | blez (o : OpB)
  /-- `BDNZ` (R86). -/
  | bdnz (o : OpB)
  /-- `BEQZ_WIDE` (R37). -/
  | beqzWide (o : OpBW)
  /-- `BNEZ_WIDE` (R37). -/
  | bnezWide (o : OpBW)
  /-- `BLTZ_WIDE` (R37). -/
  | bltzWide (o : OpBW)
  /-- `BGEZ_WIDE` (R37). -/
  | bgezWide (o : OpBW)
  /-- `BGTZ_WIDE` (R37). -/
  | bgtzWide (o : OpBW)
  /-- `BLEZ_WIDE` (R37). -/
  | blezWide (o : OpBW)
  /-- `BDNZ_WIDE` (R37). -/
  | bdnzWide (o : OpBW)
  /-- `BANY` (R87). -/
  | bany (o : OpM)
  /-- `BALL` (R87). -/
  | ball (o : OpM)
  /-- `BNONE` (R87). -/
  | bnone (o : OpM)
  /-- `BNALL` (R87). -/
  | bnall (o : OpM)
  /-- `BANY_WIDE` (R37). -/
  | banyWide (o : OpMW)
  /-- `BALL_WIDE` (R37). -/
  | ballWide (o : OpMW)
  /-- `BNONE_WIDE` (R37). -/
  | bnoneWide (o : OpMW)
  /-- `BNALL_WIDE` (R37). -/
  | bnallWide (o : OpMW)
  /-- `JAL` (R89). -/
  | jal (o : OpU)
  /-- `JAL_WIDE` (R37). -/
  | jalWide (o : OpUW)
  /-- `JALR` (R90). -/
  | jalr (o : OpI)
  /-- `JALR_WIDE` (R37). -/
  | jalrWide (o : OpIW)
  /-- `SRD` (R95). -/
  | srd (o : OpI)
  /-- `SWR` (R95). -/
  | swr (o : OpI)
  /-- `SSET` (R95). -/
  | sset (o : OpI)
  /-- `SCLR` (R95). -/
  | sclr (o : OpI)
  /-- `ECALL` (R310). -/
  | ecall (o : OpCtl)
  /-- `EBREAK` (R310). -/
  | ebreak (o : OpCtl)
  /-- `ERET` (R310). -/
  | eret (o : OpCtl)
  /-- `WFI` (R310). -/
  | wfi (o : OpCtl)
  /-- `IFENCE` (R381). -/
  | ifence (o : OpCtl)
  /-- `TLBINV` (R318). -/
  | tlbinv (o : OpCtl)
  /-- `TLBINVA` (R318). -/
  | tlbinva (o : OpCtl)
  /-- `EXIT` (R23). -/
  | exit (o : OpCtl)
  /-- `PGSPLICE` (R319). -/
  | pgsplice (o : OpI)
  /-- `LOOP` (R91). -/
  | loop (o : OpL)
  /-- `LOOP_WIDE` (R37). -/
  | loopWide (o : OpLW)
  /-- `VCFG` (R101). -/
  | vcfg (o : OpVc)
  /-- `VCFGR` (R101). -/
  | vcfgr (o : OpR)
  /-- `VADD_VV` (R110). -/
  | vaddVv (o : OpVa)
  /-- `VSUB_VV` (R110). -/
  | vsubVv (o : OpVa)
  /-- `VRSUB_VV` (R110). -/
  | vrsubVv (o : OpVa)
  /-- `VMIN_VV` (R110). -/
  | vminVv (o : OpVa)
  /-- `VMAX_VV` (R110). -/
  | vmaxVv (o : OpVa)
  /-- `VAND_VV` (R110). -/
  | vandVv (o : OpVa)
  /-- `VOR_VV` (R110). -/
  | vorVv (o : OpVa)
  /-- `VXOR_VV` (R110). -/
  | vxorVv (o : OpVa)
  /-- `VANDN_VV` (R110). -/
  | vandnVv (o : OpVa)
  /-- `VSLL_VV` (R110). -/
  | vsllVv (o : OpVa)
  /-- `VSRL_VV` (R110). -/
  | vsrlVv (o : OpVa)
  /-- `VSRA_VV` (R110). -/
  | vsraVv (o : OpVa)
  /-- `VSADD_VV` (R110). -/
  | vsaddVv (o : OpVa)
  /-- `VSSUB_VV` (R110). -/
  | vssubVv (o : OpVa)
  /-- `VABSD_VV` (R110). -/
  | vabsdVv (o : OpVa)
  /-- `VAVG_VV` (R110). -/
  | vavgVv (o : OpVa)
  /-- `VMULH_VV` (R110). -/
  | vmulhVv (o : OpVa)
  /-- `VDIV_VV` (R110). -/
  | vdivVv (o : OpVa)
  /-- `VREM_VV` (R110). -/
  | vremVv (o : OpVa)
  /-- `VCEQ_VV` (R110). -/
  | vceqVv (o : OpVa)
  /-- `VCNE_VV` (R110). -/
  | vcneVv (o : OpVa)
  /-- `VCLT_VV` (R110). -/
  | vcltVv (o : OpVa)
  /-- `VCLE_VV` (R110). -/
  | vcleVv (o : OpVa)
  /-- `VCGT_VV` (R110). -/
  | vcgtVv (o : OpVa)
  /-- `VCGE_VV` (R110). -/
  | vcgeVv (o : OpVa)
  /-- `VMERGE_VV` (R111). -/
  | vmergeVv (o : OpVa)
  /-- `VMV_VV` (R111). -/
  | vmvVv (o : OpVa)
  /-- `VSGNJ_VV` (R110). -/
  | vsgnjVv (o : OpVa)
  /-- `VADD_VX` (R110). -/
  | vaddVx (o : OpVa)
  /-- `VSUB_VX` (R110). -/
  | vsubVx (o : OpVa)
  /-- `VRSUB_VX` (R110). -/
  | vrsubVx (o : OpVa)
  /-- `VMIN_VX` (R110). -/
  | vminVx (o : OpVa)
  /-- `VMAX_VX` (R110). -/
  | vmaxVx (o : OpVa)
  /-- `VAND_VX` (R110). -/
  | vandVx (o : OpVa)
  /-- `VOR_VX` (R110). -/
  | vorVx (o : OpVa)
  /-- `VXOR_VX` (R110). -/
  | vxorVx (o : OpVa)
  /-- `VANDN_VX` (R110). -/
  | vandnVx (o : OpVa)
  /-- `VSLL_VX` (R110). -/
  | vsllVx (o : OpVa)
  /-- `VSRL_VX` (R110). -/
  | vsrlVx (o : OpVa)
  /-- `VSRA_VX` (R110). -/
  | vsraVx (o : OpVa)
  /-- `VSADD_VX` (R110). -/
  | vsaddVx (o : OpVa)
  /-- `VSSUB_VX` (R110). -/
  | vssubVx (o : OpVa)
  /-- `VABSD_VX` (R110). -/
  | vabsdVx (o : OpVa)
  /-- `VAVG_VX` (R110). -/
  | vavgVx (o : OpVa)
  /-- `VMULH_VX` (R110). -/
  | vmulhVx (o : OpVa)
  /-- `VDIV_VX` (R110). -/
  | vdivVx (o : OpVa)
  /-- `VREM_VX` (R110). -/
  | vremVx (o : OpVa)
  /-- `VCEQ_VX` (R110). -/
  | vceqVx (o : OpVa)
  /-- `VCNE_VX` (R110). -/
  | vcneVx (o : OpVa)
  /-- `VCLT_VX` (R110). -/
  | vcltVx (o : OpVa)
  /-- `VCLE_VX` (R110). -/
  | vcleVx (o : OpVa)
  /-- `VCGT_VX` (R110). -/
  | vcgtVx (o : OpVa)
  /-- `VCGE_VX` (R110). -/
  | vcgeVx (o : OpVa)
  /-- `VMERGE_VX` (R111). -/
  | vmergeVx (o : OpVa)
  /-- `VMV_VX` (R111). -/
  | vmvVx (o : OpVa)
  /-- `VSGNJ_VX` (R110). -/
  | vsgnjVx (o : OpVa)
  /-- `VADD_VX_WIDE` (R109). -/
  | vaddVxWide (o : OpVaW)
  /-- `VSUB_VX_WIDE` (R109). -/
  | vsubVxWide (o : OpVaW)
  /-- `VRSUB_VX_WIDE` (R109). -/
  | vrsubVxWide (o : OpVaW)
  /-- `VMIN_VX_WIDE` (R109). -/
  | vminVxWide (o : OpVaW)
  /-- `VMAX_VX_WIDE` (R109). -/
  | vmaxVxWide (o : OpVaW)
  /-- `VAND_VX_WIDE` (R109). -/
  | vandVxWide (o : OpVaW)
  /-- `VOR_VX_WIDE` (R109). -/
  | vorVxWide (o : OpVaW)
  /-- `VXOR_VX_WIDE` (R109). -/
  | vxorVxWide (o : OpVaW)
  /-- `VANDN_VX_WIDE` (R109). -/
  | vandnVxWide (o : OpVaW)
  /-- `VSLL_VX_WIDE` (R109). -/
  | vsllVxWide (o : OpVaW)
  /-- `VSRL_VX_WIDE` (R109). -/
  | vsrlVxWide (o : OpVaW)
  /-- `VSRA_VX_WIDE` (R109). -/
  | vsraVxWide (o : OpVaW)
  /-- `VSADD_VX_WIDE` (R109). -/
  | vsaddVxWide (o : OpVaW)
  /-- `VSSUB_VX_WIDE` (R109). -/
  | vssubVxWide (o : OpVaW)
  /-- `VABSD_VX_WIDE` (R109). -/
  | vabsdVxWide (o : OpVaW)
  /-- `VAVG_VX_WIDE` (R109). -/
  | vavgVxWide (o : OpVaW)
  /-- `VMULH_VX_WIDE` (R109). -/
  | vmulhVxWide (o : OpVaW)
  /-- `VDIV_VX_WIDE` (R109). -/
  | vdivVxWide (o : OpVaW)
  /-- `VREM_VX_WIDE` (R109). -/
  | vremVxWide (o : OpVaW)
  /-- `VCEQ_VX_WIDE` (R109). -/
  | vceqVxWide (o : OpVaW)
  /-- `VCNE_VX_WIDE` (R109). -/
  | vcneVxWide (o : OpVaW)
  /-- `VCLT_VX_WIDE` (R109). -/
  | vcltVxWide (o : OpVaW)
  /-- `VCLE_VX_WIDE` (R109). -/
  | vcleVxWide (o : OpVaW)
  /-- `VCGT_VX_WIDE` (R109). -/
  | vcgtVxWide (o : OpVaW)
  /-- `VCGE_VX_WIDE` (R109). -/
  | vcgeVxWide (o : OpVaW)
  /-- `VMERGE_VX_WIDE` (R109). -/
  | vmergeVxWide (o : OpVaW)
  /-- `VMV_VX_WIDE` (R109). -/
  | vmvVxWide (o : OpVaW)
  /-- `VSGNJ_VX_WIDE` (R109). -/
  | vsgnjVxWide (o : OpVaW)
  /-- `VFMA_VFV` (R113). -/
  | vfmaVfv (o : OpVf)
  /-- `VFMS_VFV` (R113). -/
  | vfmsVfv (o : OpVf)
  /-- `VFNMA_VFV` (R113). -/
  | vfnmaVfv (o : OpVf)
  /-- `VMUL_VFV` (R113). -/
  | vmulVfv (o : OpVf)
  /-- `VFMA_VFX` (R113). -/
  | vfmaVfx (o : OpVf)
  /-- `VFMS_VFX` (R113). -/
  | vfmsVfx (o : OpVf)
  /-- `VFNMA_VFX` (R113). -/
  | vfnmaVfx (o : OpVf)
  /-- `VMUL_VFX` (R113). -/
  | vmulVfx (o : OpVf)
  /-- `VDOT` (R114). -/
  | vdot (o : OpVf)
  /-- `VSSMX` (R120). -/
  | vssmx (o : OpVf)
  /-- `VCVT` (R116). -/
  | vcvt (o : OpVu)
  /-- `VNEG` (R116). -/
  | vneg (o : OpVu)
  /-- `VABS` (R116). -/
  | vabs (o : OpVu)
  /-- `VSQRT` (R116). -/
  | vsqrt (o : OpVu)
  /-- `VRCP` (R117). -/
  | vrcp (o : OpVu)
  /-- `VRSQRT` (R117). -/
  | vrsqrt (o : OpVu)
  /-- `VEXP2` (R117). -/
  | vexp2 (o : OpVu)
  /-- `VLOG2` (R117). -/
  | vlog2 (o : OpVu)
  /-- `VTANH` (R117). -/
  | vtanh (o : OpVu)
  /-- `VSIGM` (R117). -/
  | vsigm (o : OpVu)
  /-- `VERF` (R117). -/
  | verf (o : OpVu)
  /-- `VROUND` (R116). -/
  | vround (o : OpVu)
  /-- `VPOPC` (R116). -/
  | vpopc (o : OpVu)
  /-- `VCLZ` (R116). -/
  | vclz (o : OpVu)
  /-- `VID` (R116). -/
  | vid (o : OpVu)
  /-- `VCLASS` (R116). -/
  | vclass (o : OpVu)
  /-- `VLD` (R123). -/
  | vld (o : OpVm)
  /-- `VLDS` (R123). -/
  | vlds (o : OpVm)
  /-- `VLDX` (R123). -/
  | vldx (o : OpVm)
  /-- `VLDFF` (R126). -/
  | vldff (o : OpVm)
  /-- `VLD_WIDE` (R37). -/
  | vldWide (o : OpVmW)
  /-- `VLDS_WIDE` (R37). -/
  | vldsWide (o : OpVmW)
  /-- `VLDX_WIDE` (R37). -/
  | vldxWide (o : OpVmW)
  /-- `VLDFF_WIDE` (R37). -/
  | vldffWide (o : OpVmW)
  /-- `VST` (R129). -/
  | vst (o : OpVm)
  /-- `VSTS` (R129). -/
  | vsts (o : OpVm)
  /-- `VSTX` (R129). -/
  | vstx (o : OpVm)
  /-- `VSTU` (R130). -/
  | vstu (o : OpVm)
  /-- `VSTSU` (R130). -/
  | vstsu (o : OpVm)
  /-- `VSTXU` (R130). -/
  | vstxu (o : OpVm)
  /-- `VST_WIDE` (R37). -/
  | vstWide (o : OpVmW)
  /-- `VSTS_WIDE` (R37). -/
  | vstsWide (o : OpVmW)
  /-- `VSTX_WIDE` (R37). -/
  | vstxWide (o : OpVmW)
  /-- `VSTU_WIDE` (R37). -/
  | vstuWide (o : OpVmW)
  /-- `VSTSU_WIDE` (R37). -/
  | vstsuWide (o : OpVmW)
  /-- `VSTXU_WIDE` (R37). -/
  | vstxuWide (o : OpVmW)
  /-- `VAMOADD` (R187). -/
  | vamoadd (o : OpVm)
  /-- `VAMOBINC` (R187). -/
  | vamobinc (o : OpVm)
  /-- `VAMOMIN` (R187). -/
  | vamomin (o : OpVm)
  /-- `VAMOMAX` (R187). -/
  | vamomax (o : OpVm)
  /-- `VAMOSWAP` (R187). -/
  | vamoswap (o : OpVm)
  /-- `VAMOADD_WIDE` (R37). -/
  | vamoaddWide (o : OpVmW)
  /-- `VAMOBINC_WIDE` (R37). -/
  | vamobincWide (o : OpVmW)
  /-- `VAMOMIN_WIDE` (R37). -/
  | vamominWide (o : OpVmW)
  /-- `VAMOMAX_WIDE` (R37). -/
  | vamomaxWide (o : OpVmW)
  /-- `VAMOSWAP_WIDE` (R37). -/
  | vamoswapWide (o : OpVmW)
  /-- `MAND` (R133). -/
  | mand (o : OpVa)
  /-- `MOR` (R133). -/
  | mor (o : OpVa)
  /-- `MXOR` (R133). -/
  | mxor (o : OpVa)
  /-- `MANDN` (R133). -/
  | mandn (o : OpVa)
  /-- `MNOT` (R133). -/
  | mnot (o : OpVa)
  /-- `MCNT` (R135). -/
  | mcnt (o : OpVa)
  /-- `MANY` (R135). -/
  | many (o : OpVa)
  /-- `MFIRST` (R135). -/
  | mfirst (o : OpVa)
  /-- `MSBF` (R133). -/
  | msbf (o : OpVa)
  /-- `MSIF` (R133). -/
  | msif (o : OpVa)
  /-- `MWHILE` (R151). -/
  | mwhile (o : OpVa)
  /-- `MFROMV` (R134). -/
  | mfromv (o : OpVa)
  /-- `MTOV` (R134). -/
  | mtov (o : OpVa)
  /-- `VCONF` (R152). -/
  | vconf (o : OpVa)
  /-- `VPART` (R153). -/
  | vpart (o : OpVa)
  /-- `VPARTB` (R153). -/
  | vpartb (o : OpVa)
  /-- `RSUM` (R137). -/
  | rsum (o : OpVa)
  /-- `RSUMU` (R137). -/
  | rsumu (o : OpVa)
  /-- `RMAX` (R137). -/
  | rmax (o : OpVa)
  /-- `RMIN` (R137). -/
  | rmin (o : OpVa)
  /-- `RMAXI` (R138). -/
  | rmaxi (o : OpVa)
  /-- `RMINI` (R138). -/
  | rmini (o : OpVa)
  /-- `RAND` (R137). -/
  | rand (o : OpVa)
  /-- `ROR` (R137). -/
  | ror (o : OpVa)
  /-- `RXOR` (R137). -/
  | rxor (o : OpVa)
  /-- `VSCAN` (R140). -/
  | vscan (o : OpVa)
  /-- `VCMPR` (R142). -/
  | vcmpr (o : OpVa)
  /-- `VEXPD` (R142). -/
  | vexpd (o : OpVa)
  /-- `VSLUP` (R143). -/
  | vslup (o : OpVa)
  /-- `VSLDN` (R143). -/
  | vsldn (o : OpVa)
  /-- `VPERM` (R144). -/
  | vperm (o : OpVa)
  /-- `VPUSH` (R145). -/
  | vpush (o : OpVa)
  /-- `VLAST` (R146). -/
  | vlast (o : OpVa)
  /-- `VGET` (R146). -/
  | vget (o : OpVa)
  /-- `VPUT` (R146). -/
  | vput (o : OpVa)
  /-- `VTAG` (R147). -/
  | vtag (o : OpVa)
  /-- `VTAGX` (R147). -/
  | vtagx (o : OpVa)
  /-- `VTAGR` (R147). -/
  | vtagr (o : OpVa)
  /-- `TKINIT` (R249). -/
  | tkinit (o : OpVa)
  /-- `TKPUSH` (R250). -/
  | tkpush (o : OpVa)
  /-- `TKPOP` (R251). -/
  | tkpop (o : OpVa)
  /-- `TKSAL` (R250). -/
  | tksal (o : OpVa)
  /-- `MZERO` (R273). -/
  | mzero (o : OpMx)
  /-- `XACC` (R274). -/
  | xacc (o : OpMx)
  /-- `XACCT` (R274). -/
  | xacct (o : OpMx)
  /-- `MEXT` (R277). -/
  | mext (o : OpMx)
  /-- `GXACCT` (R278). -/
  | gxacct (o : OpMx)
  /-- `TSET` (R268). -/
  | tset (o : OpMx)
  /-- `CPY` (R256). -/
  | cpy (o : OpR)
  /-- `CPYRED` (R256). -/
  | cpyred (o : OpR)
  /-- `PFS` (R219). -/
  | pfs (o : OpR)
  /-- `PFSTOP` (R221). -/
  | pfstop (o : OpR)
  /-- `TWANY` (R260). -/
  | twany (o : OpR)
  /-- `TWALL` (R260). -/
  | twall (o : OpR)
  /-- `TFIRST` (R260). -/
  | tfirst (o : OpR)
  /-- `TCLR` (R260). -/
  | tclr (o : OpR)
  /-- `TSTAT` (R260). -/
  | tstat (o : OpR)
  /-- `BANKSET` (R203). -/
  | bankset (o : OpR)
  /-- `CFLUSH` (R265). -/
  | cflush (o : OpR)
  /-- `CINVAL` (R265). -/
  | cinval (o : OpR)
  /-- `PGMIG` (R316). -/
  | pgmig (o : OpR)
  /-- `KSINS` (R242). -/
  | ksins (o : OpVa)
  /-- `KSLKP` (R243). -/
  | kslkp (o : OpVa)
  /-- `KSACC` (R242). -/
  | ksacc (o : OpVa)
  /-- `KSDRAIN` (R244). -/
  | ksdrain (o : OpVa)
  /-- `KSCLR` (R245). -/
  | ksclr (o : OpVa)
  /-- `KSCNT` (R245). -/
  | kscnt (o : OpVa)
  /-- `LTLD` (R246). -/
  | ltld (o : OpVa)
  /-- `LTST` (R246). -/
  | ltst (o : OpVa)
  /-- `LTFILL` (R247). -/
  | ltfill (o : OpVa)
  /-- `TMBIND` (R284). -/
  | tmbind (o : OpVa)
  /-- `TMMAP` (R287). -/
  | tmmap (o : OpVa)
  /-- `TMCOMP` (R288). -/
  | tmcomp (o : OpVa)
  /-- `TMRUN` (R289). -/
  | tmrun (o : OpVa)
  /-- `TMMASK` (R290). -/
  | tmmask (o : OpVa)
  /-- `HGBIND` (R299). -/
  | hgbind (o : OpVa)
  /-- `HGINT` (R294). -/
  | hgint (o : OpVa)
  /-- `HGMRG` (R294). -/
  | hgmrg (o : OpVa)
  /-- `HGSAVE` (R297). -/
  | hgsave (o : OpVa)
  /-- `HGREST` (R297). -/
  | hgrest (o : OpVa)
  /-- `HGSPLIT` (R296). -/
  | hgsplit (o : OpVa)
  /-- `HGDONE` (R300). -/
  | hgdone (o : OpVa)
  /-- `BARINIT` (R191). -/
  | barinit (o : OpR)
  /-- `BARARR` (R191). -/
  | bararr (o : OpR)
  /-- `BARWAIT` (R191). -/
  | barwait (o : OpR)
  /-- `BARSYNC` (R191). -/
  | barsync (o : OpR)
  /-- `GANG` (R195). -/
  | gang (o : OpR)
  /-- `GLEAVE` (R195). -/
  | gleave (o : OpR)
  /-- `MSGSND` (R196). -/
  | msgsnd (o : OpR)
  /-- `MSGRCV` (R196). -/
  | msgrcv (o : OpR)
  /-- `MSGTRY` (R196). -/
  | msgtry (o : OpR)
  /-- `YIELD` (R198). -/
  | yield (o : OpR)
  /-- `VSYNC` (R198). -/
  | vsync (o : OpR)
  /-- `LDAQ` (R182). -/
  | ldaq (o : OpAmo)
  /-- `STRL` (R182). -/
  | strl (o : OpAmo)
  /-- `AMOADD` (R182). -/
  | amoadd (o : OpAmo)
  /-- `AMOSWAP` (R182). -/
  | amoswap (o : OpAmo)
  /-- `AMOAND` (R182). -/
  | amoand (o : OpAmo)
  /-- `AMOOR` (R182). -/
  | amoor (o : OpAmo)
  /-- `AMOMIN` (R182). -/
  | amomin (o : OpAmo)
  /-- `AMOMAX` (R182). -/
  | amomax (o : OpAmo)
  /-- `AMOCAS` (R182). -/
  | amocas (o : OpAmo)
  /-- `AMOBINC` (R182). -/
  | amobinc (o : OpAmo)
  /-- `FENCE` (R184). -/
  | fence (o : OpAmo)
  /-- `WAITA` (R185). -/
  | waita (o : OpAmo)
  /-- `C_ADD` (R41). -/
  | cAdd (o : OpC)
  /-- `C_SUB` (R41). -/
  | cSub (o : OpC)
  /-- `C_AND` (R41). -/
  | cAnd (o : OpC)
  /-- `C_OR` (R41). -/
  | cOr (o : OpC)
  /-- `C_XOR` (R41). -/
  | cXor (o : OpC)
  /-- `C_SLL` (R41). -/
  | cSll (o : OpC)
  /-- `C_SRL` (R41). -/
  | cSrl (o : OpC)
  /-- `C_ADDI` (R41). -/
  | cAddi (o : OpC)
  /-- `C_MV` (R41). -/
  | cMv (o : OpC)
  /-- `C_VADD` (R41). -/
  | cVadd (o : OpC)
  /-- `C_VSUB` (R41). -/
  | cVsub (o : OpC)
  /-- `C_VMUL` (R41). -/
  | cVmul (o : OpC)
  /-- `C_VFMA` (R41). -/
  | cVfma (o : OpC)
  /-- `C_VMAX` (R41). -/
  | cVmax (o : OpC)
  /-- `C_VMIN` (R41). -/
  | cVmin (o : OpC)
  /-- `C_VAND` (R41). -/
  | cVand (o : OpC)
  /-- `C_VOR` (R41). -/
  | cVor (o : OpC)
  /-- `C_VXOR` (R41). -/
  | cVxor (o : OpC)
  /-- `C_VMV` (R41). -/
  | cVmv (o : OpC)
  /-- `FAULT_QUEUE_APPEND` (R314). -/
  | faultQueueAppend
  /-- `FAULT_OUTCOME_RESUME` (R315). -/
  | faultOutcomeResume (r : Nat)
  /-- `FAULT_OUTCOME_DELIVER` (R315). -/
  | faultOutcomeDeliver (r : Nat) (code : BitVec 8)
  /-- `VIQ_ENTRY_COMPLETE` (R17). -/
  | viqEntryComplete (o : CompleteEntryArgs)
  /-- `VIQ_ENTRY_TRAP` (R308). -/
  | viqEntryTrap (c : Bool)
  /-- `CONVOY_START` (R174). -/
  | convoyStart (c : Bool)
  /-- `ELEMENT_GROUP_ISSUE` (R174). -/
  | elementGroupIssue (o : GroupArgs)
  /-- `ISSUE_STARVATION_TIMEOUT` (R170). -/
  | issueStarvationTimeout (c : Bool)
  /-- `LAUNCH_TAKE` (R166). -/
  | launchTake (table : Option (BitVec 64))
  /-- `LOT_PLACE` (R168). -/
  | lotPlace (l : List PlaceArgs)
  /-- `NEXT_LOT_RUNAHEAD` (R173). -/
  | nextLotRunahead (o : PlaceArgs)
  /-- `LOT_COMPLETE` (R23). -/
  | lotComplete (o : CompleteArgs)
  /-- `PREEMPTION_EVENT` (R307). -/
  | preemptionEvent (c : Bool)
  /-- `KILL_EVENT` (R323). -/
  | killEvent (c : Bool)
  /-- `DEBUG_STOP_EVENT` (R338). -/
  | debugStopEvent (c : Bool)
  /-- `HOST_HALT` (R336). -/
  | hostHalt (c : Bool)
  /-- `DEBUG_RESUME` (R338). -/
  | debugResume (c : Bool)
  /-- `TRACE_SAMPLE` (R341). -/
  | traceSample (c : Bool) (time : BitVec 64)
  /-- `TRACE_BUFFER_DRAIN` (R342). -/
  | traceBufferDrain
  /-- `TRACE_GATING_DRAIN_TIMEOUT` (R344). -/
  | traceGatingDrainTimeout
  /-- `WAITA_WAKE` (R185). -/
  | waitaWake (c : Bool)
  /-- `BARRIER_WAIT_WAKE` (R191). -/
  | barrierWaitWake (c : Bool)
  /-- `GANG_WAIT_WAKE` (R195). -/
  | gangWaitWake (o : GangWakeArgs)
  /-- `TAG_WAIT_WAKE` (R260). -/
  | tagWaitWake (c : Bool)
  /-- `MSGRCV_WAKE` (R196). -/
  | msgrcvWake (c : Bool)
  /-- `WFI_WAKE` (R310). -/
  | wfiWake (c : Bool)
  /-- `PREFETCH_LINE_ISSUE` (R220). -/
  | prefetchLineIssue (slot : Nat)
  /-- `PREFETCH_LINE_ARRIVAL` (R220). -/
  | prefetchLineArrival (slot : Nat)
  /-- `COPY_ENGINE_RUN` (R256). -/
  | copyEngineRun (slot n : Nat)
  /-- `COPY_COMPLETE` (R258). -/
  | copyComplete (slot : Nat)
  /-- `MIGRATION_COMPLETE` (R316). -/
  | migrationComplete (slot : Nat)
  /-- `HELD_ACCESS_RESUME` (R253). -/
  | heldAccessResume
  /-- `HOST_CXL_MEM_READ` (R234). -/
  | hostCxlMemRead (addr n : Nat)
  /-- `HOST_CXL_MEM_WRITE` (R234). -/
  | hostCxlMemWrite (addr : Nat) (bytes : WriteData)
  /-- `HOST_ATOMIC` (R234). -/
  | hostAtomic (addr : Nat) (op : RmwOp) (wide : Bool) (v : BitVec 64)
  /-- `HOST_SNOOP` (R363). -/
  | hostSnoop (addr : SnoopArgs)
  /-- `PEER_REQUEST` (R370). -/
  | peerRequest (o : PeerArgs)
  /-- `CLUSTER_IDLE_ENTRY` (R402). -/
  | clusterIdleEntry
  /-- `CLUSTER_GATE` (R402). -/
  | clusterGate
  /-- `THERMAL_STEP_DOWN` (R403). -/
  | thermalStepDown (die : BitVec 2)
  /-- `THERMAL_SHUTDOWN` (R403). -/
  | thermalShutdown
  /-- `LINK_FLIT_CRC_FAIL` (R360). -/
  | linkFlitCrcFail (o : FlitArgs)
  /-- `LINK_RETRAIN` (R360). -/
  | linkRetrain (link : BitVec 2)
  /-- `LINK_DOWN` (R361). -/
  | linkDown (link : BitVec 2)
  /-- `DIE_ANSWER_TIMEOUT` (R361). -/
  | dieAnswerTimeout (die : BitVec 2)
  /-- `UCIE_MODULE_DOWN` (R362). -/
  | ucieModuleDown (die : BitVec 2)
  /-- `UCIE_WIDTH_DEGRADE` (R362). -/
  | ucieWidthDegrade (die : BitVec 2)
  /-- `UALINK_PORT_DOWN` (R369). -/
  | ualinkPortDown (port : Fin 12)
  /-- `POWER_ON_BOOT` (R399). -/
  | powerOnBoot (sentinel tail : Nat)
  /-- `PILOT_RESET` (R404). -/
  | pilotReset
  /-- `HOST_CXL_RESET` (R404). -/
  | hostCxlReset
  /-- `THROTTLE` (R403). -/
  | throttle (die : BitVec 2) (cap : Fin 9)
  /-- `DIELOST` (R404). -/
  | dielost (die : BitVec 2)
  /-- `ERASESTORE` (R404). -/
  | erasestore
  /-- `SETUALID` (R404). -/
  | setualid (id : BitVec 10)
  /-- `KEYWAYDIGEST` (R401). -/
  | keywaydigest (digest : List Byte)
  /-- `FWDEBUG` (R401). -/
  | fwdebug (o : DebugAnswer)
  /-- `SET_ENDPOINT_ID` (R397). -/
  | setEndpointId (eid : BitVec 8)
  /-- `GET_ENDPOINT_ID` (R397). -/
  | getEndpointId
  /-- `GET_MESSAGE_TYPE_SUPPORT` (R397). -/
  | getMessageTypeSupport
  /-- `PLDM_NUMERIC_SENSOR` (R397). -/
  | pldmNumericSensor (sensor : Nat)
  /-- `PLDM_STATE_SENSOR` (R397). -/
  | pldmStateSensor (sensor : Nat)
  /-- `PLDM_EVENT_LOG` (R397). -/
  | pldmEventLog
  /-- `REQUEST_UPDATE` (R397). -/
  | requestUpdate
  /-- `PASS_COMPONENT_TABLE` (R397). -/
  | passComponentTable (table : List Component)
  /-- `UPDATE_COMPONENT` (R397). -/
  | updateComponent (comp : Component) (image : FlashImage)
  /-- `TRANSFER_COMPLETE` (R397). -/
  | transferComplete
  /-- `VERIFY_COMPLETE` (R397). -/
  | verifyComplete
  /-- `APPLY_COMPLETE` (R397). -/
  | applyComplete
  /-- `ACTIVATE_FIRMWARE` (R397). -/
  | activateFirmware
  /-- `GET_VERSION` (R397). -/
  | getVersion
  /-- `GET_CAPABILITIES` (R397). -/
  | getCapabilities
  /-- `NEGOTIATE_ALGORITHMS` (R400). -/
  | negotiateAlgorithms (sm2 sm3 : Bool)
  /-- `GET_DIGESTS` (R397). -/
  | getDigests
  /-- `GET_CERTIFICATE` (R400). -/
  | getCertificate
  /-- `CHALLENGE` (R397). -/
  | challenge (nonce : List Byte)
  /-- `GET_MEASUREMENTS` (R400). -/
  | getMeasurements (index : Nat)
  /-- `KWCMD_UNLOCK` (R333). -/
  | kwcmdUnlock
  /-- `KWCMD_LOCK` (R368). -/
  | kwcmdLock
  /-- `REPLAY_START` (R349). -/
  | replayStart (addr : BitVec 64)
  /-- `REPLAY_PASS_END` (R350). -/
  | replayPassEnd (cycles mj : BitVec 64)
  /-- `LSTAT_READ` (R367). -/
  | lstatRead
  /-- `PAIR_TABLE_CLEAR` (R348). -/
  | pairTableClear
  /-- `CTXOP_SAVE` (R329). -/
  | ctxopSave (c : Bool)
  /-- `CTXOP_RESTORE` (R329). -/
  | ctxopRestore (c : Bool)
  /-- `CONTROL_WINDOW_WRITE` (R366). -/
  | controlWindowWrite (off : Nat) (bytes : List Byte)
  /-- `GALYS_TRANSLATION_DONE` (R390). -/
  | galysTranslationDone (o : TranslationArgs)
  /-- `TRANSLATION_STORE_RECLAIM` (R391). -/
  | translationStoreReclaim
  /-- `DECODE_TABLE_LOAD` (R385). -/
  | decodeTableLoad
  /-- `CORE_CYCLE` (R345). -/
  | coreCycle (o : CycleArgs)
  /-- `ECC_ERROR` (R320). -/
  | eccError (o : EccArgs)
  /-- `FREE_GANG_NUMBER_WAKE` (R195). -/
  | freeGangNumberWake (o : GangFreeArgs)
  /-- `POWER_LOSS` (R392). -/
  | powerLoss (cut : Bool)
  /-- `UCIE_LANE_REPAIR` (R362). -/
  | ucieLaneRepair (die : BitVec 2)
  /-- `UCIE_L1_ENTRY` (R362). -/
  | ucieL1Entry (die : BitVec 2)
  /-- `UCIE_L1_EXIT` (R362). -/
  | ucieL1Exit (die : BitVec 2)
  /-- `I3C_DYNAMIC_ADDRESS` (R397). -/
  | i3cDynamicAddress (addr : BitVec 7)
  deriving DecidableEq, Repr

end Sys2Proof
end

