-- ==== Sys2Proof/WellFormed.lean ====
section
/-! DEFINITION. Which instructions the encoding rules of 02 R35 allow: must-be-zero fields (R28), mask
numbers (R105, R133, R150, R238, R280), required and forbidden governing masks, reserved widths, scopes, hints,
precisions and lengths. An instruction that fails here is an illegal encoding (R35); what depends on the
mode (R305) is checked when it executes. Steps of other agents have no encoding and are always well-formed. -/

namespace Sys2Proof

/-- The encoding rules of R35 for each instruction. -/
def Instr.wf : Instr → Bool
  | .add _ => true
  | .sub _ => true
  | .and _ => true
  | .or _ => true
  | .xor _ => true
  | .andn _ => true
  | .sll _ => true
  | .srl _ => true
  | .sra _ => true
  | .slt _ => true
  | .sltu _ => true
  | .min _ => true
  | .max _ => true
  | .minu _ => true
  | .maxu _ => true
  | .mul _ => true
  | .mulh _ => true
  | .mulhu _ => true
  | .div _ => true
  | .divu _ => true
  | .rem _ => true
  | .remu _ => true
  | .clz o => o.b == 0
  | .ctz o => o.b == 0
  | .popc o => o.b == 0
  | .fadd o => decide (o.p < 2)
  | .fsub o => decide (o.p < 2)
  | .fmul o => decide (o.p < 2)
  | .fdiv o => decide (o.p < 2)
  | .fmin o => decide (o.p < 2)
  | .fmax o => decide (o.p < 2)
  | .feq o => decide (o.p < 2)
  | .flt o => decide (o.p < 2)
  | .fle o => decide (o.p < 2)
  | .fsqrt o => o.b == 0 && decide (o.p < 2)
  | .fcvti o => o.b == 0 && decide (o.p < 2)
  | .fcvtf o => o.b == 0 && decide (o.p < 2)
  | .fcvtw o => o.b == 0 && decide (o.p < 2)
  | .addi _ => true
  | .andi _ => true
  | .ori _ => true
  | .xori _ => true
  | .slti _ => true
  | .sltiu _ => true
  | .slli _ => true
  | .srli _ => true
  | .srai _ => true
  | .muli _ => true
  | .addiWide _ => true
  | .andiWide _ => true
  | .oriWide _ => true
  | .xoriWide _ => true
  | .sltiWide _ => true
  | .sltiuWide _ => true
  | .muliWide _ => true
  | .lup _ => true
  | .lupWide _ => true
  | .lb _ => true
  | .lh _ => true
  | .lw _ => true
  | .ld _ => true
  | .lbu _ => true
  | .lhu _ => true
  | .lwu _ => true
  | .lbWide _ => true
  | .lhWide _ => true
  | .lwWide _ => true
  | .ldWide _ => true
  | .lbuWide _ => true
  | .lhuWide _ => true
  | .lwuWide _ => true
  | .sb _ => true
  | .sh _ => true
  | .sw _ => true
  | .sd _ => true
  | .sbWide _ => true
  | .shWide _ => true
  | .swWide _ => true
  | .sdWide _ => true
  | .beqz _ => true
  | .bnez _ => true
  | .bltz _ => true
  | .bgez _ => true
  | .bgtz _ => true
  | .blez _ => true
  | .bdnz _ => true
  | .beqzWide _ => true
  | .bnezWide _ => true
  | .bltzWide _ => true
  | .bgezWide _ => true
  | .bgtzWide _ => true
  | .blezWide _ => true
  | .bdnzWide _ => true
  | .bany _ => true
  | .ball _ => true
  | .bnone _ => true
  | .bnall _ => true
  | .banyWide _ => true
  | .ballWide _ => true
  | .bnoneWide _ => true
  | .bnallWide _ => true
  | .jal _ => true
  | .jalWide _ => true
  | .jalr _ => true
  | .jalrWide _ => true
  | .srd o => o.a == 0 && o.imm.getLsbD 10 == false
  | .swr o => o.imm.getLsbD 10 == false
  | .sset o => o.imm.getLsbD 10 == false
  | .sclr o => o.imm.getLsbD 10 == false
  | .ecall o => o.d == 0 && o.a == 0
  | .ebreak o => o.d == 0 && o.a == 0
  | .eret o => o.d == 0 && o.a == 0
  | .wfi o => o.d == 0 && o.a == 0
  | .ifence o => o.d == 0 && o.a == 0
  | .tlbinv o => o.d == 0
  | .tlbinva o => o.d == 0
  | .exit o => o.d == 0 && o.a == 0
  | .pgsplice o => decide (1 ≤ o.imm ∧ o.imm ≤ 64)
  | .loop _ => true
  | .loopWide _ => true
  | .vcfg o => o.t.extractLsb' 11 2 == 0 && decide (o.t.extractLsb' 8 3 < 6)
  | .vcfgr _ => true
  | .vaddVv _ => true
  | .vsubVv _ => true
  | .vrsubVv _ => true
  | .vminVv _ => true
  | .vmaxVv _ => true
  | .vandVv _ => true
  | .vorVv _ => true
  | .vxorVv _ => true
  | .vandnVv _ => true
  | .vsllVv _ => true
  | .vsrlVv _ => true
  | .vsraVv _ => true
  | .vsaddVv _ => true
  | .vssubVv _ => true
  | .vabsdVv _ => true
  | .vavgVv _ => true
  | .vmulhVv _ => true
  | .vdivVv _ => true
  | .vremVv _ => true
  | .vceqVv o => decide (o.d < 16)
  | .vcneVv o => decide (o.d < 16)
  | .vcltVv o => decide (o.d < 16)
  | .vcleVv o => decide (o.d < 16)
  | .vcgtVv o => decide (o.d < 16)
  | .vcgeVv o => decide (o.d < 16)
  | .vmergeVv o => o.m != 15
  | .vmvVv o => o.b == 0
  | .vsgnjVv _ => true
  | .vaddVx _ => true
  | .vsubVx _ => true
  | .vrsubVx _ => true
  | .vminVx _ => true
  | .vmaxVx _ => true
  | .vandVx _ => true
  | .vorVx _ => true
  | .vxorVx _ => true
  | .vandnVx _ => true
  | .vsllVx _ => true
  | .vsrlVx _ => true
  | .vsraVx _ => true
  | .vsaddVx _ => true
  | .vssubVx _ => true
  | .vabsdVx _ => true
  | .vavgVx _ => true
  | .vmulhVx _ => true
  | .vdivVx _ => true
  | .vremVx _ => true
  | .vceqVx o => decide (o.d < 16)
  | .vcneVx o => decide (o.d < 16)
  | .vcltVx o => decide (o.d < 16)
  | .vcleVx o => decide (o.d < 16)
  | .vcgtVx o => decide (o.d < 16)
  | .vcgeVx o => decide (o.d < 16)
  | .vmergeVx o => o.m != 15
  | .vmvVx _ => true
  | .vsgnjVx _ => true
  | .vaddVxWide o => o.b == 0
  | .vsubVxWide o => o.b == 0
  | .vrsubVxWide o => o.b == 0
  | .vminVxWide o => o.b == 0
  | .vmaxVxWide o => o.b == 0
  | .vandVxWide o => o.b == 0
  | .vorVxWide o => o.b == 0
  | .vxorVxWide o => o.b == 0
  | .vandnVxWide o => o.b == 0
  | .vsllVxWide o => o.b == 0
  | .vsrlVxWide o => o.b == 0
  | .vsraVxWide o => o.b == 0
  | .vsaddVxWide o => o.b == 0
  | .vssubVxWide o => o.b == 0
  | .vabsdVxWide o => o.b == 0
  | .vavgVxWide o => o.b == 0
  | .vmulhVxWide o => o.b == 0
  | .vdivVxWide o => o.b == 0
  | .vremVxWide o => o.b == 0
  | .vceqVxWide o => o.b == 0 && decide (o.d < 16)
  | .vcneVxWide o => o.b == 0 && decide (o.d < 16)
  | .vcltVxWide o => o.b == 0 && decide (o.d < 16)
  | .vcleVxWide o => o.b == 0 && decide (o.d < 16)
  | .vcgtVxWide o => o.b == 0 && decide (o.d < 16)
  | .vcgeVxWide o => o.b == 0 && decide (o.d < 16)
  | .vmergeVxWide o => o.b == 0 && o.m != 15
  | .vmvVxWide o => o.b == 0
  | .vsgnjVxWide o => o.b == 0
  | .vfmaVfv _ => true
  | .vfmsVfv _ => true
  | .vfnmaVfv _ => true
  | .vmulVfv _ => true
  | .vfmaVfx _ => true
  | .vfmsVfx _ => true
  | .vfnmaVfx _ => true
  | .vmulVfx _ => true
  | .vdot _ => true
  | .vssmx _ => true
  | .vcvt _ => true
  | .vneg _ => true
  | .vabs _ => true
  | .vsqrt _ => true
  | .vrcp _ => true
  | .vrsqrt _ => true
  | .vexp2 _ => true
  | .vlog2 _ => true
  | .vtanh _ => true
  | .vsigm _ => true
  | .verf _ => true
  | .vround _ => true
  | .vpopc _ => true
  | .vclz _ => true
  | .vid o => o.a == 0
  | .vclass _ => true
  | .vld o => o.b == 0 && decide (o.h < 3)
  | .vlds o => decide (o.h < 3)
  | .vldx o => decide (o.h < 3)
  | .vldff o => o.b == 0 && decide (o.h < 3) && o.m != 15
  | .vldWide o => o.b == 0 && decide (o.h < 3)
  | .vldsWide o => decide (o.h < 3)
  | .vldxWide o => decide (o.h < 3)
  | .vldffWide o => o.b == 0 && decide (o.h < 3) && o.m != 15
  | .vst o => o.b == 0 && decide (o.h < 3)
  | .vsts o => decide (o.h < 3)
  | .vstx o => decide (o.h < 3)
  | .vstu o => o.b == 0 && decide (o.h < 3)
  | .vstsu o => decide (o.h < 3)
  | .vstxu o => decide (o.h < 3)
  | .vstWide o => o.b == 0 && decide (o.h < 3)
  | .vstsWide o => decide (o.h < 3)
  | .vstxWide o => decide (o.h < 3)
  | .vstuWide o => o.b == 0 && decide (o.h < 3)
  | .vstsuWide o => decide (o.h < 3)
  | .vstxuWide o => decide (o.h < 3)
  | .vamoadd _ => true
  | .vamobinc _ => true
  | .vamomin _ => true
  | .vamomax _ => true
  | .vamoswap _ => true
  | .vamoaddWide _ => true
  | .vamobincWide _ => true
  | .vamominWide _ => true
  | .vamomaxWide _ => true
  | .vamoswapWide _ => true
  | .mand o => decide (o.d < 16) && decide (o.a < 16) && decide (o.b < 16)
  | .mor o => decide (o.d < 16) && decide (o.a < 16) && decide (o.b < 16)
  | .mxor o => decide (o.d < 16) && decide (o.a < 16) && decide (o.b < 16)
  | .mandn o => decide (o.d < 16) && decide (o.a < 16) && decide (o.b < 16)
  | .mnot o => o.b == 0 && decide (o.d < 16) && decide (o.a < 16)
  | .mcnt o => o.b == 0 && decide (o.a < 16)
  | .many o => o.b == 0 && decide (o.a < 16)
  | .mfirst o => o.b == 0 && decide (o.a < 16)
  | .msbf o => o.b == 0 && decide (o.d < 16) && decide (o.a < 16)
  | .msif o => o.b == 0 && decide (o.d < 16) && decide (o.a < 16)
  | .mwhile o => decide (o.d < 16)
  | .mfromv o => o.b == 0 && decide (o.d < 16)
  | .mtov o => o.b == 0 && decide (o.a < 16)
  | .vconf _ => true
  | .vpart o => o.b == 0 && decide (o.d < 16)
  | .vpartb o => decide (o.d < 16) && decide (o.b < 16)
  | .rsum _ => true
  | .rsumu _ => true
  | .rmax _ => true
  | .rmin _ => true
  | .rmaxi _ => true
  | .rmini _ => true
  | .rand _ => true
  | .ror _ => true
  | .rxor _ => true
  | .vscan _ => true
  | .vcmpr o => o.b == 0
  | .vexpd o => o.b == 0
  | .vslup _ => true
  | .vsldn _ => true
  | .vperm _ => true
  | .vpush _ => true
  | .vlast _ => true
  | .vget o => o.m == 15
  | .vput o => o.m == 15
  | .vtag o => o.m == 15
  | .vtagx o => o.b == 0 && o.m == 15
  | .vtagr o => o.b == 0 && o.m == 15
  | .tkinit o => o.d == 0 && o.m == 15
  | .tkpush o => o.d == 0
  | .tkpop o => o.a == 0 && o.m != 15
  | .tksal o => o.d == 0
  | .mzero o => o.d == 0 && o.a == 0 && o.b == 0
  | .xacc o => decide (o.d < 8)
  | .xacct o => decide (o.d < 8) && decide (o.a < 8) && decide (o.b < 8)
  | .mext o => decide (o.a < 8)
  | .gxacct o => decide (o.d < 8) && decide (o.a < 8) && decide (o.b < 8)
  | .tset o => decide (o.d < 8) && o.ac == 0 && o.m == 15
  | .cpy o => o.d == 0
  | .cpyred o => o.d == 0
  | .pfs _ => true
  | .pfstop o => o.b == 0
  | .twany o => o.b == 0
  | .twall o => o.b == 0
  | .tfirst o => o.b == 0
  | .tclr o => o.b == 0
  | .tstat o => o.b == 0
  | .bankset _ => true
  | .cflush _ => true
  | .cinval _ => true
  | .pgmig o => o.d == 0
  | .ksins o => decide (o.d < 16)
  | .kslkp o => decide (o.b < 16)
  | .ksacc o => decide (o.d < 16)
  | .ksdrain o => o.a == 0 && o.m != 15
  | .ksclr o => o.d == 0 && o.a == 0 && o.b == 0 && o.m == 15
  | .kscnt o => o.a == 0 && o.b == 0 && o.m == 15
  | .ltld o => o.b == 0
  | .ltst o => o.b == 0
  | .ltfill o => o.d == 0 && o.m == 15
  | .tmbind o => o.d == 0 && o.b == 0 && o.m == 15
  | .tmmap o => decide (o.b < 16)
  | .tmcomp o => decide (o.b < 16) && o.m == 15
  | .tmrun _ => true
  | .tmmask o => decide (o.d < 16)
  | .hgbind o => o.m == 15
  | .hgint o => o.m != 15
  | .hgmrg o => o.m != 15
  | .hgsave o => o.d == 0 && o.b == 0 && o.m == 15
  | .hgrest o => o.d == 0 && o.b == 0 && o.m == 15
  | .hgsplit _ => true
  | .hgdone o => o.a == 0 && o.b == 0 && o.m == 15
  | .barinit o => o.d == 0
  | .bararr o => o.b == 0
  | .barwait _ => true
  | .barsync o => o.b == 0 && o.d != 0
  | .gang _ => true
  | .gleave o => o.d == 0 && o.b == 0
  | .msgsnd _ => true
  | .msgrcv o => o.b == 0
  | .msgtry o => o.b == 0
  | .yield o => o.d == 0 && o.a == 0 && o.b == 0
  | .vsync o => o.d == 0 && o.a == 0 && o.b == 0
  | .ldaq o => o.b == 0 && decide (o.w < 2) && decide (o.s < 5)
  | .strl o => o.d == 0 && decide (o.w < 2) && decide (o.s < 5)
  | .amoadd o => decide (o.w < 2) && decide (o.s < 5)
  | .amoswap o => decide (o.w < 2) && decide (o.s < 5)
  | .amoand o => decide (o.w < 2) && decide (o.s < 5)
  | .amoor o => decide (o.w < 2) && decide (o.s < 5)
  | .amomin o => decide (o.w < 2) && decide (o.s < 5)
  | .amomax o => decide (o.w < 2) && decide (o.s < 5)
  | .amocas o => decide (o.w < 2) && decide (o.s < 5)
  | .amobinc o => decide (o.w < 2) && decide (o.s < 5)
  | .fence o => o.d == 0 && o.a == 0 && o.b == 0 && o.w == 0 && decide (o.s < 5)
  | .waita o => decide (o.w < 2) && decide (o.s < 5)
  | .cAdd _ => true
  | .cSub _ => true
  | .cAnd _ => true
  | .cOr _ => true
  | .cXor _ => true
  | .cSll _ => true
  | .cSrl _ => true
  | .cAddi _ => true
  | .cMv o => o.b == 0
  | .cVadd _ => true
  | .cVsub _ => true
  | .cVmul _ => true
  | .cVfma _ => true
  | .cVmax _ => true
  | .cVmin _ => true
  | .cVand _ => true
  | .cVor _ => true
  | .cVxor _ => true
  | .cVmv o => o.b == 0
  | .faultQueueAppend => true
  | .faultOutcomeResume _ => true
  | .faultOutcomeDeliver _ _ => true
  | .viqEntryComplete _ => true
  | .viqEntryTrap _ => true
  | .convoyStart _ => true
  | .elementGroupIssue _ => true
  | .issueStarvationTimeout _ => true
  | .launchTake _ => true
  | .lotPlace _ => true
  | .nextLotRunahead _ => true
  | .lotComplete _ => true
  | .preemptionEvent _ => true
  | .killEvent _ => true
  | .debugStopEvent _ => true
  | .hostHalt _ => true
  | .debugResume _ => true
  | .traceSample _ _ => true
  | .traceBufferDrain => true
  | .traceGatingDrainTimeout => true
  | .waitaWake _ => true
  | .barrierWaitWake _ => true
  | .gangWaitWake _ => true
  | .tagWaitWake _ => true
  | .msgrcvWake _ => true
  | .wfiWake _ => true
  | .prefetchLineIssue _ => true
  | .prefetchLineArrival _ => true
  | .copyEngineRun _ _ => true
  | .copyComplete _ => true
  | .migrationComplete _ => true
  | .heldAccessResume => true
  | .hostCxlMemRead _ _ => true
  | .hostCxlMemWrite _ _ => true
  | .hostAtomic _ _ _ _ => true
  | .hostSnoop _ => true
  | .peerRequest _ => true
  | .clusterIdleEntry => true
  | .clusterGate => true
  | .thermalStepDown _ => true
  | .thermalShutdown => true
  | .linkFlitCrcFail _ => true
  | .linkRetrain _ => true
  | .linkDown _ => true
  | .dieAnswerTimeout _ => true
  | .ucieModuleDown _ => true
  | .ucieWidthDegrade _ => true
  | .ualinkPortDown _ => true
  | .powerOnBoot _ _ => true
  | .pilotReset => true
  | .hostCxlReset => true
  | .throttle _ _ => true
  | .dielost _ => true
  | .erasestore => true
  | .setualid _ => true
  | .keywaydigest _ => true
  | .fwdebug _ => true
  | .setEndpointId _ => true
  | .getEndpointId => true
  | .getMessageTypeSupport => true
  | .pldmNumericSensor _ => true
  | .pldmStateSensor _ => true
  | .pldmEventLog => true
  | .requestUpdate => true
  | .passComponentTable _ => true
  | .updateComponent _ _ => true
  | .transferComplete => true
  | .verifyComplete => true
  | .applyComplete => true
  | .activateFirmware => true
  | .getVersion => true
  | .getCapabilities => true
  | .negotiateAlgorithms _ _ => true
  | .getDigests => true
  | .getCertificate => true
  | .challenge _ => true
  | .getMeasurements _ => true
  | .kwcmdUnlock => true
  | .kwcmdLock => true
  | .replayStart _ => true
  | .replayPassEnd _ _ => true
  | .lstatRead => true
  | .pairTableClear => true
  | .ctxopSave _ => true
  | .ctxopRestore _ => true
  | .controlWindowWrite _ _ => true
  | .galysTranslationDone _ => true
  | .translationStoreReclaim => true
  | .decodeTableLoad => true
  | .coreCycle _ => true
  | .eccError _ => true
  | .freeGangNumberWake _ => true
  | .powerLoss _ => true
  | .ucieLaneRepair _ => true
  | .ucieL1Entry _ => true
  | .ucieL1Exit _ => true
  | .i3cDynamicAddress _ => true

/-- An instruction that the encoding rules allow. -/
abbrev WellFormed (i : Instr) : Prop := i.wf = true

end Sys2Proof
end

