-- ==== Sys2Proof/Decode.lean ====
section
/-! DEFINITION. The decoder and the encoder (02_encoding.md). An instruction word has its length bits, the convoy
bit and the major opcode in bits [7:0]; the formats of R27 differ in the layout of bits [31:8]. The
decoder splits a word into those fields once, picks the constructor from the tables of R34, R37 and R41, and
then holds the instruction against the rules of R35. -/

namespace Sys2Proof

-- Lean's compiler numbers at most 244 constructors and `Instr` has one for each row of the table, so what builds
-- an `Instr` has no compiled code; the kernel evaluates it all the same.
noncomputable section

/-- Why bytes are no instruction: each is an illegal encoding of R35, but `truncated`, which says
that fewer bytes were given than the length of R24 asks for. -/
inductive DecodeError where
  /-- The bytes end before the instruction does. -/
  | truncated
  /-- A major of 29-31. -/
  | reservedMajor
  /-- A function code that R34 does not assign. -/
  | reservedFunction
  /-- C = 1 in a scalar-domain major (R29). -/
  | convoyBit
  /-- A wide form that R37 does not give. -/
  | notWide
  /-- A compact op value that R41 reserves. -/
  | reservedCompact
  /-- A field rule of R35: `Instr.wf` fails. -/
  | badField
  deriving DecidableEq, Repr

/-- The bytes of an instruction as words of R24. -/
inductive Code where
  | half (h : BitVec 16)
  | word (w : BitVec 32)
  | wide (w0 w1 : BitVec 32)
  deriving DecidableEq, Repr

/-! Function codes, in the order in which R34 lists them. -/

/-- SOP, f9[5:0] = 0-24 (R34). -/
def sopInt : List (OpR → Instr) :=
  [.add, .sub, .and, .or, .xor, .andn, .sll, .srl, .sra, .slt, .sltu, .min, .max, .minu, .maxu,
   .mul, .mulh, .mulhu, .div, .divu, .rem, .remu, .clz, .ctz, .popc]

/-- SOP, f9[5:0] = 25-37 (R34). -/
def sopFloat : List (OpF → Instr) :=
  [.fadd, .fsub, .fmul, .fdiv, .fmin, .fmax, .feq, .flt, .fle, .fsqrt, .fcvti, .fcvtf, .fcvtw]

/-- SIMM, f3 = 0-5 (R34). -/
def simmLow : List (OpI → Instr) :=
  [.addi, .andi, .ori, .xori, .slti, .sltiu]

/-- SIMM, f3 = 6: imm[7:6] (R34). -/
def simmShift : List (OpSh → Instr) :=
  [.slli, .srli, .srai]

/-- Wide SIMM, f3 = 0-5 (R37). -/
def simmLowWide : List (OpIW → Instr) :=
  [.addiWide, .andiWide, .oriWide, .xoriWide, .sltiWide, .sltiuWide]

/-- LD, f3 (R34). -/
def ldTable : List (OpI → Instr) :=
  [.lb, .lh, .lw, .ld, .lbu, .lhu, .lwu]

/-- Wide LD (R37). -/
def ldTableWide : List (OpIW → Instr) :=
  [.lbWide, .lhWide, .lwWide, .ldWide, .lbuWide, .lhuWide, .lwuWide]

/-- ST, f3 (R34). -/
def stTable : List (OpI → Instr) :=
  [.sb, .sh, .sw, .sd]

/-- Wide ST (R37). -/
def stTableWide : List (OpIW → Instr) :=
  [.sbWide, .shWide, .swWide, .sdWide]

/-- AMO, f9[3:0] (R34). -/
def amoTable : List (OpAmo → Instr) :=
  [.ldaq, .strl, .amoadd, .amoswap, .amoand, .amoor, .amomin, .amomax, .amocas, .amobinc, .fence,
   .waita]

/-- BRX, cond (R34). -/
def brxTable : List (OpB → Instr) :=
  [.beqz, .bnez, .bltz, .bgez, .bgtz, .blez, .bdnz]

/-- Wide BRX (R37). -/
def brxTableWide : List (OpBW → Instr) :=
  [.beqzWide, .bnezWide, .bltzWide, .bgezWide, .bgtzWide, .blezWide, .bdnzWide]

/-- BRM, cond (R34). -/
def brmTable : List (OpM → Instr) :=
  [.bany, .ball, .bnone, .bnall]

/-- Wide BRM (R37). -/
def brmTableWide : List (OpMW → Instr) :=
  [.banyWide, .ballWide, .bnoneWide, .bnallWide]

/-- SYS, f3 = 0-3 (R34). -/
def sysReg : List (OpI → Instr) :=
  [.srd, .swr, .sset, .sclr]

/-- SCTL, imm11 (R34). -/
def sctlTable : List (OpCtl → Instr) :=
  [.ecall, .ebreak, .eret, .wfi, .ifence, .tlbinv, .tlbinva, .exit]

/-- VV, f5 (R34). -/
def vvTable : List (OpVa → Instr) :=
  [.vaddVv, .vsubVv, .vrsubVv, .vminVv, .vmaxVv, .vandVv, .vorVv, .vxorVv, .vandnVv, .vsllVv,
   .vsrlVv, .vsraVv, .vsaddVv, .vssubVv, .vabsdVv, .vavgVv, .vmulhVv, .vdivVv, .vremVv, .vceqVv,
   .vcneVv, .vcltVv, .vcleVv, .vcgtVv, .vcgeVv, .vmergeVv, .vmvVv, .vsgnjVv]

/-- VX, f5 (R34). -/
def vxTable : List (OpVa → Instr) :=
  [.vaddVx, .vsubVx, .vrsubVx, .vminVx, .vmaxVx, .vandVx, .vorVx, .vxorVx, .vandnVx, .vsllVx,
   .vsrlVx, .vsraVx, .vsaddVx, .vssubVx, .vabsdVx, .vavgVx, .vmulhVx, .vdivVx, .vremVx, .vceqVx,
   .vcneVx, .vcltVx, .vcleVx, .vcgtVx, .vcgeVx, .vmergeVx, .vmvVx, .vsgnjVx]

/-- Wide VX (R37). -/
def vxTableWide : List (OpVaW → Instr) :=
  [.vaddVxWide, .vsubVxWide, .vrsubVxWide, .vminVxWide, .vmaxVxWide, .vandVxWide, .vorVxWide,
   .vxorVxWide, .vandnVxWide, .vsllVxWide, .vsrlVxWide, .vsraVxWide, .vsaddVxWide, .vssubVxWide,
   .vabsdVxWide, .vavgVxWide, .vmulhVxWide, .vdivVxWide, .vremVxWide, .vceqVxWide, .vcneVxWide,
   .vcltVxWide, .vcleVxWide, .vcgtVxWide, .vcgeVxWide, .vmergeVxWide, .vmvVxWide, .vsgnjVxWide]

/-- VFV, f2 (R34). -/
def vfvTable : List (OpVf → Instr) :=
  [.vfmaVfv, .vfmsVfv, .vfnmaVfv, .vmulVfv]

/-- VFX, f2 (R34). -/
def vfxTable : List (OpVf → Instr) :=
  [.vfmaVfx, .vfmsVfx, .vfnmaVfx, .vmulVfx]

/-- VW, f2 (R34). -/
def vwTable : List (OpVf → Instr) :=
  [.vdot, .vssmx]

/-- VU, f5 (R34). -/
def vuTable : List (OpVu → Instr) :=
  [.vcvt, .vneg, .vabs, .vsqrt, .vrcp, .vrsqrt, .vexp2, .vlog2, .vtanh, .vsigm, .verf, .vround,
   .vpopc, .vclz, .vid, .vclass]

/-- VLD, mode (R34). -/
def vldTable : List (OpVm → Instr) :=
  [.vld, .vlds, .vldx, .vldff]

/-- Wide VLD (R37). -/
def vldTableWide : List (OpVmW → Instr) :=
  [.vldWide, .vldsWide, .vldxWide, .vldffWide]

/-- VST, mode (R34). -/
def vstTable : List (OpVm → Instr) :=
  [.vst, .vsts, .vstx, .vstu, .vstsu, .vstxu]

/-- Wide VST (R37). -/
def vstTableWide : List (OpVmW → Instr) :=
  [.vstWide, .vstsWide, .vstxWide, .vstuWide, .vstsuWide, .vstxuWide]

/-- VAMO, mode (R34). -/
def vamoTable : List (OpVm → Instr) :=
  [.vamoadd, .vamobinc, .vamomin, .vamomax, .vamoswap]

/-- Wide VAMO (R37). -/
def vamoTableWide : List (OpVmW → Instr) :=
  [.vamoaddWide, .vamobincWide, .vamominWide, .vamomaxWide, .vamoswapWide]

/-- VMSK, f5 (R34). -/
def vmskTable : List (OpVa → Instr) :=
  [.mand, .mor, .mxor, .mandn, .mnot, .mcnt, .many, .mfirst, .msbf, .msif, .mwhile, .mfromv, .mtov,
   .vconf, .vpart, .vpartb]

/-- VPRM, f5 (R34). -/
def vprmTable : List (OpVa → Instr) :=
  [.rsum, .rsumu, .rmax, .rmin, .rmaxi, .rmini, .rand, .ror, .rxor, .vscan, .vcmpr, .vexpd, .vslup,
   .vsldn, .vperm, .vpush, .vlast, .vget, .vput, .vtag, .vtagx, .vtagr, .tkinit, .tkpush, .tkpop,
   .tksal]

/-- MTX, f3 (R34). -/
def mtxTable : List (OpMx → Instr) :=
  [.mzero, .xacc, .xacct, .mext, .gxacct, .tset]

/-- ASYNC, f5 (R34). -/
def asyncTable : List (OpR → Instr) :=
  [.cpy, .cpyred, .pfs, .pfstop, .twany, .twall, .tfirst, .tclr, .tstat, .bankset, .cflush,
   .cinval, .pgmig]

/-- KEYS, f5 (R34). -/
def keysTable : List (OpVa → Instr) :=
  [.ksins, .kslkp, .ksacc, .ksdrain, .ksclr, .kscnt, .ltld, .ltst, .ltfill]

/-- ENG, f5 (R34). -/
def engTable : List (OpVa → Instr) :=
  [.tmbind, .tmmap, .tmcomp, .tmrun, .tmmask, .hgbind, .hgint, .hgmrg, .hgsave, .hgrest, .hgsplit,
   .hgdone]

/-- SYNC, f5 (R34). -/
def syncTable : List (OpR → Instr) :=
  [.barinit, .bararr, .barwait, .barsync, .gang, .gleave, .msgsnd, .msgrcv, .msgtry, .yield,
   .vsync]

/-- Compact ops, cop = 1-19 (R41). -/
def compactTable : List (OpC → Instr) :=
  [.cAdd, .cSub, .cAnd, .cOr, .cXor, .cSll, .cSrl, .cAddi, .cMv, .cVadd, .cVsub, .cVmul, .cVfma,
   .cVmax, .cVmin, .cVand, .cVor, .cVxor, .cVmv]

/-! Fields of bits [31:8], called the body (R27). Every format has d in [4:0] of the body. -/

/-- The `[12:8]` field. -/
def fieldD (w : BitVec 24) : BitVec 5 := w.extractLsb' 0 5
/-- The `[17:13]` field. -/
def fieldA (w : BitVec 24) : BitVec 5 := w.extractLsb' 5 5
/-- The `[22:18]` field. -/
def fieldB (w : BitVec 24) : BitVec 5 := w.extractLsb' 10 5
/-- `[31:23]`: f9, or f5 and mk, or mode, hint and mk (R27). -/
def field9 (w : BitVec 24) : BitVec 9 := w.extractLsb' 15 9
/-- `[20:18]`: f3 of format SI, the level of format L. -/
def field3 (w : BitVec 24) : BitVec 3 := w.extractLsb' 10 3
/-- `[31:21]`: imm11 of format SI, the length of format L. -/
def field11 (w : BitVec 24) : BitVec 11 := w.extractLsb' 13 11
/-- `[31:13]`: imm19 of format U. -/
def field19 (w : BitVec 24) : BitVec 19 := w.extractLsb' 5 19
/-- `[15:13]`: cond of format B. -/
def fieldCond (w : BitVec 24) : BitVec 3 := w.extractLsb' 5 3
/-- `[31:16]`: off16 of format B. -/
def field16 (w : BitVec 24) : BitVec 16 := w.extractLsb' 8 16

/-- `mk`, bits [31:28]. -/
def mkOf (f : BitVec 9) : BitVec 4 := f.extractLsb' 5 4
/-- f5 of formats SR5 and VA, bits [27:23]. -/
def f5Of (f : BitVec 9) : BitVec 5 := f.extractLsb' 0 5
/-- `[25:23]`: fs of formats VF and VU, the mode of format VM. -/
def lowOf (f : BitVec 9) : BitVec 3 := f.extractLsb' 0 3
/-- `[27:26]`: f2 of format VF, the hint or scope of format VM. -/
def midOf (f : BitVec 9) : BitVec 2 := f.extractLsb' 3 2

/-- A constructor from a table by its function code. -/
def pick {α : Type} (table : List (α → Instr)) (code : Nat) (o : α) : Except DecodeError Instr :=
  match table[code]? with
  | some k => .ok (k o)
  | none => .error .reservedFunction

/-- Format SR of major 0: f9[5:0] selects, f9[8:6] is the precision of the float forms (R34). -/
def decodeSop (d a b : BitVec 5) (f : BitVec 9) : Except DecodeError Instr :=
  let sel := (f.extractLsb' 0 6).toNat
  let p := f.extractLsb' 6 3
  if sel < 25 then (if p = 0 then pick sopInt sel ⟨d, a, b⟩ else .error .reservedFunction)
  else pick sopFloat (sel - 25) ⟨p, d, a, b⟩

/-- Format SI of major 1 (R34, R81). -/
def decodeSimm (d a : BitVec 5) (f3 : BitVec 3) (imm : BitVec 11) : Except DecodeError Instr :=
  if f3 = 7 then .ok (.muli ⟨d, a, imm⟩)
  else if f3 = 6 then pick simmShift (imm.extractLsb' 6 5).toNat ⟨d, a, imm.extractLsb' 0 6⟩
  else pick simmLow f3.toNat ⟨d, a, imm⟩

/-- Format SI of major 10 (R34): imm11 selects among the SCTL forms. -/
def decodeSys (d a : BitVec 5) (f3 : BitVec 3) (imm : BitVec 11) : Except DecodeError Instr :=
  if f3 = 4 then pick sctlTable imm.toNat ⟨d, a⟩
  else if f3 = 5 then .ok (.pgsplice ⟨d, a, imm⟩)
  else pick sysReg f3.toNat ⟨d, a, imm⟩

/-- Format VC of major 12 (R27, R100). -/
def decodeVcfg (d a b : BitVec 5) (f : BitVec 9) : Except DecodeError Instr :=
  if f.getLsbD 8 then (if f = 256 then .ok (.vcfgr ⟨d, a, b⟩) else .error .badField)
  else .ok (.vcfg ⟨d, a, f.extractLsb' 0 8 ++ b⟩)

/-- Format SR5: bits [31:28] are zero (R27). -/
def decodeSr5 (table : List (OpR → Instr)) (d a b : BitVec 5) (f : BitVec 9) : Except DecodeError Instr :=
  if mkOf f = 0 then pick table (f5Of f).toNat ⟨d, a, b⟩ else .error .badField

/-- A 32-bit word: its convoy bit, major and body. -/
def decodeWord (c : Bool) (maj : Nat) (w : BitVec 24) : Except DecodeError Instr :=
  let d := fieldD w
  let a := fieldA w
  let b := fieldB w
  let f := field9 w
  let va : OpVa := ⟨c, d, a, b, mkOf f⟩
  let vm : OpVm := ⟨c, d, a, b, midOf f, mkOf f⟩
  let vf : OpVf := ⟨c, d, a, b, lowOf f, mkOf f⟩
  match maj with
  | 0 => decodeSop d a b f
  | 1 => decodeSimm d a (field3 w) (field11 w)
  | 2 => .ok (.lup ⟨d, field19 w⟩)
  | 3 => pick ldTable (field3 w).toNat ⟨d, a, field11 w⟩
  | 4 => pick stTable (field3 w).toNat ⟨d, a, field11 w⟩
  | 5 => pick amoTable (f.extractLsb' 0 4).toNat ⟨f.extractLsb' 6 3, f.extractLsb' 4 2, d, a, b⟩
  | 6 => pick brxTable (fieldCond w).toNat ⟨d, field16 w⟩
  | 7 => if d.getLsbD 4 then .error .badField
         else pick brmTable (fieldCond w).toNat ⟨d.extractLsb' 0 4, field16 w⟩
  | 8 => .ok (.jal ⟨d, field19 w⟩)
  | 9 => if field3 w = 0 then .ok (.jalr ⟨d, a, field11 w⟩) else .error .reservedFunction
  | 10 => decodeSys d a (field3 w) (field11 w)
  | 11 => .ok (.loop ⟨d, a, field3 w, field11 w⟩)
  | 12 => decodeVcfg d a b f
  | 13 => pick vvTable (f5Of f).toNat va
  | 14 => pick vxTable (f5Of f).toNat va
  | 15 => pick vfvTable (midOf f).toNat vf
  | 16 => pick vfxTable (midOf f).toNat vf
  | 17 => if midOf f = 0 then pick vuTable b.toNat ⟨c, d, a, lowOf f, mkOf f⟩ else .error .badField
  | 18 => pick vwTable (midOf f).toNat vf
  | 19 => pick vldTable (lowOf f).toNat vm
  | 20 => pick vstTable (lowOf f).toNat vm
  | 21 => pick vamoTable (lowOf f).toNat vm
  | 22 => pick vmskTable (f5Of f).toNat va
  | 23 => pick vprmTable (f5Of f).toNat va
  | 24 => pick mtxTable (f.extractLsb' 2 3).toNat ⟨c, d, a, b, f.extractLsb' 0 2, mkOf f⟩
  | 25 => decodeSr5 asyncTable d a b f
  | 26 => pick keysTable (f5Of f).toNat va
  | 27 => pick engTable (f5Of f).toNat va
  | 28 => decodeSr5 syncTable d a b f
  | _ => .error .reservedMajor

/-- A wide form: its first word as in `decodeWord`, and its second word v (R37). -/
def decodeWide (c : Bool) (maj : Nat) (w : BitVec 24) (v : BitVec 32) : Except DecodeError Instr :=
  let d := fieldD w
  let a := fieldA w
  let f := field9 w
  let si : OpIW := ⟨d, a, v ++ field11 w⟩
  let vm : OpVmW := ⟨c, d, a, fieldB w, midOf f, mkOf f, v⟩
  match maj with
  | 1 => if field3 w = 7 then .ok (.muliWide si)
         else if field3 w = 6 then .error .notWide
         else pick simmLowWide (field3 w).toNat si
  | 2 => .ok (.lupWide ⟨d, v ++ field19 w⟩)
  | 3 => pick ldTableWide (field3 w).toNat si
  | 4 => pick stTableWide (field3 w).toNat si
  | 6 => pick brxTableWide (fieldCond w).toNat ⟨d, v ++ field16 w⟩
  | 7 => if d.getLsbD 4 then .error .badField
         else pick brmTableWide (fieldCond w).toNat ⟨d.extractLsb' 0 4, v ++ field16 w⟩
  | 8 => .ok (.jalWide ⟨d, v ++ field19 w⟩)
  | 9 => if field3 w = 0 then .ok (.jalrWide si) else .error .reservedFunction
  | 11 => .ok (.loopWide ⟨d, a, field3 w, v ++ field11 w⟩)
  | 14 => pick vxTableWide (f5Of f).toNat ⟨c, d, a, fieldB w, mkOf f, v⟩
  | 19 => pick vldTableWide (lowOf f).toNat vm
  | 20 => pick vstTableWide (lowOf f).toNat vm
  | 21 => pick vamoTableWide (lowOf f).toNat vm
  | 29 | 30 | 31 => .error .reservedMajor
  | _ => .error .notWide

/-- The majors of the scalar domain, where C = 1 is illegal (R29). -/
def scalarMajor (maj : Nat) : Bool := maj ≤ 12 || maj = 25 || maj = 28

/-- A compact halfword: cop in [5:1], d in [10:6], b in [15:11] (R39). -/
def decodeHalf (h : BitVec 16) : Except DecodeError Instr :=
  match (h.extractLsb' 1 5).toNat with
  | 0 => .error .reservedCompact
  | n + 1 =>
    match compactTable[n]? with
    | some k => .ok (k ⟨h.extractLsb' 6 5, h.extractLsb' 11 5⟩)
    | none => .error .reservedCompact

/-- The encoding rules of R35 that `Instr.wf` states. -/
def checkWf (i : Instr) : Except DecodeError Instr := if i.wf then .ok i else .error .badField

/-- The convoy rule of R29 and then `k`. -/
def withC (w : BitVec 32) (k : Bool → Nat → BitVec 24 → Except DecodeError Instr) : Except DecodeError Instr :=
  let c := w.getLsbD 2
  let maj := (w.extractLsb' 3 5).toNat
  if c && scalarMajor maj then .error .convoyBit else k c maj (w.extractLsb' 8 24)

/-- The instruction that a word, halfword or wide form stands for, or why it is illegal (R35). -/
def decodeCode : Code → Except DecodeError Instr
  | .half h => (decodeHalf h).bind checkWf
  | .word w => (withC w decodeWord).bind checkWf
  | .wide w0 w1 => (withC w0 fun c maj w => decodeWide c maj w w1).bind checkWf

/-- Two bytes, the first the least significant (R24). -/
def half16 (b0 b1 : Byte) : BitVec 16 := b1 ++ b0
/-- Four bytes, the first the least significant (R24). -/
def word32 (b0 b1 b2 b3 : Byte) : BitVec 32 := b3 ++ b2 ++ b1 ++ b0

/-- The length in bytes that the low bits of the first byte ask for (R24). -/
def codeLen (b0 : Byte) : Nat := if b0.getLsbD 0 then (if b0.getLsbD 1 then 8 else 4) else 2

/-- The first instruction of a byte string as words, and the bytes after it (R24). -/
def takeCode : List Byte → Option (Code × List Byte)
  | b0 :: b1 :: r =>
    if b0.getLsbD 0 then
      match r with
      | b2 :: b3 :: r =>
        if b0.getLsbD 1 then
          match r with
          | b4 :: b5 :: b6 :: b7 :: r => some (.wide (word32 b0 b1 b2 b3) (word32 b4 b5 b6 b7), r)
          | _ => none
        else some (.word (word32 b0 b1 b2 b3), r)
      | _ => none
    else some (.half (half16 b0 b1), r)
  | _ => none

/-- Decoding a byte string: the instruction and the rest. -/
def decode (bs : List Byte) : Except DecodeError (Instr × List Byte) :=
  match takeCode bs with
  | none => .error .truncated
  | some (c, r) => (decodeCode c).map fun i => (i, r)

/-! The encoder. -/

/-- `[31:8]` of formats SR, SR5, VA, VF, VU, VM, MX. -/
def bodyR (d a b : BitVec 5) (f : BitVec 9) : BitVec 24 := f ++ b ++ a ++ d
/-- `[31:8]` of formats SI and L. -/
def bodyI (d a : BitVec 5) (f3 : BitVec 3) (imm : BitVec 11) : BitVec 24 := imm ++ f3 ++ a ++ d
/-- `[31:8]` of format U. -/
def bodyU (d : BitVec 5) (imm : BitVec 19) : BitVec 24 := imm ++ d
/-- `[31:8]` of format B. -/
def bodyB (a : BitVec 5) (cond : BitVec 3) (off : BitVec 16) : BitVec 24 := off ++ cond ++ a
/-- A standard word: length bits 0b01. -/
def std (maj : BitVec 5) (c : Bool) (body : BitVec 24) : BitVec 32 := body ++ maj ++ BitVec.ofBool c ++ 1#2
/-- The first word of a wide form: length bits 0b11. -/
def wid (maj : BitVec 5) (c : Bool) (body : BitVec 24) : BitVec 32 := body ++ maj ++ BitVec.ofBool c ++ 3#2
/-- A compact halfword. -/
def halfOf (cop : BitVec 5) (o : OpC) : BitVec 16 := o.b ++ o.d ++ cop ++ 0#1

/-- The words of an instruction; steps of other agents have none. -/
def encode : Instr → Option Code
  | .add o => some (.word (std 0 false (bodyR o.d o.a o.b 0)))
  | .sub o => some (.word (std 0 false (bodyR o.d o.a o.b 1)))
  | .and o => some (.word (std 0 false (bodyR o.d o.a o.b 2)))
  | .or o => some (.word (std 0 false (bodyR o.d o.a o.b 3)))
  | .xor o => some (.word (std 0 false (bodyR o.d o.a o.b 4)))
  | .andn o => some (.word (std 0 false (bodyR o.d o.a o.b 5)))
  | .sll o => some (.word (std 0 false (bodyR o.d o.a o.b 6)))
  | .srl o => some (.word (std 0 false (bodyR o.d o.a o.b 7)))
  | .sra o => some (.word (std 0 false (bodyR o.d o.a o.b 8)))
  | .slt o => some (.word (std 0 false (bodyR o.d o.a o.b 9)))
  | .sltu o => some (.word (std 0 false (bodyR o.d o.a o.b 10)))
  | .min o => some (.word (std 0 false (bodyR o.d o.a o.b 11)))
  | .max o => some (.word (std 0 false (bodyR o.d o.a o.b 12)))
  | .minu o => some (.word (std 0 false (bodyR o.d o.a o.b 13)))
  | .maxu o => some (.word (std 0 false (bodyR o.d o.a o.b 14)))
  | .mul o => some (.word (std 0 false (bodyR o.d o.a o.b 15)))
  | .mulh o => some (.word (std 0 false (bodyR o.d o.a o.b 16)))
  | .mulhu o => some (.word (std 0 false (bodyR o.d o.a o.b 17)))
  | .div o => some (.word (std 0 false (bodyR o.d o.a o.b 18)))
  | .divu o => some (.word (std 0 false (bodyR o.d o.a o.b 19)))
  | .rem o => some (.word (std 0 false (bodyR o.d o.a o.b 20)))
  | .remu o => some (.word (std 0 false (bodyR o.d o.a o.b 21)))
  | .clz o => some (.word (std 0 false (bodyR o.d o.a o.b 22)))
  | .ctz o => some (.word (std 0 false (bodyR o.d o.a o.b 23)))
  | .popc o => some (.word (std 0 false (bodyR o.d o.a o.b 24)))
  | .fadd o => some (.word (std 0 false (bodyR o.d o.a o.b (o.p ++ 25#6))))
  | .fsub o => some (.word (std 0 false (bodyR o.d o.a o.b (o.p ++ 26#6))))
  | .fmul o => some (.word (std 0 false (bodyR o.d o.a o.b (o.p ++ 27#6))))
  | .fdiv o => some (.word (std 0 false (bodyR o.d o.a o.b (o.p ++ 28#6))))
  | .fmin o => some (.word (std 0 false (bodyR o.d o.a o.b (o.p ++ 29#6))))
  | .fmax o => some (.word (std 0 false (bodyR o.d o.a o.b (o.p ++ 30#6))))
  | .feq o => some (.word (std 0 false (bodyR o.d o.a o.b (o.p ++ 31#6))))
  | .flt o => some (.word (std 0 false (bodyR o.d o.a o.b (o.p ++ 32#6))))
  | .fle o => some (.word (std 0 false (bodyR o.d o.a o.b (o.p ++ 33#6))))
  | .fsqrt o => some (.word (std 0 false (bodyR o.d o.a o.b (o.p ++ 34#6))))
  | .fcvti o => some (.word (std 0 false (bodyR o.d o.a o.b (o.p ++ 35#6))))
  | .fcvtf o => some (.word (std 0 false (bodyR o.d o.a o.b (o.p ++ 36#6))))
  | .fcvtw o => some (.word (std 0 false (bodyR o.d o.a o.b (o.p ++ 37#6))))
  | .addi o => some (.word (std 1 false (bodyI o.d o.a 0 o.imm)))
  | .andi o => some (.word (std 1 false (bodyI o.d o.a 1 o.imm)))
  | .ori o => some (.word (std 1 false (bodyI o.d o.a 2 o.imm)))
  | .xori o => some (.word (std 1 false (bodyI o.d o.a 3 o.imm)))
  | .slti o => some (.word (std 1 false (bodyI o.d o.a 4 o.imm)))
  | .sltiu o => some (.word (std 1 false (bodyI o.d o.a 5 o.imm)))
  | .slli o => some (.word (std 1 false (bodyI o.d o.a 6 (0#5 ++ o.sh))))
  | .srli o => some (.word (std 1 false (bodyI o.d o.a 6 (1#5 ++ o.sh))))
  | .srai o => some (.word (std 1 false (bodyI o.d o.a 6 (2#5 ++ o.sh))))
  | .muli o => some (.word (std 1 false (bodyI o.d o.a 7 o.imm)))
  | .addiWide o => some (.wide (wid 1 false (bodyI o.d o.a 0 (o.imm.setWidth 11))) (o.imm.extractLsb' 11 32))
  | .andiWide o => some (.wide (wid 1 false (bodyI o.d o.a 1 (o.imm.setWidth 11))) (o.imm.extractLsb' 11 32))
  | .oriWide o => some (.wide (wid 1 false (bodyI o.d o.a 2 (o.imm.setWidth 11))) (o.imm.extractLsb' 11 32))
  | .xoriWide o => some (.wide (wid 1 false (bodyI o.d o.a 3 (o.imm.setWidth 11))) (o.imm.extractLsb' 11 32))
  | .sltiWide o => some (.wide (wid 1 false (bodyI o.d o.a 4 (o.imm.setWidth 11))) (o.imm.extractLsb' 11 32))
  | .sltiuWide o => some (.wide (wid 1 false (bodyI o.d o.a 5 (o.imm.setWidth 11))) (o.imm.extractLsb' 11 32))
  | .muliWide o => some (.wide (wid 1 false (bodyI o.d o.a 7 (o.imm.setWidth 11))) (o.imm.extractLsb' 11 32))
  | .lup o => some (.word (std 2 false (bodyU o.d o.imm)))
  | .lupWide o => some (.wide (wid 2 false (bodyU o.d (o.imm.setWidth 19))) (o.imm.extractLsb' 19 32))
  | .lb o => some (.word (std 3 false (bodyI o.d o.a 0 o.imm)))
  | .lh o => some (.word (std 3 false (bodyI o.d o.a 1 o.imm)))
  | .lw o => some (.word (std 3 false (bodyI o.d o.a 2 o.imm)))
  | .ld o => some (.word (std 3 false (bodyI o.d o.a 3 o.imm)))
  | .lbu o => some (.word (std 3 false (bodyI o.d o.a 4 o.imm)))
  | .lhu o => some (.word (std 3 false (bodyI o.d o.a 5 o.imm)))
  | .lwu o => some (.word (std 3 false (bodyI o.d o.a 6 o.imm)))
  | .lbWide o => some (.wide (wid 3 false (bodyI o.d o.a 0 (o.imm.setWidth 11))) (o.imm.extractLsb' 11 32))
  | .lhWide o => some (.wide (wid 3 false (bodyI o.d o.a 1 (o.imm.setWidth 11))) (o.imm.extractLsb' 11 32))
  | .lwWide o => some (.wide (wid 3 false (bodyI o.d o.a 2 (o.imm.setWidth 11))) (o.imm.extractLsb' 11 32))
  | .ldWide o => some (.wide (wid 3 false (bodyI o.d o.a 3 (o.imm.setWidth 11))) (o.imm.extractLsb' 11 32))
  | .lbuWide o => some (.wide (wid 3 false (bodyI o.d o.a 4 (o.imm.setWidth 11))) (o.imm.extractLsb' 11 32))
  | .lhuWide o => some (.wide (wid 3 false (bodyI o.d o.a 5 (o.imm.setWidth 11))) (o.imm.extractLsb' 11 32))
  | .lwuWide o => some (.wide (wid 3 false (bodyI o.d o.a 6 (o.imm.setWidth 11))) (o.imm.extractLsb' 11 32))
  | .sb o => some (.word (std 4 false (bodyI o.d o.a 0 o.imm)))
  | .sh o => some (.word (std 4 false (bodyI o.d o.a 1 o.imm)))
  | .sw o => some (.word (std 4 false (bodyI o.d o.a 2 o.imm)))
  | .sd o => some (.word (std 4 false (bodyI o.d o.a 3 o.imm)))
  | .sbWide o => some (.wide (wid 4 false (bodyI o.d o.a 0 (o.imm.setWidth 11))) (o.imm.extractLsb' 11 32))
  | .shWide o => some (.wide (wid 4 false (bodyI o.d o.a 1 (o.imm.setWidth 11))) (o.imm.extractLsb' 11 32))
  | .swWide o => some (.wide (wid 4 false (bodyI o.d o.a 2 (o.imm.setWidth 11))) (o.imm.extractLsb' 11 32))
  | .sdWide o => some (.wide (wid 4 false (bodyI o.d o.a 3 (o.imm.setWidth 11))) (o.imm.extractLsb' 11 32))
  | .beqz o => some (.word (std 6 false (bodyB o.a 0 o.off)))
  | .bnez o => some (.word (std 6 false (bodyB o.a 1 o.off)))
  | .bltz o => some (.word (std 6 false (bodyB o.a 2 o.off)))
  | .bgez o => some (.word (std 6 false (bodyB o.a 3 o.off)))
  | .bgtz o => some (.word (std 6 false (bodyB o.a 4 o.off)))
  | .blez o => some (.word (std 6 false (bodyB o.a 5 o.off)))
  | .bdnz o => some (.word (std 6 false (bodyB o.a 6 o.off)))
  | .beqzWide o => some (.wide (wid 6 false (bodyB o.a 0 (o.off.setWidth 16))) (o.off.extractLsb' 16 32))
  | .bnezWide o => some (.wide (wid 6 false (bodyB o.a 1 (o.off.setWidth 16))) (o.off.extractLsb' 16 32))
  | .bltzWide o => some (.wide (wid 6 false (bodyB o.a 2 (o.off.setWidth 16))) (o.off.extractLsb' 16 32))
  | .bgezWide o => some (.wide (wid 6 false (bodyB o.a 3 (o.off.setWidth 16))) (o.off.extractLsb' 16 32))
  | .bgtzWide o => some (.wide (wid 6 false (bodyB o.a 4 (o.off.setWidth 16))) (o.off.extractLsb' 16 32))
  | .blezWide o => some (.wide (wid 6 false (bodyB o.a 5 (o.off.setWidth 16))) (o.off.extractLsb' 16 32))
  | .bdnzWide o => some (.wide (wid 6 false (bodyB o.a 6 (o.off.setWidth 16))) (o.off.extractLsb' 16 32))
  | .bany o => some (.word (std 7 false (bodyB (0#1 ++ o.k) 0 o.off)))
  | .ball o => some (.word (std 7 false (bodyB (0#1 ++ o.k) 1 o.off)))
  | .bnone o => some (.word (std 7 false (bodyB (0#1 ++ o.k) 2 o.off)))
  | .bnall o => some (.word (std 7 false (bodyB (0#1 ++ o.k) 3 o.off)))
  | .banyWide o => some (.wide (wid 7 false (bodyB (0#1 ++ o.k) 0 (o.off.setWidth 16))) (o.off.extractLsb' 16 32))
  | .ballWide o => some (.wide (wid 7 false (bodyB (0#1 ++ o.k) 1 (o.off.setWidth 16))) (o.off.extractLsb' 16 32))
  | .bnoneWide o => some (.wide (wid 7 false (bodyB (0#1 ++ o.k) 2 (o.off.setWidth 16))) (o.off.extractLsb' 16 32))
  | .bnallWide o => some (.wide (wid 7 false (bodyB (0#1 ++ o.k) 3 (o.off.setWidth 16))) (o.off.extractLsb' 16 32))
  | .jal o => some (.word (std 8 false (bodyU o.d o.imm)))
  | .jalWide o => some (.wide (wid 8 false (bodyU o.d (o.imm.setWidth 19))) (o.imm.extractLsb' 19 32))
  | .jalr o => some (.word (std 9 false (bodyI o.d o.a 0 o.imm)))
  | .jalrWide o => some (.wide (wid 9 false (bodyI o.d o.a 0 (o.imm.setWidth 11))) (o.imm.extractLsb' 11 32))
  | .srd o => some (.word (std 10 false (bodyI o.d o.a 0 o.imm)))
  | .swr o => some (.word (std 10 false (bodyI o.d o.a 1 o.imm)))
  | .sset o => some (.word (std 10 false (bodyI o.d o.a 2 o.imm)))
  | .sclr o => some (.word (std 10 false (bodyI o.d o.a 3 o.imm)))
  | .ecall o => some (.word (std 10 false (bodyI o.d o.a 4 0)))
  | .ebreak o => some (.word (std 10 false (bodyI o.d o.a 4 1)))
  | .eret o => some (.word (std 10 false (bodyI o.d o.a 4 2)))
  | .wfi o => some (.word (std 10 false (bodyI o.d o.a 4 3)))
  | .ifence o => some (.word (std 10 false (bodyI o.d o.a 4 4)))
  | .tlbinv o => some (.word (std 10 false (bodyI o.d o.a 4 5)))
  | .tlbinva o => some (.word (std 10 false (bodyI o.d o.a 4 6)))
  | .exit o => some (.word (std 10 false (bodyI o.d o.a 4 7)))
  | .pgsplice o => some (.word (std 10 false (bodyI o.d o.a 5 o.imm)))
  | .loop o => some (.word (std 11 false (bodyI o.d o.a o.v o.len)))
  | .loopWide o => some (.wide (wid 11 false (bodyI o.d o.a o.v (o.len.setWidth 11))) (o.len.extractLsb' 11 32))
  | .vcfg o => some (.word (std 12 false (bodyR o.d o.a (o.t.setWidth 5) (0#1 ++ o.t.extractLsb' 5 8))))
  | .vcfgr o => some (.word (std 12 false (bodyR o.d o.a o.b 256)))
  | .vaddVv o => some (.word (std 13 o.c (bodyR o.d o.a o.b (o.m ++ 0#5))))
  | .vsubVv o => some (.word (std 13 o.c (bodyR o.d o.a o.b (o.m ++ 1#5))))
  | .vrsubVv o => some (.word (std 13 o.c (bodyR o.d o.a o.b (o.m ++ 2#5))))
  | .vminVv o => some (.word (std 13 o.c (bodyR o.d o.a o.b (o.m ++ 3#5))))
  | .vmaxVv o => some (.word (std 13 o.c (bodyR o.d o.a o.b (o.m ++ 4#5))))
  | .vandVv o => some (.word (std 13 o.c (bodyR o.d o.a o.b (o.m ++ 5#5))))
  | .vorVv o => some (.word (std 13 o.c (bodyR o.d o.a o.b (o.m ++ 6#5))))
  | .vxorVv o => some (.word (std 13 o.c (bodyR o.d o.a o.b (o.m ++ 7#5))))
  | .vandnVv o => some (.word (std 13 o.c (bodyR o.d o.a o.b (o.m ++ 8#5))))
  | .vsllVv o => some (.word (std 13 o.c (bodyR o.d o.a o.b (o.m ++ 9#5))))
  | .vsrlVv o => some (.word (std 13 o.c (bodyR o.d o.a o.b (o.m ++ 10#5))))
  | .vsraVv o => some (.word (std 13 o.c (bodyR o.d o.a o.b (o.m ++ 11#5))))
  | .vsaddVv o => some (.word (std 13 o.c (bodyR o.d o.a o.b (o.m ++ 12#5))))
  | .vssubVv o => some (.word (std 13 o.c (bodyR o.d o.a o.b (o.m ++ 13#5))))
  | .vabsdVv o => some (.word (std 13 o.c (bodyR o.d o.a o.b (o.m ++ 14#5))))
  | .vavgVv o => some (.word (std 13 o.c (bodyR o.d o.a o.b (o.m ++ 15#5))))
  | .vmulhVv o => some (.word (std 13 o.c (bodyR o.d o.a o.b (o.m ++ 16#5))))
  | .vdivVv o => some (.word (std 13 o.c (bodyR o.d o.a o.b (o.m ++ 17#5))))
  | .vremVv o => some (.word (std 13 o.c (bodyR o.d o.a o.b (o.m ++ 18#5))))
  | .vceqVv o => some (.word (std 13 o.c (bodyR o.d o.a o.b (o.m ++ 19#5))))
  | .vcneVv o => some (.word (std 13 o.c (bodyR o.d o.a o.b (o.m ++ 20#5))))
  | .vcltVv o => some (.word (std 13 o.c (bodyR o.d o.a o.b (o.m ++ 21#5))))
  | .vcleVv o => some (.word (std 13 o.c (bodyR o.d o.a o.b (o.m ++ 22#5))))
  | .vcgtVv o => some (.word (std 13 o.c (bodyR o.d o.a o.b (o.m ++ 23#5))))
  | .vcgeVv o => some (.word (std 13 o.c (bodyR o.d o.a o.b (o.m ++ 24#5))))
  | .vmergeVv o => some (.word (std 13 o.c (bodyR o.d o.a o.b (o.m ++ 25#5))))
  | .vmvVv o => some (.word (std 13 o.c (bodyR o.d o.a o.b (o.m ++ 26#5))))
  | .vsgnjVv o => some (.word (std 13 o.c (bodyR o.d o.a o.b (o.m ++ 27#5))))
  | .vaddVx o => some (.word (std 14 o.c (bodyR o.d o.a o.b (o.m ++ 0#5))))
  | .vsubVx o => some (.word (std 14 o.c (bodyR o.d o.a o.b (o.m ++ 1#5))))
  | .vrsubVx o => some (.word (std 14 o.c (bodyR o.d o.a o.b (o.m ++ 2#5))))
  | .vminVx o => some (.word (std 14 o.c (bodyR o.d o.a o.b (o.m ++ 3#5))))
  | .vmaxVx o => some (.word (std 14 o.c (bodyR o.d o.a o.b (o.m ++ 4#5))))
  | .vandVx o => some (.word (std 14 o.c (bodyR o.d o.a o.b (o.m ++ 5#5))))
  | .vorVx o => some (.word (std 14 o.c (bodyR o.d o.a o.b (o.m ++ 6#5))))
  | .vxorVx o => some (.word (std 14 o.c (bodyR o.d o.a o.b (o.m ++ 7#5))))
  | .vandnVx o => some (.word (std 14 o.c (bodyR o.d o.a o.b (o.m ++ 8#5))))
  | .vsllVx o => some (.word (std 14 o.c (bodyR o.d o.a o.b (o.m ++ 9#5))))
  | .vsrlVx o => some (.word (std 14 o.c (bodyR o.d o.a o.b (o.m ++ 10#5))))
  | .vsraVx o => some (.word (std 14 o.c (bodyR o.d o.a o.b (o.m ++ 11#5))))
  | .vsaddVx o => some (.word (std 14 o.c (bodyR o.d o.a o.b (o.m ++ 12#5))))
  | .vssubVx o => some (.word (std 14 o.c (bodyR o.d o.a o.b (o.m ++ 13#5))))
  | .vabsdVx o => some (.word (std 14 o.c (bodyR o.d o.a o.b (o.m ++ 14#5))))
  | .vavgVx o => some (.word (std 14 o.c (bodyR o.d o.a o.b (o.m ++ 15#5))))
  | .vmulhVx o => some (.word (std 14 o.c (bodyR o.d o.a o.b (o.m ++ 16#5))))
  | .vdivVx o => some (.word (std 14 o.c (bodyR o.d o.a o.b (o.m ++ 17#5))))
  | .vremVx o => some (.word (std 14 o.c (bodyR o.d o.a o.b (o.m ++ 18#5))))
  | .vceqVx o => some (.word (std 14 o.c (bodyR o.d o.a o.b (o.m ++ 19#5))))
  | .vcneVx o => some (.word (std 14 o.c (bodyR o.d o.a o.b (o.m ++ 20#5))))
  | .vcltVx o => some (.word (std 14 o.c (bodyR o.d o.a o.b (o.m ++ 21#5))))
  | .vcleVx o => some (.word (std 14 o.c (bodyR o.d o.a o.b (o.m ++ 22#5))))
  | .vcgtVx o => some (.word (std 14 o.c (bodyR o.d o.a o.b (o.m ++ 23#5))))
  | .vcgeVx o => some (.word (std 14 o.c (bodyR o.d o.a o.b (o.m ++ 24#5))))
  | .vmergeVx o => some (.word (std 14 o.c (bodyR o.d o.a o.b (o.m ++ 25#5))))
  | .vmvVx o => some (.word (std 14 o.c (bodyR o.d o.a o.b (o.m ++ 26#5))))
  | .vsgnjVx o => some (.word (std 14 o.c (bodyR o.d o.a o.b (o.m ++ 27#5))))
  | .vaddVxWide o => some (.wide (wid 14 o.c (bodyR o.d o.a o.b (o.m ++ 0#5))) o.imm)
  | .vsubVxWide o => some (.wide (wid 14 o.c (bodyR o.d o.a o.b (o.m ++ 1#5))) o.imm)
  | .vrsubVxWide o => some (.wide (wid 14 o.c (bodyR o.d o.a o.b (o.m ++ 2#5))) o.imm)
  | .vminVxWide o => some (.wide (wid 14 o.c (bodyR o.d o.a o.b (o.m ++ 3#5))) o.imm)
  | .vmaxVxWide o => some (.wide (wid 14 o.c (bodyR o.d o.a o.b (o.m ++ 4#5))) o.imm)
  | .vandVxWide o => some (.wide (wid 14 o.c (bodyR o.d o.a o.b (o.m ++ 5#5))) o.imm)
  | .vorVxWide o => some (.wide (wid 14 o.c (bodyR o.d o.a o.b (o.m ++ 6#5))) o.imm)
  | .vxorVxWide o => some (.wide (wid 14 o.c (bodyR o.d o.a o.b (o.m ++ 7#5))) o.imm)
  | .vandnVxWide o => some (.wide (wid 14 o.c (bodyR o.d o.a o.b (o.m ++ 8#5))) o.imm)
  | .vsllVxWide o => some (.wide (wid 14 o.c (bodyR o.d o.a o.b (o.m ++ 9#5))) o.imm)
  | .vsrlVxWide o => some (.wide (wid 14 o.c (bodyR o.d o.a o.b (o.m ++ 10#5))) o.imm)
  | .vsraVxWide o => some (.wide (wid 14 o.c (bodyR o.d o.a o.b (o.m ++ 11#5))) o.imm)
  | .vsaddVxWide o => some (.wide (wid 14 o.c (bodyR o.d o.a o.b (o.m ++ 12#5))) o.imm)
  | .vssubVxWide o => some (.wide (wid 14 o.c (bodyR o.d o.a o.b (o.m ++ 13#5))) o.imm)
  | .vabsdVxWide o => some (.wide (wid 14 o.c (bodyR o.d o.a o.b (o.m ++ 14#5))) o.imm)
  | .vavgVxWide o => some (.wide (wid 14 o.c (bodyR o.d o.a o.b (o.m ++ 15#5))) o.imm)
  | .vmulhVxWide o => some (.wide (wid 14 o.c (bodyR o.d o.a o.b (o.m ++ 16#5))) o.imm)
  | .vdivVxWide o => some (.wide (wid 14 o.c (bodyR o.d o.a o.b (o.m ++ 17#5))) o.imm)
  | .vremVxWide o => some (.wide (wid 14 o.c (bodyR o.d o.a o.b (o.m ++ 18#5))) o.imm)
  | .vceqVxWide o => some (.wide (wid 14 o.c (bodyR o.d o.a o.b (o.m ++ 19#5))) o.imm)
  | .vcneVxWide o => some (.wide (wid 14 o.c (bodyR o.d o.a o.b (o.m ++ 20#5))) o.imm)
  | .vcltVxWide o => some (.wide (wid 14 o.c (bodyR o.d o.a o.b (o.m ++ 21#5))) o.imm)
  | .vcleVxWide o => some (.wide (wid 14 o.c (bodyR o.d o.a o.b (o.m ++ 22#5))) o.imm)
  | .vcgtVxWide o => some (.wide (wid 14 o.c (bodyR o.d o.a o.b (o.m ++ 23#5))) o.imm)
  | .vcgeVxWide o => some (.wide (wid 14 o.c (bodyR o.d o.a o.b (o.m ++ 24#5))) o.imm)
  | .vmergeVxWide o => some (.wide (wid 14 o.c (bodyR o.d o.a o.b (o.m ++ 25#5))) o.imm)
  | .vmvVxWide o => some (.wide (wid 14 o.c (bodyR o.d o.a o.b (o.m ++ 26#5))) o.imm)
  | .vsgnjVxWide o => some (.wide (wid 14 o.c (bodyR o.d o.a o.b (o.m ++ 27#5))) o.imm)
  | .vfmaVfv o => some (.word (std 15 o.c (bodyR o.d o.a o.b (o.m ++ 0#2 ++ o.fs))))
  | .vfmsVfv o => some (.word (std 15 o.c (bodyR o.d o.a o.b (o.m ++ 1#2 ++ o.fs))))
  | .vfnmaVfv o => some (.word (std 15 o.c (bodyR o.d o.a o.b (o.m ++ 2#2 ++ o.fs))))
  | .vmulVfv o => some (.word (std 15 o.c (bodyR o.d o.a o.b (o.m ++ 3#2 ++ o.fs))))
  | .vfmaVfx o => some (.word (std 16 o.c (bodyR o.d o.a o.b (o.m ++ 0#2 ++ o.fs))))
  | .vfmsVfx o => some (.word (std 16 o.c (bodyR o.d o.a o.b (o.m ++ 1#2 ++ o.fs))))
  | .vfnmaVfx o => some (.word (std 16 o.c (bodyR o.d o.a o.b (o.m ++ 2#2 ++ o.fs))))
  | .vmulVfx o => some (.word (std 16 o.c (bodyR o.d o.a o.b (o.m ++ 3#2 ++ o.fs))))
  | .vdot o => some (.word (std 18 o.c (bodyR o.d o.a o.b (o.m ++ 0#2 ++ o.fs))))
  | .vssmx o => some (.word (std 18 o.c (bodyR o.d o.a o.b (o.m ++ 1#2 ++ o.fs))))
  | .vcvt o => some (.word (std 17 o.c (bodyR o.d o.a 0 (o.m ++ 0#2 ++ o.fs))))
  | .vneg o => some (.word (std 17 o.c (bodyR o.d o.a 1 (o.m ++ 0#2 ++ o.fs))))
  | .vabs o => some (.word (std 17 o.c (bodyR o.d o.a 2 (o.m ++ 0#2 ++ o.fs))))
  | .vsqrt o => some (.word (std 17 o.c (bodyR o.d o.a 3 (o.m ++ 0#2 ++ o.fs))))
  | .vrcp o => some (.word (std 17 o.c (bodyR o.d o.a 4 (o.m ++ 0#2 ++ o.fs))))
  | .vrsqrt o => some (.word (std 17 o.c (bodyR o.d o.a 5 (o.m ++ 0#2 ++ o.fs))))
  | .vexp2 o => some (.word (std 17 o.c (bodyR o.d o.a 6 (o.m ++ 0#2 ++ o.fs))))
  | .vlog2 o => some (.word (std 17 o.c (bodyR o.d o.a 7 (o.m ++ 0#2 ++ o.fs))))
  | .vtanh o => some (.word (std 17 o.c (bodyR o.d o.a 8 (o.m ++ 0#2 ++ o.fs))))
  | .vsigm o => some (.word (std 17 o.c (bodyR o.d o.a 9 (o.m ++ 0#2 ++ o.fs))))
  | .verf o => some (.word (std 17 o.c (bodyR o.d o.a 10 (o.m ++ 0#2 ++ o.fs))))
  | .vround o => some (.word (std 17 o.c (bodyR o.d o.a 11 (o.m ++ 0#2 ++ o.fs))))
  | .vpopc o => some (.word (std 17 o.c (bodyR o.d o.a 12 (o.m ++ 0#2 ++ o.fs))))
  | .vclz o => some (.word (std 17 o.c (bodyR o.d o.a 13 (o.m ++ 0#2 ++ o.fs))))
  | .vid o => some (.word (std 17 o.c (bodyR o.d o.a 14 (o.m ++ 0#2 ++ o.fs))))
  | .vclass o => some (.word (std 17 o.c (bodyR o.d o.a 15 (o.m ++ 0#2 ++ o.fs))))
  | .vld o => some (.word (std 19 o.c (bodyR o.d o.a o.b (o.m ++ o.h ++ 0#3))))
  | .vlds o => some (.word (std 19 o.c (bodyR o.d o.a o.b (o.m ++ o.h ++ 1#3))))
  | .vldx o => some (.word (std 19 o.c (bodyR o.d o.a o.b (o.m ++ o.h ++ 2#3))))
  | .vldff o => some (.word (std 19 o.c (bodyR o.d o.a o.b (o.m ++ o.h ++ 3#3))))
  | .vldWide o => some (.wide (wid 19 o.c (bodyR o.d o.a o.b (o.m ++ o.h ++ 0#3))) o.off)
  | .vldsWide o => some (.wide (wid 19 o.c (bodyR o.d o.a o.b (o.m ++ o.h ++ 1#3))) o.off)
  | .vldxWide o => some (.wide (wid 19 o.c (bodyR o.d o.a o.b (o.m ++ o.h ++ 2#3))) o.off)
  | .vldffWide o => some (.wide (wid 19 o.c (bodyR o.d o.a o.b (o.m ++ o.h ++ 3#3))) o.off)
  | .vst o => some (.word (std 20 o.c (bodyR o.d o.a o.b (o.m ++ o.h ++ 0#3))))
  | .vsts o => some (.word (std 20 o.c (bodyR o.d o.a o.b (o.m ++ o.h ++ 1#3))))
  | .vstx o => some (.word (std 20 o.c (bodyR o.d o.a o.b (o.m ++ o.h ++ 2#3))))
  | .vstu o => some (.word (std 20 o.c (bodyR o.d o.a o.b (o.m ++ o.h ++ 3#3))))
  | .vstsu o => some (.word (std 20 o.c (bodyR o.d o.a o.b (o.m ++ o.h ++ 4#3))))
  | .vstxu o => some (.word (std 20 o.c (bodyR o.d o.a o.b (o.m ++ o.h ++ 5#3))))
  | .vstWide o => some (.wide (wid 20 o.c (bodyR o.d o.a o.b (o.m ++ o.h ++ 0#3))) o.off)
  | .vstsWide o => some (.wide (wid 20 o.c (bodyR o.d o.a o.b (o.m ++ o.h ++ 1#3))) o.off)
  | .vstxWide o => some (.wide (wid 20 o.c (bodyR o.d o.a o.b (o.m ++ o.h ++ 2#3))) o.off)
  | .vstuWide o => some (.wide (wid 20 o.c (bodyR o.d o.a o.b (o.m ++ o.h ++ 3#3))) o.off)
  | .vstsuWide o => some (.wide (wid 20 o.c (bodyR o.d o.a o.b (o.m ++ o.h ++ 4#3))) o.off)
  | .vstxuWide o => some (.wide (wid 20 o.c (bodyR o.d o.a o.b (o.m ++ o.h ++ 5#3))) o.off)
  | .vamoadd o => some (.word (std 21 o.c (bodyR o.d o.a o.b (o.m ++ o.h ++ 0#3))))
  | .vamobinc o => some (.word (std 21 o.c (bodyR o.d o.a o.b (o.m ++ o.h ++ 1#3))))
  | .vamomin o => some (.word (std 21 o.c (bodyR o.d o.a o.b (o.m ++ o.h ++ 2#3))))
  | .vamomax o => some (.word (std 21 o.c (bodyR o.d o.a o.b (o.m ++ o.h ++ 3#3))))
  | .vamoswap o => some (.word (std 21 o.c (bodyR o.d o.a o.b (o.m ++ o.h ++ 4#3))))
  | .vamoaddWide o => some (.wide (wid 21 o.c (bodyR o.d o.a o.b (o.m ++ o.h ++ 0#3))) o.off)
  | .vamobincWide o => some (.wide (wid 21 o.c (bodyR o.d o.a o.b (o.m ++ o.h ++ 1#3))) o.off)
  | .vamominWide o => some (.wide (wid 21 o.c (bodyR o.d o.a o.b (o.m ++ o.h ++ 2#3))) o.off)
  | .vamomaxWide o => some (.wide (wid 21 o.c (bodyR o.d o.a o.b (o.m ++ o.h ++ 3#3))) o.off)
  | .vamoswapWide o => some (.wide (wid 21 o.c (bodyR o.d o.a o.b (o.m ++ o.h ++ 4#3))) o.off)
  | .mand o => some (.word (std 22 o.c (bodyR o.d o.a o.b (o.m ++ 0#5))))
  | .mor o => some (.word (std 22 o.c (bodyR o.d o.a o.b (o.m ++ 1#5))))
  | .mxor o => some (.word (std 22 o.c (bodyR o.d o.a o.b (o.m ++ 2#5))))
  | .mandn o => some (.word (std 22 o.c (bodyR o.d o.a o.b (o.m ++ 3#5))))
  | .mnot o => some (.word (std 22 o.c (bodyR o.d o.a o.b (o.m ++ 4#5))))
  | .mcnt o => some (.word (std 22 o.c (bodyR o.d o.a o.b (o.m ++ 5#5))))
  | .many o => some (.word (std 22 o.c (bodyR o.d o.a o.b (o.m ++ 6#5))))
  | .mfirst o => some (.word (std 22 o.c (bodyR o.d o.a o.b (o.m ++ 7#5))))
  | .msbf o => some (.word (std 22 o.c (bodyR o.d o.a o.b (o.m ++ 8#5))))
  | .msif o => some (.word (std 22 o.c (bodyR o.d o.a o.b (o.m ++ 9#5))))
  | .mwhile o => some (.word (std 22 o.c (bodyR o.d o.a o.b (o.m ++ 10#5))))
  | .mfromv o => some (.word (std 22 o.c (bodyR o.d o.a o.b (o.m ++ 11#5))))
  | .mtov o => some (.word (std 22 o.c (bodyR o.d o.a o.b (o.m ++ 12#5))))
  | .vconf o => some (.word (std 22 o.c (bodyR o.d o.a o.b (o.m ++ 13#5))))
  | .vpart o => some (.word (std 22 o.c (bodyR o.d o.a o.b (o.m ++ 14#5))))
  | .vpartb o => some (.word (std 22 o.c (bodyR o.d o.a o.b (o.m ++ 15#5))))
  | .rsum o => some (.word (std 23 o.c (bodyR o.d o.a o.b (o.m ++ 0#5))))
  | .rsumu o => some (.word (std 23 o.c (bodyR o.d o.a o.b (o.m ++ 1#5))))
  | .rmax o => some (.word (std 23 o.c (bodyR o.d o.a o.b (o.m ++ 2#5))))
  | .rmin o => some (.word (std 23 o.c (bodyR o.d o.a o.b (o.m ++ 3#5))))
  | .rmaxi o => some (.word (std 23 o.c (bodyR o.d o.a o.b (o.m ++ 4#5))))
  | .rmini o => some (.word (std 23 o.c (bodyR o.d o.a o.b (o.m ++ 5#5))))
  | .rand o => some (.word (std 23 o.c (bodyR o.d o.a o.b (o.m ++ 6#5))))
  | .ror o => some (.word (std 23 o.c (bodyR o.d o.a o.b (o.m ++ 7#5))))
  | .rxor o => some (.word (std 23 o.c (bodyR o.d o.a o.b (o.m ++ 8#5))))
  | .vscan o => some (.word (std 23 o.c (bodyR o.d o.a o.b (o.m ++ 9#5))))
  | .vcmpr o => some (.word (std 23 o.c (bodyR o.d o.a o.b (o.m ++ 10#5))))
  | .vexpd o => some (.word (std 23 o.c (bodyR o.d o.a o.b (o.m ++ 11#5))))
  | .vslup o => some (.word (std 23 o.c (bodyR o.d o.a o.b (o.m ++ 12#5))))
  | .vsldn o => some (.word (std 23 o.c (bodyR o.d o.a o.b (o.m ++ 13#5))))
  | .vperm o => some (.word (std 23 o.c (bodyR o.d o.a o.b (o.m ++ 14#5))))
  | .vpush o => some (.word (std 23 o.c (bodyR o.d o.a o.b (o.m ++ 15#5))))
  | .vlast o => some (.word (std 23 o.c (bodyR o.d o.a o.b (o.m ++ 16#5))))
  | .vget o => some (.word (std 23 o.c (bodyR o.d o.a o.b (o.m ++ 17#5))))
  | .vput o => some (.word (std 23 o.c (bodyR o.d o.a o.b (o.m ++ 18#5))))
  | .vtag o => some (.word (std 23 o.c (bodyR o.d o.a o.b (o.m ++ 19#5))))
  | .vtagx o => some (.word (std 23 o.c (bodyR o.d o.a o.b (o.m ++ 20#5))))
  | .vtagr o => some (.word (std 23 o.c (bodyR o.d o.a o.b (o.m ++ 21#5))))
  | .tkinit o => some (.word (std 23 o.c (bodyR o.d o.a o.b (o.m ++ 22#5))))
  | .tkpush o => some (.word (std 23 o.c (bodyR o.d o.a o.b (o.m ++ 23#5))))
  | .tkpop o => some (.word (std 23 o.c (bodyR o.d o.a o.b (o.m ++ 24#5))))
  | .tksal o => some (.word (std 23 o.c (bodyR o.d o.a o.b (o.m ++ 25#5))))
  | .mzero o => some (.word (std 24 o.c (bodyR o.d o.a o.b (o.m ++ 0#3 ++ o.ac))))
  | .xacc o => some (.word (std 24 o.c (bodyR o.d o.a o.b (o.m ++ 1#3 ++ o.ac))))
  | .xacct o => some (.word (std 24 o.c (bodyR o.d o.a o.b (o.m ++ 2#3 ++ o.ac))))
  | .mext o => some (.word (std 24 o.c (bodyR o.d o.a o.b (o.m ++ 3#3 ++ o.ac))))
  | .gxacct o => some (.word (std 24 o.c (bodyR o.d o.a o.b (o.m ++ 4#3 ++ o.ac))))
  | .tset o => some (.word (std 24 o.c (bodyR o.d o.a o.b (o.m ++ 5#3 ++ o.ac))))
  | .cpy o => some (.word (std 25 false (bodyR o.d o.a o.b 0)))
  | .cpyred o => some (.word (std 25 false (bodyR o.d o.a o.b 1)))
  | .pfs o => some (.word (std 25 false (bodyR o.d o.a o.b 2)))
  | .pfstop o => some (.word (std 25 false (bodyR o.d o.a o.b 3)))
  | .twany o => some (.word (std 25 false (bodyR o.d o.a o.b 4)))
  | .twall o => some (.word (std 25 false (bodyR o.d o.a o.b 5)))
  | .tfirst o => some (.word (std 25 false (bodyR o.d o.a o.b 6)))
  | .tclr o => some (.word (std 25 false (bodyR o.d o.a o.b 7)))
  | .tstat o => some (.word (std 25 false (bodyR o.d o.a o.b 8)))
  | .bankset o => some (.word (std 25 false (bodyR o.d o.a o.b 9)))
  | .cflush o => some (.word (std 25 false (bodyR o.d o.a o.b 10)))
  | .cinval o => some (.word (std 25 false (bodyR o.d o.a o.b 11)))
  | .pgmig o => some (.word (std 25 false (bodyR o.d o.a o.b 12)))
  | .ksins o => some (.word (std 26 o.c (bodyR o.d o.a o.b (o.m ++ 0#5))))
  | .kslkp o => some (.word (std 26 o.c (bodyR o.d o.a o.b (o.m ++ 1#5))))
  | .ksacc o => some (.word (std 26 o.c (bodyR o.d o.a o.b (o.m ++ 2#5))))
  | .ksdrain o => some (.word (std 26 o.c (bodyR o.d o.a o.b (o.m ++ 3#5))))
  | .ksclr o => some (.word (std 26 o.c (bodyR o.d o.a o.b (o.m ++ 4#5))))
  | .kscnt o => some (.word (std 26 o.c (bodyR o.d o.a o.b (o.m ++ 5#5))))
  | .ltld o => some (.word (std 26 o.c (bodyR o.d o.a o.b (o.m ++ 6#5))))
  | .ltst o => some (.word (std 26 o.c (bodyR o.d o.a o.b (o.m ++ 7#5))))
  | .ltfill o => some (.word (std 26 o.c (bodyR o.d o.a o.b (o.m ++ 8#5))))
  | .tmbind o => some (.word (std 27 o.c (bodyR o.d o.a o.b (o.m ++ 0#5))))
  | .tmmap o => some (.word (std 27 o.c (bodyR o.d o.a o.b (o.m ++ 1#5))))
  | .tmcomp o => some (.word (std 27 o.c (bodyR o.d o.a o.b (o.m ++ 2#5))))
  | .tmrun o => some (.word (std 27 o.c (bodyR o.d o.a o.b (o.m ++ 3#5))))
  | .tmmask o => some (.word (std 27 o.c (bodyR o.d o.a o.b (o.m ++ 4#5))))
  | .hgbind o => some (.word (std 27 o.c (bodyR o.d o.a o.b (o.m ++ 5#5))))
  | .hgint o => some (.word (std 27 o.c (bodyR o.d o.a o.b (o.m ++ 6#5))))
  | .hgmrg o => some (.word (std 27 o.c (bodyR o.d o.a o.b (o.m ++ 7#5))))
  | .hgsave o => some (.word (std 27 o.c (bodyR o.d o.a o.b (o.m ++ 8#5))))
  | .hgrest o => some (.word (std 27 o.c (bodyR o.d o.a o.b (o.m ++ 9#5))))
  | .hgsplit o => some (.word (std 27 o.c (bodyR o.d o.a o.b (o.m ++ 10#5))))
  | .hgdone o => some (.word (std 27 o.c (bodyR o.d o.a o.b (o.m ++ 11#5))))
  | .barinit o => some (.word (std 28 false (bodyR o.d o.a o.b 0)))
  | .bararr o => some (.word (std 28 false (bodyR o.d o.a o.b 1)))
  | .barwait o => some (.word (std 28 false (bodyR o.d o.a o.b 2)))
  | .barsync o => some (.word (std 28 false (bodyR o.d o.a o.b 3)))
  | .gang o => some (.word (std 28 false (bodyR o.d o.a o.b 4)))
  | .gleave o => some (.word (std 28 false (bodyR o.d o.a o.b 5)))
  | .msgsnd o => some (.word (std 28 false (bodyR o.d o.a o.b 6)))
  | .msgrcv o => some (.word (std 28 false (bodyR o.d o.a o.b 7)))
  | .msgtry o => some (.word (std 28 false (bodyR o.d o.a o.b 8)))
  | .yield o => some (.word (std 28 false (bodyR o.d o.a o.b 9)))
  | .vsync o => some (.word (std 28 false (bodyR o.d o.a o.b 10)))
  | .ldaq o => some (.word (std 5 false (bodyR o.d o.a o.b (o.s ++ o.w ++ 0#4))))
  | .strl o => some (.word (std 5 false (bodyR o.d o.a o.b (o.s ++ o.w ++ 1#4))))
  | .amoadd o => some (.word (std 5 false (bodyR o.d o.a o.b (o.s ++ o.w ++ 2#4))))
  | .amoswap o => some (.word (std 5 false (bodyR o.d o.a o.b (o.s ++ o.w ++ 3#4))))
  | .amoand o => some (.word (std 5 false (bodyR o.d o.a o.b (o.s ++ o.w ++ 4#4))))
  | .amoor o => some (.word (std 5 false (bodyR o.d o.a o.b (o.s ++ o.w ++ 5#4))))
  | .amomin o => some (.word (std 5 false (bodyR o.d o.a o.b (o.s ++ o.w ++ 6#4))))
  | .amomax o => some (.word (std 5 false (bodyR o.d o.a o.b (o.s ++ o.w ++ 7#4))))
  | .amocas o => some (.word (std 5 false (bodyR o.d o.a o.b (o.s ++ o.w ++ 8#4))))
  | .amobinc o => some (.word (std 5 false (bodyR o.d o.a o.b (o.s ++ o.w ++ 9#4))))
  | .fence o => some (.word (std 5 false (bodyR o.d o.a o.b (o.s ++ o.w ++ 10#4))))
  | .waita o => some (.word (std 5 false (bodyR o.d o.a o.b (o.s ++ o.w ++ 11#4))))
  | .cAdd o => some (.half (halfOf 1 o))
  | .cSub o => some (.half (halfOf 2 o))
  | .cAnd o => some (.half (halfOf 3 o))
  | .cOr o => some (.half (halfOf 4 o))
  | .cXor o => some (.half (halfOf 5 o))
  | .cSll o => some (.half (halfOf 6 o))
  | .cSrl o => some (.half (halfOf 7 o))
  | .cAddi o => some (.half (halfOf 8 o))
  | .cMv o => some (.half (halfOf 9 o))
  | .cVadd o => some (.half (halfOf 10 o))
  | .cVsub o => some (.half (halfOf 11 o))
  | .cVmul o => some (.half (halfOf 12 o))
  | .cVfma o => some (.half (halfOf 13 o))
  | .cVmax o => some (.half (halfOf 14 o))
  | .cVmin o => some (.half (halfOf 15 o))
  | .cVand o => some (.half (halfOf 16 o))
  | .cVor o => some (.half (halfOf 17 o))
  | .cVxor o => some (.half (halfOf 18 o))
  | .cVmv o => some (.half (halfOf 19 o))
  | .faultQueueAppend => none
  | .faultOutcomeResume _ => none
  | .faultOutcomeDeliver _ _ => none
  | .viqEntryComplete _ => none
  | .viqEntryTrap _ => none
  | .convoyStart _ => none
  | .elementGroupIssue _ => none
  | .issueStarvationTimeout _ => none
  | .launchTake _ => none
  | .lotPlace _ => none
  | .nextLotRunahead _ => none
  | .lotComplete _ => none
  | .preemptionEvent _ => none
  | .killEvent _ => none
  | .debugStopEvent _ => none
  | .hostHalt _ => none
  | .debugResume _ => none
  | .traceSample _ _ => none
  | .traceBufferDrain => none
  | .traceGatingDrainTimeout => none
  | .waitaWake _ => none
  | .barrierWaitWake _ => none
  | .gangWaitWake _ => none
  | .tagWaitWake _ => none
  | .msgrcvWake _ => none
  | .wfiWake _ => none
  | .prefetchLineIssue _ => none
  | .prefetchLineArrival _ => none
  | .copyEngineRun _ _ => none
  | .copyComplete _ => none
  | .migrationComplete _ => none
  | .heldAccessResume => none
  | .hostCxlMemRead _ _ => none
  | .hostCxlMemWrite _ _ => none
  | .hostAtomic _ _ _ _ => none
  | .hostSnoop _ => none
  | .peerRequest _ => none
  | .clusterIdleEntry => none
  | .clusterGate => none
  | .thermalStepDown _ => none
  | .thermalShutdown => none
  | .linkFlitCrcFail _ => none
  | .linkRetrain _ => none
  | .linkDown _ => none
  | .dieAnswerTimeout _ => none
  | .ucieModuleDown _ => none
  | .ucieWidthDegrade _ => none
  | .ualinkPortDown _ => none
  | .powerOnBoot _ _ => none
  | .pilotReset => none
  | .hostCxlReset => none
  | .throttle _ _ => none
  | .dielost _ => none
  | .erasestore => none
  | .setualid _ => none
  | .keywaydigest _ => none
  | .fwdebug _ => none
  | .setEndpointId _ => none
  | .getEndpointId => none
  | .getMessageTypeSupport => none
  | .pldmNumericSensor _ => none
  | .pldmStateSensor _ => none
  | .pldmEventLog => none
  | .requestUpdate => none
  | .passComponentTable _ => none
  | .updateComponent _ _ => none
  | .transferComplete => none
  | .verifyComplete => none
  | .applyComplete => none
  | .activateFirmware => none
  | .getVersion => none
  | .getCapabilities => none
  | .negotiateAlgorithms _ _ => none
  | .getDigests => none
  | .getCertificate => none
  | .challenge _ => none
  | .getMeasurements _ => none
  | .kwcmdUnlock => none
  | .kwcmdLock => none
  | .replayStart _ => none
  | .replayPassEnd _ _ => none
  | .lstatRead => none
  | .pairTableClear => none
  | .ctxopSave _ => none
  | .ctxopRestore _ => none
  | .controlWindowWrite _ _ => none
  | .galysTranslationDone _ => none
  | .translationStoreReclaim => none
  | .decodeTableLoad => none
  | .coreCycle _ => none
  | .eccError _ => none
  | .freeGangNumberWake _ => none
  | .powerLoss _ => none
  | .ucieLaneRepair _ => none
  | .ucieL1Entry _ => none
  | .ucieL1Exit _ => none
  | .i3cDynamicAddress _ => none

/-- The length of an encoded instruction in bytes (R24). -/
def Code.len : Code → Nat
  | .half _ => 2
  | .word _ => 4
  | .wide _ _ => 8

/-- `tval` of the illegal-instruction trap: the halfword or the first word, zero-extended (R36). -/
def Code.tval : Code → Word
  | .half h => h.setWidth 64
  | .word w => w.setWidth 64
  | .wide w0 _ => w0.setWidth 64

/-- The n bytes of a value, least significant first. -/
def leBytes : Nat → Nat → List Byte
  | 0, _ => []
  | n + 1, v => BitVec.ofNat 8 v :: leBytes n (v / 256)

/-- The bytes of an instruction as they stand in memory (R24). -/
def Code.bytes : Code → List Byte
  | .half h => [h.extractLsb' 0 8, h.extractLsb' 8 8]
  | .word w => [w.extractLsb' 0 8, w.extractLsb' 8 8, w.extractLsb' 16 8, w.extractLsb' 24 8]
  | .wide w v => [w.extractLsb' 0 8, w.extractLsb' 8 8, w.extractLsb' 16 8, w.extractLsb' 24 8,
      v.extractLsb' 0 8, v.extractLsb' 8 8, v.extractLsb' 16 8, v.extractLsb' 24 8]

/-- The eight bytes that hold an instruction whose bits are w; bits above nbits are zero. -/
def tableBytes (nbits w : Nat) : List Byte := leBytes 8 (w % 2 ^ nbits)

/-- What the decoder reads from an instruction whose bits are w, bit 0 the least significant bit of the
first word. -/
def decodeTableWord (nbits w : Nat) : Option Instr :=
  match decode (tableBytes nbits w) with
  | .ok (i, _) => some i
  | .error _ => none

end

end Sys2Proof
end

