-- ==== Sys2Proof/Machine/Memory.lean ====
section
/-! DEFINITION. Bytes by address in one canonical form: a list of (address, byte) pairs with addresses strictly rising
and no entry equal to what an unlisted address reads as. Physical memory (18 R356) and the scratchpad banks (10 R202)
are held so. An unlisted byte reads as 0: the spec gives memory no contents at power-on (DESIGN CHOICE, log entry 1). -/

namespace Sys2Proof.Machine

/-- A sparse array of bytes. -/
abbrev Memory := List Host.Cell

namespace Memory

/-- What an address that the list does not name reads as (DESIGN CHOICE, log entry 1). -/
def unlisted : Byte := 0

/-- The byte at an address. -/
def read : Memory → Nat → Byte
  | [], _ => unlisted
  | (k, v) :: m, a => if k = a then v else read m a

/-- The n bytes from an address on. -/
def readN (m : Memory) (a : Nat) : Nat → List Byte
  | 0 => []
  | n + 1 => m.read a :: readN m (a + 1) n

/-- The little-endian value of a byte list (R6). -/
def leVal : List Byte → Nat
  | [] => 0
  | b :: bs => b.toNat + 256 * leVal bs

/-- The n-byte value at an address, little-endian (R6). -/
def readVal (m : Memory) (a n : Nat) : Nat := leVal (m.readN a n)

/-- The entries that bytes `bs` from `a` on need. -/
def cells : Nat → List Byte → Memory
  | _, [] => []
  | a, b :: bs => if b = unlisted then cells (a + 1) bs else (a, b) :: cells (a + 1) bs

/-- The entries below an address. -/
def below (m : Memory) (a : Nat) : Memory := m.filter fun c => decide (c.1 < a)

/-- The entries from an address on. -/
def from' (m : Memory) (a : Nat) : Memory := m.filter fun c => decide (a ≤ c.1)

/-- Writing bytes from an address on. -/
def write (m : Memory) (a : Nat) (bs : List Byte) : Memory :=
  m.below a ++ (cells a bs ++ m.from' (a + bs.length))

/-- Writing an n-byte value, little-endian (R6). -/
def writeVal (m : Memory) (a n v : Nat) : Memory := m.write a (leBytes n v)

/-- The canonical form: addresses strictly rising, no entry equal to an unlisted byte. -/
def canonical : Memory → Bool
  | [] => true
  | (_, v) :: [] => v != unlisted
  | (k, v) :: (l, w) :: m => v != unlisted && decide (k < l) && canonical ((l, w) :: m)

/-- The canonical form as a proposition. -/
abbrev wf (m : Memory) : Prop := m.canonical = true

end Memory

end Sys2Proof.Machine
end

