-- ==== Sys2Proof/Machine/Num.lean ====
section
/-! DEFINITION. Numbers (03_number_formats.md): tags (R45-R52), exact values, decoding of every element format
(R53-R57), exact sums, products and quotients (R58, R63), `round_to` (R59), conversions (R60) and the orderings of R67
and R68. A flag set is a Word laid out as `vflags` (R62). -/

namespace Sys2Proof.Machine

/-! Flags (R62). -/

/-- NX, bit 0. -/
def flNX : Word := 1
/-- UF, bit 1. -/
def flUF : Word := 2
/-- OF, bit 2. -/
def flOF : Word := 4
/-- DZ, bit 3. -/
def flDZ : Word := 8
/-- NV, bit 4. -/
def flNV : Word := 16
/-- SAT, bit 5. -/
def flSAT : Word := 32
/-- LTRANGE, bit 8. -/
def flLT : Word := 256
/-- A flag that is set when b holds. -/
def flIf (b : Bool) (f : Word) : Word := if b then f else 0

/-! Tags. -/

/-- A 10-bit tag (R45). -/
abbrev Tag := BitVec 10

/-- The kinds of R45. -/
inductive Kind where
  | sint | uint | ieee | bf | b8 | idx | row | nib
  deriving DecidableEq, Repr

/-- KIND, bits [2:0] (R45). -/
def tagKind (t : Tag) : Kind :=
  match t.toNat % 8 with
  | 0 => .sint
  | 1 => .uint
  | 2 => .ieee
  | 3 => .bf
  | 4 => .b8
  | 5 => .idx
  | 6 => .row
  | _ => .nib

/-- WID as a width in bits (R45). -/
def tagWidth (t : Tag) : Nat := 8 <<< (t.toNat / 8 % 4)
/-- PREC (R45). -/
def tagPrec (t : Tag) : Nat := t.toNat / 32 % 8
/-- UNS (R45). -/
def tagUns (t : Tag) : Bool := t.getLsbD 8
/-- EXT (R45). -/
def tagExt (t : Tag) : Bool := t.getLsbD 9

/-- The well-formed tags of R46. -/
def tagOk (t : Tag) : Bool :=
  match tagKind t with
  | .sint | .uint => t.toNat < 32
  | .ieee => t = 0x00A || t = 0x012 || t = 0x01A
  | .bf => t = 0x00B
  | .b8 => t.toNat / 8 % 4 = 0 && tagPrec t != 0
  | .idx => t = 0x015 || t = 0x01D
  | .row => t = 0x006
  | .nib => t = 0x007 || t = 0x107

def tagFp16 : Tag := 0x00A
def tagBf16 : Tag := 0x00B
def tagFp32 : Tag := 0x012
def tagFp64 : Tag := 0x01A

/-- log2 of W/8 for W = 8, 16, 32, 64. -/
def widthCode (w : Nat) : Nat := if w ≤ 8 then 0 else if w ≤ 16 then 1 else if w ≤ 32 then 2 else 3

/-- The unsigned integer tag of width w. -/
def tagUint (w : Nat) : Tag := BitVec.ofNat 10 (8 * widthCode w + 1)
/-- The tag of `VID` by element width (R116). -/
def tagId (w : Nat) : Tag := if w = 8 then 0x001 else if w = 16 then 0x009 else if w = 32 then 0x015 else 0x01D

/-- Kind I: the signed and unsigned integers. -/
def Kind.isInt : Kind → Bool
  | .sint | .uint => true
  | _ => false
/-- Kinds F and B. -/
def Kind.isFloat : Kind → Bool
  | .ieee | .bf | .b8 => true
  | _ => false
/-- Kind F: IEEE and bfloat16. -/
def Kind.isF : Kind → Bool
  | .ieee | .bf => true
  | _ => false
/-- Kinds I, X, F and B. -/
def Kind.isIXFB (k : Kind) : Bool := k.isInt || k.isFloat || k == .idx
/-- Kinds I and X. -/
def Kind.isIX (k : Kind) : Bool := k.isInt || k == .idx
/-- Kinds N and W. -/
def Kind.isNW : Kind → Bool
  | .nib | .row => true
  | _ => false

/-! Rounding modes. -/

/-- The RND field of R64 and RM of R63. -/
inductive Rnd where
  | rne | rtz | rdn | rup | rna
  deriving DecidableEq, Repr

/-- RND 0-4; 5-7 are no mode (R64). -/
def rndOf (n : Nat) : Option Rnd :=
  match n with
  | 0 => some .rne
  | 1 => some .rtz
  | 2 => some .rdn
  | 3 => some .rup
  | 4 => some .rna
  | _ => none

/-! Exact values. -/

/-- The exact value of an element or of an intermediate result (R58): `fin neg n d` is ± n / d with d > 0, where a zero
keeps its sign. -/
inductive Exact where
  | nan (signalling : Bool)
  | inf (neg : Bool)
  | fin (neg : Bool) (num den : Nat)
  deriving DecidableEq, Repr

namespace Exact

def isNan : Exact → Bool
  | .nan _ => true
  | _ => false
/-- A signalling NaN (R53). -/
def isSig : Exact → Bool
  | .nan b => b
  | _ => false
def isZero : Exact → Bool
  | .fin _ n _ => n == 0
  | _ => false
/-- The sign bit; false for NaN. -/
def sign : Exact → Bool
  | .nan _ => false
  | .inf b => b
  | .fin b _ _ => b
/-- An integer. -/
def ofInt (v : Int) : Exact := .fin (decide (v < 0)) v.natAbs 1
/-- A zero of the given sign. -/
def zero (neg : Bool) : Exact := .fin neg 0 1
/-- m × 2^e. -/
def dyadic (neg : Bool) (m : Nat) (e : Int) : Exact :=
  match e with
  | .ofNat k => .fin neg (m <<< k) 1
  | .negSucc k => .fin neg m (1 <<< (k + 1))
/-- Multiplication by 2^k; zeros, infinities and NaNs unchanged (R66). -/
def scale (x : Exact) (k : Int) : Exact :=
  match x with
  | .fin neg n d =>
    if n = 0 then x
    else
      match k with
      | .ofNat j => .fin neg (n <<< j) d
      | .negSucc j => .fin neg n (d <<< (j + 1))
  | _ => x
/-- Sign change. -/
def neg : Exact → Exact
  | .nan b => .nan b
  | .inf b => .inf (!b)
  | .fin b n d => .fin (!b) n d
/-- Magnitude. -/
def abs : Exact → Exact
  | .nan b => .nan b
  | .inf _ => .inf false
  | .fin _ n d => .fin false n d

/-- ± n as an integer. -/
def toInt (neg : Bool) (n : Nat) : Int := if neg then -(n : Int) else n

/-- The sum of two finite values, with the zero signs of R58. -/
def addFin (m : Rnd) (b1 : Bool) (n1 d1 : Nat) (b2 : Bool) (n2 d2 : Nat) : Exact :=
  if n1 = 0 ∧ n2 = 0 then
    if b1 = b2 then zero b1 else zero (m == .rdn)
  else
    let s : Int × Nat :=
      if d1 = d2 then (toInt b1 n1 + toInt b2 n2, d1)
      else if d1 % d2 = 0 then (toInt b1 n1 + toInt b2 (n2 * (d1 / d2)), d1)
      else if d2 % d1 = 0 then (toInt b1 (n1 * (d2 / d1)) + toInt b2 n2, d2)
      else (toInt b1 (n1 * d2) + toInt b2 (n2 * d1), d1 * d2)
    if s.1 = 0 then zero (m == .rdn) else .fin (decide (s.1 < 0)) s.1.natAbs s.2

/-- x + y and the NV that R58 sets; m gives the sign of a cancelled sum. -/
def add (m : Rnd) (x y : Exact) : Exact × Word :=
  let sig := flIf (x.isSig || y.isSig) flNV
  match x, y with
  | .nan _, _ | _, .nan _ => (.nan false, sig)
  | .inf a, .inf b => if a = b then (.inf a, 0) else (.nan false, flNV)
  | .inf a, .fin _ _ _ => (.inf a, 0)
  | .fin _ _ _, .inf b => (.inf b, 0)
  | .fin b1 n1 d1, .fin b2 n2 d2 => (addFin m b1 n1 d1 b2 n2 d2, 0)

/-- A zero without its sign: the exact product of integers, which have no −0, is the rational 0 (R58). -/
def unsignedZero : Exact → Exact
  | .fin b n d => if n = 0 then .fin false 0 d else .fin b n d
  | x => x

/-- x × y and the NV that R58 sets. -/
def mul (x y : Exact) : Exact × Word :=
  let sig := flIf (x.isSig || y.isSig) flNV
  let s := x.sign != y.sign
  match x, y with
  | .nan _, _ | _, .nan _ => (.nan false, sig)
  | .inf _, y => if y.isZero then (.nan false, flNV) else (.inf s, 0)
  | .fin _ n _, .inf _ => if n = 0 then (.nan false, flNV) else (.inf s, 0)
  | .fin _ n1 d1, .fin _ n2 d2 => if n1 = 0 ∨ n2 = 0 then (zero s, 0) else (.fin s (n1 * n2) (d1 * d2), 0)

/-- x / y with the special cases of R63. -/
def div (x y : Exact) : Exact × Word :=
  let sig := flIf (x.isSig || y.isSig) flNV
  let s := x.sign != y.sign
  match x, y with
  | .nan _, _ | _, .nan _ => (.nan false, sig)
  | .inf _, .inf _ => (.nan false, flNV)
  | .inf _, .fin _ _ _ => (.inf s, 0)
  | .fin _ _ _, .inf _ => (zero s, 0)
  | .fin _ n1 d1, .fin _ n2 d2 =>
    if n2 = 0 then (if n1 = 0 then (.nan false, flNV) else (.inf s, flDZ))
    else if n1 = 0 then (zero s, 0) else (.fin s (n1 * d2) (d1 * n2), 0)

/-- Both infinities are among the terms (R58). -/
def clash (xs : List Exact) : Bool := xs.any (· == .inf true) && xs.any (· == .inf false)

/-- The sum of a list of terms (R58): a NaN among them or a clash of infinities makes it NaN, and a signalling NaN or a clash sets NV;
otherwise the exact sum. -/
def sum (m : Rnd) (xs : List Exact) : Exact × Word :=
  if xs.any isNan then (.nan false, flIf (xs.any isSig || clash xs) flNV)
  else
    match xs with
    | [] => (zero false, 0)
    | x :: rest => rest.foldl (fun acc y => let r := add m acc.1 y; (r.1, acc.2 ||| r.2)) (x, 0)

/-- The integer square root of n by bisection on a bit list: `isqrt k n` for n < 4^k. -/
def isqrt : Nat → Nat → Nat
  | 0, _ => 0
  | k + 1, n =>
    let r := 2 * isqrt k (n / 4)
    if (r + 1) * (r + 1) ≤ n then r + 1 else r

/-- √x to within half a unit of a precision far beyond every format, with a sticky low bit, so that it rounds as the exact
root does; the special cases of R80 and R116. -/
def sqrt (x : Exact) : Exact × Word :=
  match x with
  | .nan b => (.nan false, flIf b flNV)
  | .inf true => (.nan false, flNV)
  | .inf false => (.inf false, 0)
  | .fin neg n d =>
    if n = 0 then (x, 0)
    else if neg then (.nan false, flNV)
    else
      -- n / d = n·d / d²; the root is √(n·d) / d
      let k := 80
      let r := isqrt ((Nat.log2 (n * d) + 2 * k) / 2 + 1) ((n * d) <<< (2 * k))
      let r' := if r * r = (n * d) <<< (2 * k) then 2 * r else 2 * r + 1
      (.fin false r' (d <<< (k + 1)), 0)

/-- The order of two values; none when a NaN takes part (R67). -/
def cmp (x y : Exact) : Option Ordering :=
  match x, y with
  | .nan _, _ | _, .nan _ => none
  | .inf a, .inf b => some (if a = b then .eq else if a then .lt else .gt)
  | .inf a, .fin _ _ _ => some (if a then .lt else .gt)
  | .fin _ _ _, .inf b => some (if b then .gt else .lt)
  | .fin b1 n1 d1, .fin b2 n2 d2 => some (compare (toInt b1 n1 * d2) (toInt b2 n2 * d1))

/-- x < y, with −0 below +0 (R68, R69); NaN is below nothing. -/
def below (x y : Exact) : Bool :=
  match cmp x y with
  | some .lt => true
  | some .eq => x.isZero && x.sign && !y.sign
  | _ => false

end Exact

/-! Float formats. -/

/-- A float format (R53, R55, R56). `maxBits` is the magnitude of the largest finite value. -/
structure Fmt where
  width : Nat
  prec : Nat
  bias : Nat
  signed : Bool
  hasInf : Bool
  infBits : Nat
  nanBits : Nat
  maxBits : Nat
  b8 : Bool
  deriving DecidableEq, Repr

/-- An IEEE format of w bits with eb exponent bits. -/
def ieeeFmt (w eb : Nat) : Fmt :=
  let tb := w - 1 - eb
  let inf := (2 ^ eb - 1) <<< tb
  { width := w, prec := tb + 1, bias := 2 ^ (eb - 1) - 1, signed := true, hasInf := true, infBits := inf,
    nanBits := inf + 2 ^ (tb - 1), maxBits := inf - 1, b8 := false }

/-- A binary8 format (R55, R56). -/
def b8Fmt (p : Nat) (uns ext : Bool) : Fmt :=
  { width := 8, prec := p, bias := 2 ^ (7 - p), signed := !uns, hasInf := ext,
    infBits := if uns then 0xFE else 0x7F, nanBits := if uns then 0xFF else 0x80,
    maxBits := (if uns then 0xFE else 0x7F) - (if ext then 1 else 0), b8 := true }

def fmtFp32 : Fmt := ieeeFmt 32 8
def fmtFp64 : Fmt := ieeeFmt 64 11

/-- The float format that a tag of kind F or B names. -/
def fmtOf (t : Tag) : Fmt :=
  match tagKind t with
  | .bf => ieeeFmt 16 8
  | .b8 => b8Fmt (tagPrec t) (tagUns t) (tagExt t)
  | _ => if tagWidth t = 16 then ieeeFmt 16 5 else if tagWidth t = 32 then fmtFp32 else fmtFp64

/-- The magnitude that the bits of a finite encoding denote (R53, R55): m × 2^e. -/
def magOf (f : Fmt) (mag : Nat) : Nat × Int :=
  let tb := f.prec - 1
  let e := mag >>> tb
  let t := mag % 2 ^ tb
  if e = 0 then (t, 1 - (f.bias : Int) - tb) else (2 ^ tb + t, (e : Int) - f.bias - tb)

/-- The exact value of an encoding. -/
def decodeFloat (f : Fmt) (bits : Nat) : Exact :=
  let mag := if f.signed then bits % 2 ^ (f.width - 1) else bits
  let neg := f.signed && bits ≥ 2 ^ (f.width - 1)
  if f.b8 then
    if bits = f.nanBits then .nan false
    else if f.hasInf && mag = f.infBits then .inf neg
    else let m := magOf f mag; .dyadic neg m.1 m.2
  else if mag > f.infBits then .nan (mag < f.nanBits)
  else if mag = f.infBits then .inf neg
  else let m := magOf f mag; .dyadic neg m.1 m.2

/-- The sign bit in place. -/
def signBits (f : Fmt) (neg : Bool) : Nat := if f.signed && neg then 2 ^ (f.width - 1) else 0

/-- The zero that keeps the sign in IEEE formats and is 0x00 in binary8 (R59). -/
def zeroBits (f : Fmt) (neg : Bool) : Nat := if f.b8 then 0 else signBits f neg

/-- ⌊log2 (n / d)⌋ for n, d > 0. -/
def log2Frac (n d : Nat) : Int :=
  let e : Int := (Nat.log2 n : Int) - Nat.log2 d
  let lt : Bool := match e with
    | .ofNat k => n < d <<< k
    | .negSucc k => n <<< (k + 1) < d
  if lt then e - 1 else e

/-- n / d rounded to a multiple of 2^q: the multiple, and whether it is exact. `odd` is the parity of the encoding of the
multiple below, for ties (R59). -/
def roundGrid (m : Rnd) (neg : Bool) (n d : Nat) (q : Int) (odd : Nat → Bool) : Nat × Bool :=
  let nd : Nat × Nat := match q with
    | .ofNat k => (n, d <<< k)
    | .negSucc k => (n <<< (k + 1), d)
  let r := nd.1 / nd.2
  let rem := nd.1 % nd.2
  if rem = 0 then (r, true)
  else
    let up : Bool := match m with
      | .rne => decide (nd.2 < 2 * rem) || (2 * rem = nd.2 && odd r)
      | .rtz => false
      | .rdn => neg
      | .rup => !neg
      | .rna => decide (nd.2 ≤ 2 * rem)
    (if up then r + 1 else r, false)

/-- `round_to` on a finite non-zero value ± n / d (R59). For a binary8 format of precision 1, to which R55 gives no subnormals, the
subnormal grid of R59 is read as the multiples of 2^(1 − bias) (DESIGN CHOICE: the spec names no grid there; log entry 22). -/
def roundFin (f : Fmt) (m : Rnd) (sat flush : Bool) (neg : Bool) (n d : Nat) : Nat × Word :=
  let tb := f.prec - 1
  let sg := signBits f neg
  let e := log2Frac n d
  let odd : Nat → Bool := fun r => if f.prec = 1 then (e + f.bias) % 2 = 1 else r % 2 = 1
  let y := roundGrid m neg n d (e - tb) odd
  -- the encoding that y would have with an unbounded exponent: exponent field and trailing field as one integer
  let enc : Int := (e + f.bias - 1) * (2 ^ tb : Nat) + y.1
  if enc > f.maxBits then
    let fl := flOF ||| flNX
    if sat || m == .rtz || (m == .rdn && !neg) || (m == .rup && neg) then (sg + f.maxBits, fl)
    else if f.hasInf then (sg + f.infBits, fl)
    else (f.nanBits, fl)
  else if enc < (2 ^ tb : Nat) then
    if flush then (zeroBits f neg, flUF ||| flNX)
    else
      let z := roundGrid m neg n d (1 - (f.bias : Int) - tb) (fun r => r % 2 = 1)
      (if z.1 = 0 then zeroBits f neg else sg + z.1, flIf (!z.2) (flUF ||| flNX))
  else (sg + enc.toNat, flIf (!y.2) flNX)

/-- `round_to` for a float format (R59): the encoding and the flags. -/
def roundTo (f : Fmt) (m : Rnd) (sat flush : Bool) (x : Exact) : Nat × Word :=
  match x with
  | .nan b => (f.nanBits, flIf b flNV)
  | .inf neg =>
    if !f.signed && neg then (if sat then 0 else f.nanBits, flNV)
    else if f.hasInf then (signBits f neg + f.infBits, 0)
    else (if sat then signBits f neg + f.maxBits else f.nanBits, flNV)
  | .fin neg n d =>
    if n = 0 then (zeroBits f neg, 0)
    else if !f.signed && neg then (if sat then 0 else f.nanBits, flNV)
    else roundFin f m sat flush neg n d

/-- Flush inputs (R61): a subnormal operand becomes a zero, of its sign in IEEE formats and bf16. -/
def flushIn (on : Bool) (f : Fmt) (bits : Nat) : Nat :=
  if on then
    let mag := if f.signed then bits % 2 ^ (f.width - 1) else bits
    if mag ≠ 0 ∧ mag < 2 ^ (f.prec - 1) ∧ bits ≠ f.nanBits then zeroBits f (bits ≥ 2 ^ (f.width - 1)) else bits
  else bits

/-! Integers. -/

/-- Two's complement value of w bits. -/
def sval (w bits : Nat) : Int := if bits % 2 ^ w < 2 ^ (w - 1) then (bits % 2 ^ w : Nat) else (bits % 2 ^ w : Nat) - (2 ^ w : Nat)

/-- The low w bits of an integer. -/
def cut (w : Nat) (v : Int) : Nat := (v % (2 ^ w : Nat)).toNat

/-- Whether the kind is read as two's complement (R48, R52). -/
def tagSigned (t : Tag) : Bool :=
  match tagKind t with
  | .sint => true
  | .nib => !tagUns t
  | _ => false

/-- The width of an element as numbers: 4 for nibbles (R52). -/
def numWidth (t : Tag) : Nat := if tagKind t == .nib then 4 else tagWidth t

/-- The integer value of an encoding under an integer, index or nibble tag. -/
def ival (t : Tag) (bits : Nat) : Int :=
  let w := numWidth t
  if tagSigned t then sval w bits else (bits % 2 ^ w : Nat)

/-- The smallest value of an integer tag. -/
def imin (t : Tag) : Int := if tagSigned t then -(2 ^ (numWidth t - 1) : Nat) else 0
/-- The largest value of an integer tag. -/
def imax (t : Tag) : Int := if tagSigned t then (2 ^ (numWidth t - 1) : Nat) - 1 else (2 ^ numWidth t : Nat) - 1

/-- v clamped to the range of t, and whether it was clamped. -/
def clampInt (t : Tag) (v : Int) : Int × Bool :=
  if v < imin t then (imin t, true) else if v > imax t then (imax t, true) else (v, false)

/-- The exact value of an element under its tag. -/
def value (t : Tag) (bits : Nat) : Exact :=
  if (tagKind t).isFloat then decodeFloat (fmtOf t) bits else .ofInt (ival t bits)

/-- A finite magnitude rounded to an integer. -/
def roundInt (m : Rnd) (neg : Bool) (n d : Nat) : Int × Bool :=
  let r := roundGrid m neg n d 0 (fun k => k % 2 = 1)
  (Exact.toInt neg r.1, r.2)

/-- Float to integer (R60). A value is out of range when its rounded value is (255.4 to `uint8` gives 255 and NX), and a value
that is out of range sets NV alone, inexact or not (DESIGN CHOICE: R60 says neither; log entry 22). -/
def floatToInt (m : Rnd) (t : Tag) (x : Exact) : Nat × Word :=
  match x with
  | .nan _ => (0, flNV)
  | .inf neg => (cut (numWidth t) (if neg then imin t else imax t), flNV)
  | .fin neg n d =>
    let r := roundInt m neg n d
    let c := clampInt t r.1
    if c.2 then (cut (numWidth t) c.1, flNV) else (cut (numWidth t) r.1, flIf (!r.2) flNX)

/-- Integer to integer (R60), and the integer results of R113: round, then wrap or clamp. -/
def intToInt (m : Rnd) (sat : Bool) (t : Tag) (x : Exact) : Nat × Word :=
  match x with
  | .fin neg n d =>
    let r := roundInt m neg n d
    let fl := flIf (!r.2) flNX
    if sat then
      let c := clampInt t r.1
      (cut (numWidth t) c.1, fl ||| flIf c.2 flSAT)
    else (cut (numWidth t) r.1, fl)
  | _ => (0, flNV)

/-- Conversion of an exact value to tag d (R60); `fromInt` says that the source is an integer, index or nibble. -/
def convert (m : Rnd) (sat flush fromInt : Bool) (d : Tag) (x : Exact) : Nat × Word :=
  if (tagKind d).isFloat then roundTo (fmtOf d) m sat flush x
  else if fromInt then intToInt m sat d x
  else floatToInt m d x

/-! Ordering. -/

/-- Float minimum or maximum (R68) on encodings: the chosen exact value and whether it is a's (`some true`), b's
(`some false`) or a fresh NaN (`none`). -/
def pickMinMax (wantMax : Bool) (x y : Exact) : Option Bool × Word :=
  let fl := flIf (x.isSig || y.isSig) flNV
  if x.isNan && y.isNan then (none, fl)
  else if x.isNan then (some false, fl)
  else if y.isNan then (some true, fl)
  else if wantMax then (some (!x.below y), fl)
  else (some (!y.below x), fl)

/-- The relations of R67. -/
inductive Rel where
  | eq | ne | lt | le | gt | ge
  deriving DecidableEq, Repr

/-- A comparison of exact values (R67): the truth and NV. -/
def relate (r : Rel) (x y : Exact) : Bool × Word :=
  let sig := x.isSig || y.isSig
  match Exact.cmp x y with
  | none =>
    match r with
    | .eq => (false, flIf sig flNV)
    | .ne => (true, flIf sig flNV)
    | _ => (false, flNV)
  | some o =>
    (match r with
     | .eq => o == .eq
     | .ne => o != .eq
     | .lt => o == .lt
     | .le => o != .gt
     | .gt => o == .gt
     | .ge => o != .lt, 0)

/-! Scalar forms (R136). -/

/-- The scalar form of an element of an I, X, F or B tag. -/
def scalarForm (t : Tag) (bits : Nat) : Nat :=
  match tagKind t with
  | .sint => cut 64 (ival t bits)
  | .ieee | .bf | .b8 =>
    if tagWidth t = 64 then bits
    else (roundTo fmtFp32 .rne false false
      (match decodeFloat (fmtOf t) bits with | .nan _ => .nan false | x => x)).1
  | _ => bits % 2 ^ tagWidth t

/-- A scalar form converted back to an element, with flags (R136): `fin` flushes a subnormal scalar before a conversion that rounds and `fres` a tiny
result of its rounding (R61). The encoding of an `fp64` is kept. -/
def elementForm (fin fres : Bool) (t : Tag) (v : Nat) : Nat × Word :=
  if (tagKind t).isFloat then
    if tagWidth t = 64 then (v % 2 ^ 64, 0)
    else roundTo (fmtOf t) .rne false fres (decodeFloat fmtFp32 (flushIn fin fmtFp32 (v % 2 ^ 32)))
  else (v % 2 ^ tagWidth t, 0)

end Sys2Proof.Machine
end

