-- ==== Sys2Proof/Machine/Units.lean ====
section
/-! DEFINITION. The parts of the machine that State is made of: the registers of a thread, the vector instruction queue, and
the units and tables of a core and of the device. -/

namespace Sys2Proof.Machine

/-- A vector register: its tag (R45) and its bytes as one number (R104). -/
structure VReg where
  tag : Tag
  bits : Nat
  deriving DecidableEq, Repr

/-- A vector register at thread start: zero, tag `sint8` (R7). -/
def VReg.start : VReg := ⟨0, 0⟩

/-- The resource classes of R31. -/
inductive Cls where
  | alu | fma | sfu | ld | st | xl | mx
  deriving DecidableEq, Repr

/-- The convoy in force: its members per class (R30, R31). `none` where the next push starts a convoy. -/
structure Convoy where
  alu : Nat
  fma : Nat
  sfu : Nat
  ld : Nat
  st : Nat
  xl : Nat
  mx : Nat
  deriving DecidableEq, Repr

/-- A translation that a batch has pinned (R214): a leaf, and whether it is one of 256 MiB, or the page CODE that its walk gave. -/
inductive Pin where
  | leaf (e : Word) (block : Bool)
  | fault (code : Nat)
  deriving DecidableEq, Repr

/-- An entry of the vector instruction queue (R16, R328). `vstart` is the first element that is not done, `first` the captured one, `fin`
says that the entry has finished and waits for older ones to complete (R17), `rid` is the fault record it waits on, `pins` are the pages
of the batch in progress and `upto` is the first element beyond it (R214), `seen` are the lines that its reads have had from the caches
(R207), and `dead` the `x` registers that its own loop check has written after it in the sequential order (R92). -/
structure Entry where
  code : Code
  addr : BitVec 52
  conv : Bool
  xa : Word
  xb : Word
  fmt : Word
  vl : Nat
  vstart : Nat
  vtype : Word
  flags : Word
  seq : Nat
  reissue : Bool
  rid : Option Nat
  fin : Bool
  first : Nat
  pins : List (Nat × Pin)
  upto : Nat
  seen : List Nat
  dead : List Nat
  deriving DecidableEq, Repr

/-- The user state registers of R97 that are words of their own. -/
structure UserRegs where
  tid : Word
  coreid : Word
  dieid : Word
  cycle : Word
  instret : Word
  vtype : Word
  vl : Word
  vstart : Word
  vcommit : Word
  vdirty : Word
  xdirty : Word
  rlen : Word
  vlmax : Word
  fthresh : Word
  lastd : Word
  vflags : Word
  sfctl : Word
  tdone : Word
  terr : Word
  gangid : Word
  deriving DecidableEq, Repr

/-- The values of R8 at thread start. -/
def UserRegs.start : UserRegs :=
  { tid := 0, coreid := 0, dieid := 0, cycle := 0, instret := 0, vtype := 0x100, vl := 0, vstart := 0, vcommit := 0,
    vdirty := 0, xdirty := 0, rlen := 2048, vlmax := 2048, fthresh := 0x60000, lastd := 0, vflags := 0, sfctl := 0,
    tdone := allOnes, terr := 0, gangid := 0 }

/-- The loop state of one level (R94). -/
structure LoopLevel where
  idx : Word
  trip : Word
  start : Word
  stop : Word
  deriving DecidableEq, Repr

/-- The modes of R302. -/
inductive Mode where
  | user | system
  deriving DecidableEq, Repr

/-- The system state registers of R304 that belong to a context; `status` is held by its fields (R303). -/
structure SysRegs where
  mode : Mode
  skipv : Bool
  kill : Bool
  evPre : Bool
  evKill : Bool
  evStop : Bool
  epc : Word
  cause : Word
  tval : Word
  tvec : Word
  scratch : Word
  asid : Word
  ptbase : Word
  fltq : Word
  prio : Word
  vepc : Word
  ctxarea : Word
  nent : Word
  deriving DecidableEq, Repr

/-- Poison marks of a context (R320, R321): bit n for register n. -/
structure Poison where
  x : Word
  v : Word
  m : Word
  ac : Word
  deriving DecidableEq, Repr

/-! The units of a core (R236, R281). -/

/-- An entry of the keyed store: slot 8s + w is way w of set s (R240). -/
structure KeyEnt where
  slot : Nat
  key : Nat
  val : Nat
  deriving DecidableEq, Repr

/-- The top-k unit (R248): candidates in descending rank, an FP32 score and an id. -/
structure TopK where
  k : Nat
  base : Word
  cands : List (Nat × Nat)
  deriving DecidableEq, Repr

def TopK.start : TopK := ⟨0, 0, []⟩

/-- A Tumbler binding: a snapshot of an automaton descriptor (R281, R283). -/
structure Binding where
  classtab : Word
  maptab : Word
  nsym : Nat
  nclass : Nat
  states : Nat
  deriving DecidableEq, Repr

/-- A stream half of the Hinge cursor (R292). -/
structure StreamHalf where
  addr : Word
  pos : Nat
  rem : Nat
  last : Nat
  limit : Nat
  cbase : Nat
  bit : Nat
  enc : Nat
  state : Nat
  deriving DecidableEq, Repr

def StreamHalf.start : StreamHalf := ⟨0, 0, 0, 0, 0, 0, 0, 0, 0⟩

/-- The units that one context holds at a time (R236, R281). -/
inductive UnitId where
  | keyed | lanes | topk | tumbler | hinge
  deriving DecidableEq, Repr

/-- A tile stream register (R266, R268): idle, or a descriptor and the bound barrier. -/
structure TileStream where
  live : Bool
  base : Word
  rstride : Word
  estride : BitVec 32
  rows : Nat
  rowlen : Nat
  tstep : Word
  bar : Option Word
  deriving DecidableEq, Repr

def TileStream.idle : TileStream := ⟨false, 0, 0, 0, 0, 0, 0, none⟩

/-- What a thread waits for (R171, R310). -/
inductive Wait where
  /-- Runnable. -/
  | none
  /-- A fault record: the instruction at pc, or the VIQ head, runs again after RESUME (R315). -/
  | record (rid : Nat)
  /-- The instruction at pc waits for another agent and executes again when its event occurs (R171). -/
  | event
  /-- Stopped by a debug stop until the host writes RESUME (R338). -/
  | stop
  deriving DecidableEq, Repr

/-- A delivered trap that the thread has not taken yet (R315): of the entry with a sequence number modulo 2^32, or of the instruction at an address. -/
structure Due where
  entry : Option Nat
  at_ : BitVec 52
  code : BitVec 8
  tval : Word
  deriving DecidableEq, Repr

/-- What belongs to the thread beside its registers. -/
structure Thread where
  /-- A thread occupies the context. -/
  live : Bool
  /-- The thread has ended and its lot has not completed: failed or not (R23, R323). -/
  ended : Option Bool
  wait : Wait
  /-- The launch, by the order in which launches were taken, and the lot index (R162, R163). -/
  launch : Nat
  lot : Nat
  /-- The lot range of each spatial level: level, lo, hi (R162). -/
  ranges : List (Nat × Nat × Nat)
  /-- Messages that wait: sender and payload, oldest first (R196). -/
  mailbox : List (Word × Word)
  /-- Halfwords that fetch may still see as they were: where they stand, and what they held (R380). -/
  stale : List (Nat × BitVec 16)
  /-- HASH of the pass (R351). -/
  hash : Word
  /-- The context mover has saved the thread, so that its context may take another one (R325, R329). -/
  saved : Bool
  /-- Traps that the service has delivered and the thread takes when it can (R315). -/
  due : List Due
  /-- The place of the thread in the order of placements (R325). -/
  born : Nat
  /-- The sequence number modulo 2^32 of the oldest entry when the thread was last saved (R315, R329). -/
  oldest : Nat
  /-- Copies of the saved thread that the service has ended: tag and page CODE (R261, R315). -/
  ends : List (Nat × Nat)
  deriving DecidableEq, Repr


/-! Caches (R199, R206-R209). The coherent bytes of a line stand in `State.mem`; a cache holds which lines are in it. -/

/-- How a leaf attributes an access to memory: memory type 1 (R211), and Z, a compressed page (R374). -/
structure MemAttr where
  dev : Bool
  z : Bool
  deriving DecidableEq, Repr

/-- Memory type 0 through a leaf with Z clear. -/
def MemAttr.normal : MemAttr := ⟨false, false⟩

/-- A line in a cache: its physical line number, whether it is dirty, and whether it was last written through a leaf with Z set. `bank` is its way
in the first-level data cache, and `high` its priority class (R207). -/
structure CacheLine where
  line : Nat
  dirty : Bool
  z : Bool
  high : Bool
  bank : Nat
  deriving DecidableEq, Repr

/-- What memory holds below a line that is dirty in some cache: its bytes, and whether they are poisoned. -/
structure BelowLine where
  line : Nat
  bytes : List Byte
  bad : Bool
  deriving DecidableEq, Repr

/-- The scalar side cache, the first-level data cache with the FIFO banks, and the L2 of the die, most recently used lines first; what memory
holds below dirty lines; the 2 KiB blocks of HBM that are stored compressed, by block number (R374); the lines of HBM that the host may hold, with
whether it has written them since a device agent had them last (R364); and the model's own index of the next free choice of a victim (log entry 41). -/
structure Caches where
  side : List CacheLine
  l1 : List CacheLine
  l2 : List CacheLine
  below : List BelowLine
  packed : List Nat
  host : List (Nat × Bool)
  next : Nat
  deriving DecidableEq, Repr

def Caches.empty : Caches := ⟨[], [], [], [], [], [], 0⟩

/-- An entry of a TLB: a leaf of an address space (R213). `page` is the 64 KiB page number, or, with `block`, that of the
first page of a 256 MiB block. -/
structure TlbEntry where
  asid : Nat
  page : Nat
  block : Bool
  leaf : Word
  deriving DecidableEq, Repr

/-- A page of a fault record: virtual page number, CODE and access (R313). -/
structure RecPage where
  page : Nat
  code : Nat
  acc : Nat
  deriving DecidableEq, Repr

/-- A fault record that has no answer yet (R313). `slot` is its place in the ring, none while it waits for room (R314). -/
structure FaultRec where
  rid : Nat
  slot : Option Nat
  tid : Word
  iaddr : Word
  seq : Nat
  /-- The context that waits on it. -/
  ctx : Bool
  /-- The CORE and CTX bytes: die × 64 + core and context of the thread named (R313, R353). -/
  place : Nat
  ctxByte : Nat
  source : Nat
  pages : List RecPage
  firstel : Nat
  more : Bool
  asid : Word
  tag : Nat
  pline : Nat
  /-- The address that `tval` gives for a fetch (R25). -/
  half : Word
  deriving DecidableEq, Repr

/-- A member of the gang on another core of the cluster (R195, R278): what a gang operation of the leader reads and writes
there. -/
structure Mate where
  member : Nat
  tid : Word
  coreid : Word
  ctx : Bool
  ts : Vector TileStream 8
  ac : Vector Nat 4
  acBad : Word
  m15 : Nat
  xdirty : Word
  banks : List Nat
  spad : Memory
  spadBad : List Nat
  tlb1 : List TlbEntry
  tlb2 : List TlbEntry
  deriving DecidableEq, Repr

/-- The record of a gang number of the cluster (R195): the object's physical address, its address in the threads' address
space, the size, and whether a member of the gang is on this core. -/
structure GangRec where
  gid : Nat
  obj : Nat
  va : Word
  size : Nat
  here : Bool
  deriving DecidableEq, Repr

/-- A part of the gang operation at the leader's VIQ head that has not completed (R353): the member and the record that it waits on,
none once answered. -/
structure GangPart where
  ctx : Bool
  member : Nat
  rid : Option Nat
  deriving DecidableEq, Repr

/-- A gang operation of another core's leader whose member part on this core has not completed (R279, R353): the leader's instruction, the member's
context, the tile, and the record that the part waits on, none once answered. -/
structure Aimed where
  addr : BitVec 52
  ctx : Bool
  ac : BitVec 2
  rid : Option Nat
  deriving DecidableEq, Repr

/-- A peer device as this one knows it (R369, R370): its id, whether it is a Phizon device, whether it refuses requests now, and the ports that
firmware has assigned to it. -/
structure Peer where
  id : Nat
  phizon : Bool
  refuses : Bool
  ports : List Nat
  deriving DecidableEq, Repr

/-- An entry of the device's migration table (R316). -/
structure MigEntry where
  page : Nat
  asid : Nat
  leafAddr : Nat
  oldFrame : Nat
  newFrame : Nat
  prog : Nat
  tid : Word
  tag : Nat
  deriving DecidableEq, Repr

/-! Debug and measurement (chapter 16). -/

/-- The debug registers of a context (R335-R337, R346). Bit KDEN of `ctl` is not held here: it is read from the Keyway. -/
structure DbgRegs where
  ctl : Word
  stat : Word
  bp : Vector Word 4
  wpa : Vector Word 4
  wpc : Vector Word 4
  pmsel : Vector Word 4
  pmcnt : Vector Word 4
  /-- The address of an instruction that executes once without matching a breakpoint (R338). -/
  pass : Option (BitVec 52)
  deriving DecidableEq, Repr

def DbgRegs.start : DbgRegs :=
  { ctl := 0, stat := 0, bp := Vector.replicate 4 0, wpa := Vector.replicate 4 0, wpc := Vector.replicate 4 0,
    pmsel := Vector.replicate 4 0, pmcnt := Vector.replicate 4 0, pass := none }

/-- A trace record (R341). -/
structure TraceRec where
  time : Word
  addr : Word
  element : Nat
  place : Nat
  ctx : Bool
  kind : Nat
  detail : Nat
  data : Word
  deriving DecidableEq, Repr

/-- An entry of the pair table (R347, R348). -/
structure PairRec where
  prod : BitVec 52
  cons : BitVec 52
  lost : Word
  last : BitVec 32
  most : BitVec 32
  deriving DecidableEq, Repr

/-! Engines (chapters 10 and 13). -/

/-- A copy that the copy engine holds (R256, R262). Copies stand in the order in which they were issued. -/
structure CopyJob where
  slot : Nat
  tid : Word
  ctx : Bool
  /-- The thread has given its context to the next lot (R173). -/
  drained : Bool
  tag : Nat
  asid : Nat
  ptbase : Nat
  /-- Addresses are physical (R309). -/
  phys : Bool
  /-- `CPYRED`. -/
  red : Bool
  /-- The 256 bytes of the copy block. -/
  block : List Byte
  /-- The lowest element that has not performed. -/
  cur : Nat
  /-- Bytes of the compressed output so far, and whether it has gone beyond the capacity (R263, R264). -/
  out : Nat
  spill : Bool
  flags : Word
  /-- The lines that it owns, by `Loc.lineKey` (R253). -/
  own : List Nat
  /-- Source lines that it has read, and their bytes as they stood, with its own writes (R233). -/
  lines : List Nat
  snap : Memory
  /-- The address of the instruction, and the sequence number that `vcommit` must have reached: earlier accesses are performed (R233). -/
  iaddr : BitVec 52
  after : Nat
  rid : Option Nat
  deriving DecidableEq, Repr

/-- A running prefetch slot (R219-R221). -/
structure PfSlot where
  slot : Nat
  tid : Word
  ctx : Bool
  drained : Bool
  asid : Nat
  ptbase : Nat
  phys : Bool
  addr : Word
  /-- The 128 bytes of the descriptor. -/
  desc : List Byte
  lead : Nat
  cons : Nat
  /-- Positions issued, and lines arrived. -/
  pos : Nat
  arrived : Nat
  /-- The lines on their way, oldest first: the physical line, none where no cache takes it (R220). -/
  flight : List (Option Nat)
  /-- STATE and CODE of the ending write that has not performed. -/
  ending : Option (Nat × Nat)
  iaddr : BitVec 52
  rid : Option Nat
  deriving DecidableEq, Repr

/-- The power state of a cluster (R402). -/
inductive Power where
  | run | idle | gated
  deriving DecidableEq, Repr

/-! The dispatcher (chapter 08). -/

/-- A portable section to be translated, by its key (R390); the generation of the key is the device's own. -/
structure GalysJob where
  digest : List Byte
  rev : BitVec 32
  text : List Byte
  deriving DecidableEq, Repr

/-- A launch that has been taken and has not finished. `tab` is the loop table, `waiting` the waiting lots as ranges of indices
[lo, hi), ascending (R162, R166). -/
structure Launch where
  id : Nat
  record : Nat
  entry : Word
  args : Word
  doneAddr : Word
  data : Word
  asid : Nat
  ptbase : Word
  prio : Nat
  dies : List Nat
  aff : Option Nat
  tab : List Word
  trips : List Nat
  lots : Nat
  waiting : List (Nat × Nat)
  ok : Nat
  failed : Nat
  energy : Nat
  /-- The section of a Galys image whose translation is not there yet (R390). -/
  galys : Option GalysJob
  /-- Address ranges [lo, hi) that the image and the argument block use (R389). -/
  uses : List (Nat × Nat)
  replay : Bool
  /-- Stack bytes of a thread (R378). -/
  stack : Word
  deriving DecidableEq, Repr

/-- A thread that the dispatcher has placed on another core: its id, its place, its launch and lot, its place in the order of placements, and its
mailbox (R168, R196, R325). -/
structure Remote where
  tid : Word
  die : Nat
  core : Nat
  ctx : Bool
  asid : Nat
  launch : Nat
  lot : Nat
  born : Nat
  mailbox : List (Word × Word)
  deriving DecidableEq, Repr

/-- The dispatcher (R165, R166, R367). `placed` counts the lots placed so far. `spaces` are the registered address spaces: asid and level-1 table (R164). -/
structure Dispatcher where
  ready : Bool
  tail : Nat
  cursor : Nat
  launches : List Launch
  nextId : Nat
  placed : Nat
  spaces : List (Nat × Word)
  corrupt : Bool
  listLost : Bool
  badDone : Bool
  record : Nat
  deriving DecidableEq, Repr

/-- A replay in progress (R349, R350). Captured pages are a page number, whether of the scratchpad, in the order of the save
area. -/
structure Replay where
  desc : Nat
  launch : Nat
  lot : Nat
  passes : Nat
  pass : Nat
  save : Nat
  pages : Nat
  got : List (Bool × Nat)
  full : Bool
  hash0 : Word
  mismatch : Bool
  /-- Where the stack area begins, and the thread id, of every pass. -/
  sp : Word
  tid : Word
  deriving DecidableEq, Repr

/-! The control window, links, clocks (chapters 18, 21). -/

/-- Registers of the control window (R366, R368) that belong to no other part. -/
structure Window where
  ktsink : Word
  kwAsid : Word
  kwKey : List Byte
  unlocked : Option Nat
  fails : Nat
  /-- The MSI-X table and pending bits, by offset from 0x1000. -/
  msi : Memory
  /-- Vectors raised so far, latest first. -/
  raised : List Nat
  /-- Addresses written to `REPLAY` that the dispatcher has not seen yet, oldest first. -/
  requests : List Word
  deriving DecidableEq, Repr

/-- Die-to-die links 0-1, 0-2, 1-3, 2-3, UCIe modules and UALink ports (R360-R362, R367, R369). -/
structure Links where
  /-- Consecutive CRC failures on one flit, by 2 × link + direction. -/
  fails : Vector Nat 8
  retrain : List Nat
  down : List Nat
  modDown : List Nat
  narrow : List Nat
  asleep : List Nat
  repairs : Vector Nat 4
  portDown : List Nat
  deriving DecidableEq, Repr

/-- Clock points by die (R403): 0 nominal, 1 efficiency, 9 − n for the throttle step n. `point` is firmware's choice, `cap` that of
THROTTLE, `heat` the steps down for temperature. -/
structure Clocks where
  point : Vector Nat 4
  cap : Vector Nat 4
  heat : Vector Nat 4
  deriving DecidableEq, Repr

/-! Translations (chapter 19). -/

/-- A translation by its key (R390). -/
structure Translation where
  digest : List Byte
  rev : BitVec 32
  code : List Byte
  /-- Whole: its digest holds (R392). -/
  whole : Bool
  /-- Its last use, and whether it was used since the last power-up (R391). -/
  lastUse : Nat
  used : Bool
  deriving DecidableEq, Repr

/-- An erase block of the translation store that holds entries, has been erased or is retired (R391). -/
structure FlashBlock where
  id : Nat
  erases : Nat
  retired : Bool
  entries : List Translation
  deriving DecidableEq, Repr

/-- The cache of translations, the store, and the decode-table revision with the table that it stands for (R385, R390-R392). -/
structure TransStore where
  rev : BitVec 32
  table : Option FlashImage
  /-- Cached translations with their physical places. -/
  cache : List (Nat × Translation)
  blocks : List FlashBlock
  /-- Sections that are being translated, or fetched from the store, with the revision of the start. -/
  busy : List GalysJob
  /-- The clock of last uses. -/
  tick : Nat
  deriving DecidableEq, Repr

/-! Pilot (chapter 21). -/

/-- An update in progress (R397): the stages of PLDM type 5 in their order. -/
inductive Update where
  | idle | requested | table (comps : List Component) | sent (comps : List Component) | transferred | verified | applied
  deriving DecidableEq, Repr

/-- What Pilot's failure log records. -/
inductive LogEntry where
  | bootFailed (step : Nat)
  | launchLost (record : Nat)
  | debugUnlocked
  | keywayDigest
  deriving DecidableEq, Repr

/-- The Pilot controller and the standby domain (R397-R404). -/
structure Pilot where
  /-- Every die is held in reset. -/
  held : Bool
  /-- The Jartur root key in fuses, and the debug root's key (R399, R401). -/
  rootKey : List Byte
  debugRoot : List Byte
  rollback : Nat
  serial : List Byte
  firmware : Option FlashImage
  decode : Option FlashImage
  prevFirmware : Option FlashImage
  prevDecode : Option FlashImage
  /-- An update was activated whose image has not booted yet. -/
  fresh : Bool
  staged : List (Component × FlashImage)
  update : Update
  nextId : Option Nat
  digest : List Byte
  log : List LogEntry
  eid : BitVec 8
  addr : Option (BitVec 7)
  negotiated : Bool
  nonce : Option (List Byte)
  fwDebug : Bool
  /-- The trace ring of firmware debug, oldest first, which only Pilot reads (R332, R398). -/
  fwTrace : List TraceRec
  /-- The certificate chain (R400). -/
  chain : List Byte
  /-- Pilot's updatable code, with its SM3 digest and SM2 signature (R399). -/
  code : List Byte
  codeDigest : List Byte
  codeSig : List Byte
  /-- The last answer over the Pilot port. -/
  reply : List Byte
  deriving DecidableEq, Repr

end Sys2Proof.Machine
end

