-- ==== Sys2Proof/Machine/State.lean ====
section
/-! DEFINITION. The machine state: one core with its two contexts, its cluster and die, and the device's shared units
(log entry 3). `cur` is the context whose turn it is, `oth` the other one. -/

namespace Sys2Proof.Machine

/-- One context and the thread on it (R7, R170). -/
structure Ctx where
  /-- The context number: false 0, true 1. -/
  id : Bool
  pc : BitVec 52
  /-- The wait half of `BARSYNC` or `GANG` is next (R193). -/
  half : Bool
  /-- What the join half of the instruction at an address has latched for its wait half: the object's address and the generation (R191, R193,
  R195). -/
  obj : Option (BitVec 52 × Word × Nat)
  x : Vector Word 32
  fm : Vector Word 8
  v : Vector VReg 32
  m : Vector Nat 16
  /-- Accumulator tiles: 64 × 64 FP32, row-major, as one number (R266). -/
  ac : Vector Nat 4
  ts : Vector TileStream 8
  /-- Copy-tag status (R259). -/
  tags : Vector Word 64
  /-- The VIQ, oldest entry first (R15). -/
  viq : List Entry
  frozen : Bool
  convoy : Option Convoy
  u : UserRegs
  lp : Vector LoopLevel 8
  sys : SysRegs
  /-- Register-extension banks that the context holds (R201). -/
  ext : List Nat
  poison : Poison
  dbg : DbgRegs
  thr : Thread
  deriving DecidableEq, Repr

/-- What the two contexts of a core share. -/
structure CoreRes where
  /-- Roles of the 40 banks of the core store (R200): 0 cache, 1 scratchpad, 2 FIFO, 3 register extension. -/
  banks : List Nat
  /-- Scratchpad bytes by bank number × 64 KiB + offset (R202). -/
  spad : Memory
  /-- Poisoned 128-byte lines of the scratchpad, by bank × 512 + line (R320). -/
  spadBad : List Nat
  /-- The `asid` that owns the scratchpad, and the images held for other owners: asid and address (R205). -/
  owner : Option Nat
  images : List (Nat × Nat)
  tlb1 : List TlbEntry
  tlb2 : List TlbEntry
  quads : Word
  /-- The quads that context 0 and context 1 hold, by bit (R172). -/
  held : Nat × Nat
  spimg : Word
  /-- The keyed store by rising slot, and its poisoned slots (R240, R320). -/
  keyed : List KeyEnt
  keyedBad : List Nat
  keyedBy : Option Bool
  /-- The lane tables by lane × 4,096 + byte (R246), and the poisoned tables by lane. -/
  lanes : Memory
  lanesBad : Word
  lanesBy : Option Bool
  topk : TopK
  topkBy : Option Bool
  tumbler : Option Binding
  tumblerBy : Option Bool
  /-- The halves of the Hinge cursor, stream A and stream B (R292). -/
  hinge : StreamHalf × StreamHalf
  hingeBy : Option Bool
  /-- The gang numbers of the cluster in use, the members on other cores, and the parts that a gang operation waits for. -/
  gangs : List GangRec
  mates : List Mate
  parts : List GangPart
  /-- Barriers whose arrival the parts of a context's gang operation have not made (R278), and the operation of another leader that is aimed at a
  thread of this core (R279). -/
  partBars : List (Bool × Word)
  aimed : Option Aimed
  /-- Copies in the order of their issue, prefetch slots, and the old threads whose context has gone on to the next lot (R173). -/
  copies : List CopyJob
  slots : List PfSlot
  drains : List Ctx
  /-- Contexts whose thread the mover has saved and whose place another thread has taken (R325). -/
  saved : List Ctx
  /-- Stall counters by 8e + c (R345). -/
  stalls : Vector Word 80
  pairs : List PairRec
  shadow : List PairRec
  pairIdx : Word
  /-- The cluster's trace buffer, oldest first, and its loss count (R342, R343). -/
  trace : List TraceRec
  loss : Nat
  power : Power
  /-- The cluster's energy counter in units of 2^-16 mJ, and its corrected errors (R405, R320). -/
  energy : Nat
  corrected : Nat
  deriving DecidableEq, Repr

/-- The device beyond the core. -/
structure Device where
  /-- Fault records that the service has not answered (R311), and the number of the next one. -/
  recs : List FaultRec
  nextRid : Nat
  mig : List MigEntry
  /-- Dies that are lost (R361, R376). -/
  lost : List Nat
  /-- The device's UALink id (R369). -/
  ualId : Option Nat
  /-- Peer devices (R370), and their memory by physical address in the peer windows (R356). -/
  peers : List Peer
  peerMem : Memory
  /-- Lines of peer memory that a peer answers with UALink error status (R373). -/
  peerBad : List Nat
  /-- Live threads on other cores (R168, R196). -/
  others : List Remote
  disp : Dispatcher
  replay : Option Replay
  win : Window
  links : Links
  clocks : Clocks
  store : TransStore
  pilot : Pilot
  /-- What the last read of an outside agent returned, and whether it was poisoned. -/
  reply : List Byte
  replyBad : Bool
  deriving DecidableEq, Repr

/-- Whether a die is lost (R376). -/
def Device.dieLost (d : Device) (n : Nat) : Bool := d.lost.contains n

structure State where
  cur : Ctx
  oth : Ctx
  core : CoreRes
  dev : Device
  /-- Physical memory (R356). -/
  mem : Memory
  /-- Poisoned 128-byte lines, by line number (R320). -/
  bad : List Nat
  /-- The caches of the core and of the die, and the form of memory below (R206-R209, R374). -/
  cache : Caches
  /-- The model's own: which agent moves next, in order: another agent's step, or (`none`) the core's (log entry 3). -/
  agenda : List (Option Instr)
  /-- The model's own: `cur` issues next whatever the priorities (R170, R198). -/
  forced : Bool
  /-- The model's own: the index of the next free value (log entry 7). -/
  free : Nat
  deriving DecidableEq, Repr

/-- Reasons to stop. The spec names none: what it calls a trap, fault or monitor fault is taken as an exception, and every
other behaviour has an effect; an empty type says so. -/
inductive Fault where
  deriving DecidableEq, Repr

/-- Reasons to refuse. -/
inductive Refusal where
  /-- Raised by an arm of `exec` that has no meaning yet. Safe: the machine stops where the hardware goes on. -/
  | notModelled (mnemonic : String)
  deriving DecidableEq, Repr

/-- An instruction's or a step's answer. -/
abbrev Out := Host.Outcome State Fault Refusal

/-- The system registers at reset (R304); `tvec`, `asid`, `ptbase`, `fltq`, `prio` and `ctxarea` have no value in the spec
before firmware and the dispatcher set them (DESIGN CHOICE 0, log entry 2). -/
def SysRegs.reset : SysRegs :=
  { mode := .user, skipv := false, kill := false, evPre := false, evKill := false, evStop := false, epc := 0, cause := 0,
    tval := 0, tvec := 0, scratch := 0, asid := 0, ptbase := 0, fltq := 0, prio := 0, vepc := 0, ctxarea := 0,
    nent := 0 }

def Poison.empty : Poison := { x := 0, v := 0, m := 0, ac := 0 }

def Thread.empty : Thread :=
  { live := false, ended := none, wait := .none, launch := 0, lot := 0, ranges := [], mailbox := [], stale := [], hash := 0,
    saved := false, due := [], born := 0, oldest := 0, ends := [] }

/-- A context at thread start (R7, R8); pc, mode and residency at reset are log entry 6. -/
def Ctx.reset (id : Bool) : Ctx :=
  { id := id, pc := 0, half := false, obj := none, x := Vector.replicate 32 0, fm := Vector.replicate 8 0,
    v := Vector.replicate 32 VReg.start, m := Vector.replicate 16 0, ac := Vector.replicate 4 0,
    ts := Vector.replicate 8 TileStream.idle, tags := Vector.replicate 64 0, viq := [],
    frozen := false, convoy := none, u := UserRegs.start, lp := Vector.replicate 8 ⟨0, 0, 0, 0⟩, sys := SysRegs.reset,
    ext := [], poison := Poison.empty, dbg := DbgRegs.start,
    thr := Thread.empty }

/-- Banks 0-23 cache, banks 24-39 scratchpad (R200); `quads` CTX0 = 3 (R326); no owner, empty TLBs. -/
def CoreRes.reset : CoreRes :=
  { banks := List.replicate 24 0 ++ List.replicate 16 1, spad := [], spadBad := [], owner := none, images := [], tlb1 := [],
    tlb2 := [], quads := 3, held := (15, 0), spimg := 0, keyed := [], keyedBad := [], keyedBy := none, lanes := [], lanesBad := 0,
    lanesBy := none, topk := TopK.start, topkBy := none, tumbler := none, tumblerBy := none,
    hinge := (StreamHalf.start, StreamHalf.start), hingeBy := none, gangs := [], mates := [], parts := [], partBars := [],
    aimed := none, copies := [], slots := [], drains := [], saved := [], stalls := Vector.replicate 80 0, pairs := [],
    shadow := [], pairIdx := 0, trace := [], loss := 0, power := .run, energy := 0, corrected := 0 }

/-- Before the first boot: no list, no launch (R165, R399). -/
def Dispatcher.reset : Dispatcher :=
  { ready := false, tail := 0, cursor := 0, launches := [], nextId := 0, placed := 0, spaces := [], corrupt := false, listLost := false,
    badDone := false, record := 0 }

def Window.reset : Window :=
  { ktsink := 0, kwAsid := 0, kwKey := List.replicate 32 0, unlocked := none, fails := 0, msi := [], raised := [],
    requests := [] }

def Links.reset : Links :=
  { fails := Vector.replicate 8 0, retrain := [], down := [], modDown := [], narrow := [], asleep := [],
    repairs := Vector.replicate 4 0, portDown := [] }

def Clocks.reset : Clocks :=
  { point := Vector.replicate 4 0, cap := Vector.replicate 4 0, heat := Vector.replicate 4 0 }

/-- Flash as shipped is not given: empty (DESIGN CHOICE, log entry 2). -/
def Pilot.reset : Pilot :=
  { held := true, rootKey := [], debugRoot := [], rollback := 0, serial := [], firmware := none, decode := none,
    prevFirmware := none, prevDecode := none, fresh := false, staged := [], update := .idle, nextId := none,
    digest := List.replicate 32 0, log := [], eid := 0, addr := none, negotiated := false, nonce := none,
    fwDebug := false, fwTrace := [], chain := [], code := [], codeDigest := [],
    codeSig := [], reply := [] }

def Device.reset : Device :=
  { recs := [], nextRid := 0, mig := [], lost := [], ualId := none, peers := [], peerMem := [], peerBad := [], others := [],
    disp := Dispatcher.reset, replay := none, win := Window.reset, links := Links.reset, clocks := Clocks.reset,
    store := { rev := 0, table := none, cache := [], blocks := [], busy := [], tick := 0 }, pilot := Pilot.reset, reply := [],
    replyBad := false }

/-- The machine right after reset: no thread is resident and the device has not booted (21 R399; log entry 6). -/
def State.reset : State :=
  { cur := Ctx.reset false, oth := Ctx.reset true, core := CoreRes.reset, dev := Device.reset, mem := [], bad := [],
    cache := Caches.empty, agenda := [], forced := false, free := 0 }

end Sys2Proof.Machine
end

