-- ==== Sys2Proof/Machine/Ops.lean ====
section
/-! DEFINITION. The named operations over State: registers, retirement and the loop close of R92, the exception entry of R307 and
the return of R310, free values, raw physical memory, and fault records (R313, R314). -/

namespace Sys2Proof.Machine

/-! Contexts. -/

def State.setCur (s : State) (c : Ctx) : State := { s with cur := c }
def State.setOth (s : State) (c : Ctx) : State := { s with oth := c }
def State.setCore (s : State) (c : CoreRes) : State := { s with core := c }
def State.setDev (s : State) (d : Device) : State := { s with dev := d }
def State.setMem (s : State) (m : Memory) : State := { s with mem := m }
def State.setBad (s : State) (b : List Nat) : State := { s with bad := b }
def State.setFree (s : State) (n : Nat) : State := { s with free := n }

/-- The two contexts change places. -/
def State.swap (s : State) : State := { s with cur := s.oth, oth := s.cur }

/-- `f` on the context with number `id`. -/
def State.onCtx (s : State) (id : Bool) (f : State → State) : State :=
  if s.cur.id = id then f s else (f s.swap).swap

/-- The next free value below n (n > 0), and the counter moved on (log entry 7). -/
def State.pick (s : State) (n : Nat) : Nat × State := (Config.freeNat s.free % n, s.setFree (s.free + 1))

/-- The user registers of the current context. -/
def State.setU (s : State) (u : UserRegs) : State := s.setCur { s.cur with u := u }
def State.setSys (s : State) (r : SysRegs) : State := s.setCur { s.cur with sys := r }
def State.setThr (s : State) (t : Thread) : State := s.setCur { s.cur with thr := t }
def State.setLp (s : State) (l : Vector LoopLevel 8) : State := s.setCur { s.cur with lp := l }
def State.setPc (s : State) (pc : BitVec 52) : State := s.setCur { s.cur with pc := pc }
def State.setHalf (s : State) (b : Bool) : State := s.setCur { s.cur with half := b }
def State.setObj (s : State) (o : Option (BitVec 52 × Word × Nat)) : State := s.setCur { s.cur with obj := o }
def State.setWait (s : State) (w : Wait) : State := s.setThr { s.cur.thr with wait := w }
def State.setDbg (s : State) (d : DbgRegs) : State := s.setCur { s.cur with dbg := d }
def State.setPoison (s : State) (p : Poison) : State := s.setCur { s.cur with poison := p }

/-! Registers. -/

def vget {α : Type} {n : Nat} (v : Vector α (2 ^ n)) (i : BitVec n) : α := v[i.toNat]'i.isLt
def vset {α : Type} {n : Nat} (v : Vector α (2 ^ n)) (i : BitVec n) (a : α) : Vector α (2 ^ n) := v.set i.toNat a i.isLt

/-- `x[r]`; `x0` reads as zero (R75). -/
def State.x (s : State) (r : BitVec 5) : Word := if r = 0 then 0 else vget (n := 5) s.cur.x r

/-- A write of an `x` register; `x0` discards it (R75). A write clears poison (R321). -/
def State.putX (s : State) (r : BitVec 5) (v : Word) : State :=
  if r = 0 then s
  else s.setCur { s.cur with
    x := vset (n := 5) s.cur.x r v
    poison := { s.cur.poison with x := s.cur.poison.x &&& ~~~(1#64 <<< r.toNat) } }

/-- XLAST ← r, unless r is `x0` (R40). -/
def State.setXlast (s : State) (r : BitVec 5) : State :=
  if r = 0 then s else s.setU { s.cur.u with lastd := (s.cur.u.lastd &&& ~~~31#64) ||| r.setWidth 64 }

/-- VLAST ← r (R40). -/
def State.setVlast (s : State) (r : BitVec 5) : State :=
  s.setU { s.cur.u with lastd := (s.cur.u.lastd &&& ~~~(31#64 <<< 8)) ||| (r.setWidth 64 <<< 8) }

/-- The result of an instruction in the register of its [12:8] field (R40, R75). -/
def State.writeX (s : State) (r : BitVec 5) (v : Word) : State := (s.putX r v).setXlast r

/-- The last scalar destination (R39). -/
def State.xlast (s : State) : BitVec 5 := s.cur.u.lastd.setWidth 5
/-- The last vector destination (R39). -/
def State.vlast (s : State) : BitVec 5 := (s.cur.u.lastd >>> 8).setWidth 5

/-- `fmN`; `fm0` reads zero (R13). -/
def State.fm (s : State) (r : BitVec 3) : Word := if r = 0 then 0 else vget (n := 3) s.cur.fm r

/-- Poisoned `x` registers among those an instruction reads (R321). -/
def State.xPoisoned (s : State) (rs : List (BitVec 5)) : Bool :=
  rs.any fun r => r != 0 && s.cur.poison.x.getLsbD r.toNat

/-- User mode (R302). -/
def State.user (s : State) : Bool := s.cur.sys.mode == .user

/-! Trace records (R341-R343) and the replay hash (R351). -/

/-- Kernel debug is unlocked for the thread's `asid` (R333, R335). -/
def State.kden (s : State) : Bool := s.dev.win.unlocked == some (s.cur.sys.asid.toNat % 2 ^ 16)

/-- The thread writes trace records (R335, R341). -/
def State.tracing (s : State) : Bool := s.kden && s.cur.dbg.ctl.getLsbD 3

/-- Records that fit a cluster's trace buffer of 64 KiB (R342). -/
def traceRoom : Nat := 2048

/-- A record put into the buffer, or counted as lost; a loss record goes before the next one that is stored (R343). -/
def CoreRes.storeTrace (c : CoreRes) (r : TraceRec) : CoreRes :=
  if traceRoom ≤ c.trace.length then { c with loss := c.loss + 1 }
  else if c.loss = 0 then { c with trace := c.trace ++ [r] }
  else
    let l : TraceRec := { time := r.time, addr := 0, element := 0, place := r.place, ctx := r.ctx, kind := 0, detail := 0,
                          data := BitVec.ofNat 64 c.loss }
    if c.trace.length + 1 < traceRoom then { c with trace := c.trace ++ [l, r], loss := 0 }
    else { c with trace := c.trace ++ [l], loss := 1 }

/-- The CORE byte: die × 64 + core (R313, R341). -/
def State.place (s : State) : Nat := s.cur.u.dieid.toNat * 64 + s.cur.u.coreid.toNat

/-- A trace record of the current context at a free device time (R341). -/
def State.traceRec (s : State) (kind detail : Nat) (addr : Word) (element : Nat) (data : Word) : TraceRec × State :=
  let p := s.pick (2 ^ 64)
  (⟨BitVec.ofNat 64 p.1, addr, element, s.place, s.cur.id, kind, detail, data⟩, p.2)

/-- The same, put into the trace buffer. -/
def State.addTrace (s : State) (kind detail : Nat) (addr : Word) (element : Nat) (data : Word) : State :=
  let r := s.traceRec kind detail addr element data
  r.2.setCore (r.2.core.storeTrace r.1)

/-- HASH takes the address at which execution continues (R351). -/
def State.mixHash (s : State) (a : BitVec 52) : State :=
  s.setThr { s.cur.thr with hash := (s.cur.thr.hash.rotateLeft 7) ^^^ a.setWidth 64 }

/-! Retirement and loops. -/

def LoopLevel.act (l : LoopLevel) : Bool := l.start.getLsbD 63
def LoopLevel.xi (l : LoopLevel) : BitVec 5 := (l.start >>> 56).setWidth 5
def LoopLevel.startPc (l : LoopLevel) : BitVec 52 := l.start.setWidth 52
/-- The address at which an iteration begins: START with bit 0 clear, as pc holds it (R14). A program may write an odd START (log entry 18). -/
def LoopLevel.entryPc (l : LoopLevel) : BitVec 52 := l.startPc &&& ~~~1#52
def LoopLevel.endPc (l : LoopLevel) : BitVec 52 := l.stop.setWidth 52
def LoopLevel.deact (l : LoopLevel) : LoopLevel := { l with start := l.start &&& ~~~(1#64 <<< 63) }
/-- START ≤ a < END. -/
def LoopLevel.holds (l : LoopLevel) (a : BitVec 52) : Bool := decide (l.startPc ≤ a ∧ a < l.endPc)

/-- The active level with the greatest START among those whose body holds pc (R92); of two with one START, the higher level
number, which is the inner one (DEDUCED, log entry 18). -/
def innermost (lp : Vector LoopLevel 8) (pc : BitVec 52) : Option (Fin 8) :=
  (List.finRange 8).foldl (fun best i =>
    if lp[i].act && lp[i].holds pc then
      match best with
      | none => some i
      | some j => if lp[j].startPc ≤ lp[i].startPc then some i else some j
    else best) none

/-- The end of the loop check: execution continues at a, and HASH takes a for each of n closed iterations (R351). -/
def State.continueAt (s : State) (a : BitVec 52) : Nat → State
  | 0 => s.setPc a
  | n + 1 => (s.mixHash a).continueAt a n

/-- A straddled level i ends with every active level of greater START (R92). -/
def straddled (lp : Vector LoopLevel 8) (i : Fin 8) : Vector LoopLevel 8 :=
  Vector.ofFn fun k => if k = i || (lp[k].act && decide (lp[i].startPc < lp[k].startPc)) then lp[k].deact else lp[k]

/-- The loop check of R92 at the retirement of the instruction at pc whose following address is a; `n` iterations have closed. -/
def closeLoops (pc a : BitVec 52) : Nat → Nat → State → State
  | 0, n, s => s.continueAt a n
  | fuel + 1, n, s =>
    match innermost s.cur.lp pc with
    | none => s.continueAt a n
    | some i =>
      let l := s.cur.lp[i]
      if a = l.endPc then
        if l.idx.toNat + 1 < l.trip.toNat then
          ((s.setLp (s.cur.lp.set i { l with idx := l.idx + 1 })).writeX l.xi (l.idx + 1)).continueAt l.entryPc (n + 1)
        else closeLoops pc a fuel (n + 1) (s.setLp (s.cur.lp.set i { l with idx := l.trip }.deact))
      else if l.endPc < a then (s.setLp (straddled s.cur.lp i)).continueAt a n
      else s.continueAt a n

/-- Programmable counter k counts in a mode (R346). -/
def DbgRegs.counts (d : DbgRegs) (m : Mode) (k : Fin 4) : Bool :=
  match m with
  | .user => d.pmsel[k].getLsbD 8
  | .system => d.pmsel[k].getLsbD 9

/-- n more occurrences of an event (R346). -/
def DbgRegs.addEvent (d : DbgRegs) (m : Mode) (ev : BitVec 8) (n : Nat) : DbgRegs :=
  { d with pmcnt := Vector.ofFn fun k => if d.counts m k && d.pmsel[k].setWidth 8 == ev then d.pmcnt[k] + BitVec.ofNat 64 n else d.pmcnt[k] }

/-- The counters of a context after n more occurrences of an event; those of a saved thread stand (R346). -/
def Ctx.counted (c : Ctx) (m : Mode) (ev : BitVec 8) (n : Nat) : DbgRegs := if c.thr.saved then c.dbg else c.dbg.addEvent m ev n

/-- n events of the lanes of the current context (R346). -/
def State.countEvent (s : State) (ev : BitVec 8) (n : Nat) : State := s.setCur { s.cur with dbg := s.cur.counted .user ev n }

/-- One more retired instruction or push (R98, R346). -/
def State.countRetired (s : State) : State :=
  s.setCur { s.cur with
    u := { s.cur.u with instret := s.cur.u.instret + 1 }
    dbg := s.cur.counted s.cur.sys.mode 0x51 1 }

/-- Retirement without a transfer: the following address is a; loops close in user mode (R92, R93). -/
def State.retireTo (s : State) (a : BitVec 52) : State :=
  let s := (s.countRetired).setHalf false
  if s.user then closeLoops s.cur.pc a 8 0 s else s.setPc a

/-- Retirement of an instruction of len bytes. -/
def State.retire (s : State) (len : Nat) : State := s.retireTo (s.cur.pc + BitVec.ofNat 52 len)

/-- Retirement of a branch that is not taken (R351). -/
def State.retireBranch (s : State) (len : Nat) : State :=
  let s' := s.retire len
  if s.user then s'.mixHash s'.cur.pc else s'

/-- Retirement by a control transfer: levels whose body does not hold the target become inactive in user mode (R93). -/
def State.transfer (s : State) (a : BitVec 52) : State :=
  let s := (s.countRetired).setHalf false
  if s.user then
    let s := if s.tracing then s.addTrace 3 0 (a.setWidth 64) 0 (s.cur.pc.setWidth 64) else s
    ((s.setLp (s.cur.lp.map fun l => if l.act && !l.holds a then l.deact else l)).mixHash a).setPc a
  else s.setPc a

/-! Physical memory. -/

/-- The halfwords that a write of n bytes from a on changes, as they were: fetch may go on seeing them (R380). `key` makes an address the number under
which fetch looks. -/
def staleOf (old new : Memory) (key : Nat → Nat) (a n : Nat) : List (Nat × BitVec 16) :=
  ((List.range ((a % 2 + n + 1) / 2)).map fun k => a / 2 * 2 + 2 * k).filterMap fun h =>
    if old.readVal h 2 = new.readVal h 2 then none else some (key h, BitVec.ofNat 16 (old.readVal h 2))

def Ctx.addStale (c : Ctx) (l : List (Nat × BitVec 16)) : Ctx := { c with thr := { c.thr with stale := l ++ c.thr.stale } }

/-- Both contexts of the core may fetch old halfwords. -/
def State.addStale (s : State) (l : List (Nat × BitVec 16)) : State := { s with cur := s.cur.addStale l, oth := s.oth.addStale l }

/-- The number under which fetch looks for a halfword of the scratchpad; memory and peers have their physical addresses. -/
def spadKey (k : Nat) : Nat := 2 ^ 52 + k

/-- Lines that lie whole within n bytes from a on. -/
def wholeLine (a n line : Nat) : Bool := decide (a ≤ line * 128 ∧ line * 128 + 128 ≤ a + n)

/-- n bytes from a on touch a line. -/
def touchesLine (a n line : Nat) : Bool := decide (line * 128 < a + n ∧ a < line * 128 + 128)

/-- A write of n bytes at a: the blocks of its lines that no cache holds dirty are stored raw (R374), and the host gives the lines up (R364). -/
def Caches.rawWrite (c : Caches) (a n : Nat) : Caches :=
  { c with
    packed := c.packed.filter fun b =>
      !((List.range 16).any fun k => touchesLine a n (16 * b + k) && !c.below.any (·.line == 16 * b + k))
    host := c.host.filter fun h => !touchesLine a n h.1 }

/-- Writing physical memory: the canonical bytes, what fetch may still see (R380), the poison of lines written
whole (R321), and the form of the blocks (R374). -/
def State.putMem (s : State) (a : Nat) (bs : List Byte) : State :=
  let m := s.mem.write a bs
  { s.addStale (staleOf s.mem m id a bs.length) with
    mem := m
    bad := s.bad.filter fun l => !wholeLine a bs.length l
    cache := s.cache.rawWrite a bs.length }

/-- A line of a list that n bytes from a on touch. -/
def badIn (l : List Nat) (a n : Nat) : Option Nat :=
  if n = 0 then none else l.find? fun l => decide (l * 128 < a + n ∧ a < l * 128 + 128)

/-- A poisoned line of memory that n bytes from a on touch (R321). -/
def State.badLine (s : State) (a n : Nat) : Option Nat := badIn s.bad a n

/-! Fault records. -/

/-- The 320 bytes of a record (R313); OUTCOME is 0. -/
def recBytes (r : FaultRec) : List Byte :=
  let page (k : Nat) : List Byte := match r.pages[k]? with
    | some p => leBytes 8 (p.page * 2 ^ 16 + p.code * 2 ^ 12 + p.acc * 2 ^ 10)
    | none => leBytes 8 0
  leBytes 8 r.tid.toNat ++ leBytes 8 r.iaddr.toNat ++ leBytes 4 r.seq ++ leBytes 1 r.place
    ++ leBytes 1 r.ctxByte ++ leBytes 1 r.source ++ leBytes 1 (min r.pages.length 32) ++ leBytes 4 r.firstel
    ++ leBytes 4 r.more.toNat ++ leBytes 8 (r.asid.toNat % 2 ^ 16) ++ leBytes 8 r.tag ++ leBytes 8 0 ++ leBytes 8 r.pline
    ++ ((List.range 32).map page).flatten

/-- The fields of the fault-queue header at `fltq`: BASE, NREC, HEAD, TAIL (R314), in this order (DEDUCED, log entry 16). -/
def State.fqWord (s : State) (k : Nat) : Nat := s.mem.readVal (s.cur.sys.fltq.toNat + 8 * k) 8

/-- The ring slot at HEAD when there is room (R314). -/
def State.fqSlot (s : State) : Option Nat :=
  let nrec := s.fqWord 1
  let head := s.fqWord 2
  if nrec = 0 ∨ (head + 2 ^ 64 - s.fqWord 3) % 2 ^ 64 = nrec then none
  else some (s.fqWord 0 + head % nrec * 320)

/-- A record of the core monitor goes to the ring of firmware debug, once that is unlocked, and never to the kernel's sink (R332). -/
def State.fwSample (s : State) (r : TraceRec) : State :=
  let p := s.dev.pilot
  if p.fwDebug then s.setDev { s.dev with pilot := { p with fwTrace := p.fwTrace ++ [r] } } else s

/-- A record appended at HEAD, then HEAD advanced, with its trace record (R341), which for a monitor fault is firmware's (R332); without room it
waits (R314). -/
def State.placeRec (s : State) (r : FaultRec) : State :=
  match s.fqSlot with
  | none => s.setDev { s.dev with recs := s.dev.recs ++ [{ r with slot := none }] }
  | some a =>
    let p := r.pages.headD ⟨0, 0, 0⟩
    let t := s.traceRec 6 p.code r.iaddr r.firstel (BitVec.ofNat 64 p.page)
    let s := if r.source = 7 then t.2.fwSample t.1 else if s.tracing then t.2.setCore (t.2.core.storeTrace t.1) else s
    let s' := s.putMem a (recBytes r)
    let s' := s'.putMem (s.cur.sys.fltq.toNat + 16) (leBytes 8 (s.fqWord 2 + 1))
    if r.source = 7 then s' else s'.setDev { s.dev with recs := s.dev.recs ++ [{ r with slot := some a }] }

/-- A new record, under the next number (R313). -/
def State.fileRec (s : State) (r : FaultRec) : Nat × State :=
  let rid := s.dev.nextRid
  (rid, (s.setDev { s.dev with nextRid := rid + 1 }).placeRec { r with rid := rid })

/-- A new record of the current thread (R311, R313); SOURCE 7 needs no answer and is not kept (R315). `ctxByte` is its CTX byte. -/
def State.newRecAs (s : State) (ctxByte : Nat) (source : Nat) (iaddr : Word) (seq : Nat) (pages : List RecPage) (firstel : Nat)
    (more : Bool) (tag pline : Nat) (half : Word) : Nat × State :=
  s.fileRec { rid := 0, slot := none, tid := s.cur.u.tid, iaddr := iaddr, seq := seq, ctx := s.cur.id, place := s.place,
              ctxByte := ctxByte, source := source, pages := pages, firstel := firstel, more := more, asid := s.cur.sys.asid,
              tag := tag, pline := pline, half := half }

/-- A new record that names the current context. -/
def State.newRec (s : State) (source : Nat) (iaddr : Word) (seq : Nat) (pages : List RecPage) (firstel : Nat) (more : Bool)
    (tag pline : Nat) (half : Word) : Nat × State :=
  s.newRecAs s.cur.id.toNat source iaddr seq pages firstel more tag pline half

/-! Ending a thread, exceptions, and the return. -/

/-- The bit of a unit in the flag word of a context area's header. -/
def UnitId.bit : UnitId → Nat
  | .keyed => 0
  | .lanes => 1
  | .topk => 2
  | .tumbler => 3
  | .hinge => 4

def UnitId.all : List UnitId := [.keyed, .lanes, .topk, .tumbler, .hinge]

def CoreRes.heldBy (c : CoreRes) : UnitId → Option Bool
  | .keyed => c.keyedBy
  | .lanes => c.lanesBy
  | .topk => c.topkBy
  | .tumbler => c.tumblerBy
  | .hinge => c.hingeBy

def CoreRes.setHeld (c : CoreRes) (o : Option Bool) : UnitId → CoreRes
  | .keyed => { c with keyedBy := o }
  | .lanes => { c with lanesBy := o }
  | .topk => { c with topkBy := o }
  | .tumbler => { c with tumblerBy := o }
  | .hinge => { c with hingeBy := o }

/-- The unit at its start state (R7). -/
def CoreRes.startUnit (c : CoreRes) : UnitId → CoreRes
  | .keyed => { c with keyed := [], keyedBad := [] }
  | .lanes => { c with lanes := [], lanesBad := 0 }
  | .topk => { c with topk := TopK.start }
  | .tumbler => { c with tumbler := none }
  | .hinge => { c with hinge := (StreamHalf.start, StreamHalf.start) }

/-- The units that a context holds go back to their start state and to no context. -/
def CoreRes.dropUnits (c : CoreRes) (id : Bool) : CoreRes :=
  UnitId.all.foldl (fun c u => if c.heldBy u = some id then (c.startUnit u).setHeld none u else c) c

/-- The extension banks of the current context return to the cache role, empty (R201). -/
def State.dropExt (s : State) : State :=
  let c := s.setCore { s.core with banks := s.core.banks.mapIdx fun b r => if s.cur.ext.contains b then 0 else r }
  c.setCur { c.cur with ext := [] }

/-- The prefetch slots of the current thread at its end: an `EXIT` stops them, and their descriptor writes follow (R221); a failed
thread writes nothing any more (R323). -/
def State.endSlots (s : State) (failed : Bool) : State :=
  let mine (p : PfSlot) : Bool := p.ctx == s.cur.id && !p.drained
  let slots := if failed then s.core.slots.filter fun p => !mine p
    else s.core.slots.map fun p => if mine p && p.ending.isNone then { p with ending := some (3, 0) } else p
  s.setCore { s.core with slots := slots }

/-- The address that a lot-end record gives (R341): that of the user-mode code, which for a thread that ends in the core monitor is `epc` (R332). -/
def State.endAddr (s : State) : Word := (if s.user then s.cur.pc else s.cur.sys.epc.setWidth 52 &&& ~~~1#52).setWidth 64

/-- What a context's gang operation still has under way is dropped. -/
def CoreRes.dropParts (c : CoreRes) (id : Bool) : CoreRes :=
  { c with
    parts := c.parts.filter fun p => p.ctx != id
    partBars := c.partBars.filter fun b => b.1 != id }

/-- The thread ends (R23, R323): nothing of it issues any more; entries that wait are discarded, its units and extension banks are
given back. -/
def State.endThread (s : State) (failed : Bool) : State :=
  let s := if s.tracing then s.addTrace 5 failed.toNat s.endAddr 0 (BitVec.ofNat 64 s.cur.thr.lot) else s
  let c := (s.core.dropUnits s.cur.id).dropParts s.cur.id
  let s := ((s.setCore { c with aimed := c.aimed.filter fun q => q.ctx != s.cur.id }).dropExt).endSlots failed
  s.setCur { s.cur with
    viq := []
    frozen := false
    convoy := none
    half := false
    obj := none
    sys := { s.cur.sys with mode := .user, skipv := false, kill := false }
    thr := { s.cur.thr with live := false, ended := some failed, wait := .none, due := [] } }

/-- A monitor fault (R309): a fault record of SOURCE 7, and the thread ends as failed. -/
def State.monitorFault (s : State) : State :=
  (s.newRec 7 (s.cur.pc.setWidth 64) (2 ^ 32 - 1) [] 0 false 0 0 0).2.endThread true

/-- The address that `epc` receives: pc, with bit 0 set in a wait half (R193, R307). At the illegal-instruction trap of a wait half whose
instruction has none the bit stays set (DESIGN CHOICE: R36 names the instruction's address and R193 the bit; log entry 27). -/
def State.epcNow (s : State) : Word := s.cur.pc.setWidth 64 ||| (if s.cur.half then 1 else 0)

/-- `cause` (R306). -/
def causeWord (event : Bool) (vec : Option Nat) (code : BitVec 8) : Word :=
  code.setWidth 64 ||| (if event then 1 <<< 63 else 0)
    ||| (match vec with
      | some seq => (1 <<< 62) ||| (BitVec.ofNat 64 (seq % 2 ^ 32) <<< 16)
      | none => 0)

/-! The words of an entry. -/

/-- The first word. -/
def Entry.word (e : Entry) : BitVec 32 :=
  match e.code with
  | .half h => h.setWidth 32
  | .word w => w
  | .wide w _ => w

/-- The major, by [7:3]. -/
def Entry.major (e : Entry) : Nat := (e.word.extractLsb' 3 5).toNat
def Entry.body (e : Entry) : BitVec 24 := e.word.extractLsb' 8 24
/-- The function of formats VA. -/
def Entry.f5 (e : Entry) : Nat := (f5Of (field9 e.body)).toNat

/-- The number of elements: `vl`, or, for `LTFILL`, its bytes (R247). -/
def Entry.total (e : Entry) : Nat := if e.major = 26 ∧ e.f5 = 8 then min e.xb.toNat 4096 else e.vl

/-- In a reissue of the entry `m15` names the elements that are left: vector memory (R124) and `LTFILL` (R247). -/
def Entry.byMask (e : Entry) : Bool := decide (19 ≤ e.major ∧ e.major ≤ 21) || (e.major == 26 && e.f5 == 8)

/-- The first unfinished element (R328): in a reissue the lowest one that `m15` names. -/
def Entry.firstLeft (e : Entry) (m15 : Nat) : Nat :=
  if e.reissue && e.byMask then ((List.range e.total).find? fun i => decide (e.vstart ≤ i) && m15.testBit i).getD e.total else e.vstart

/-- An entry as the freeze leaves it (R324): VSTART names its first unfinished element. The pins of a batch in progress stay until it has
performed (R127, R214). -/
def Entry.freeze (e : Entry) (m15 : Nat) : Entry := { e with vstart := e.firstLeft m15 }

/-- The VIQ frozen (R324): of a reissue that has done its first element groups `m15` keeps what is left (R132). -/
def Ctx.freeze (c : Ctx) : Ctx :=
  let m15 := vget (n := 4) c.m 15
  let left := match c.viq.find? fun e => e.reissue && e.byMask && !e.fin with
    | some e => (m15 >>> e.vstart) <<< e.vstart
    | none => m15
  { c with frozen := true, convoy := none, viq := c.viq.map (·.freeze m15), m := vset (n := 4) c.m 15 left }

/-- A freeze of the VIQ waits: entries of a thread that had the context before have not completed (R173), or a gang operation of another leader is
aimed at the thread (R279, R324). -/
def State.holdsFreeze (s : State) : Bool :=
  (s.core.drains.any fun d => d.id == s.cur.id && !d.viq.isEmpty) || s.core.aimed.any fun q => q.ctx == s.cur.id

/-- An event, or a trap of the Lamplighter, waits for the same, and for the parts of a gang operation that the thread leads itself. -/
def State.holdsEvent (s : State) : Bool := s.holdsFreeze || s.core.parts.any fun p => p.ctx == s.cur.id

/-- A delivered trap stands for an entry that is still queued, or for the instruction that the thread runs next. -/
def Ctx.stands (c : Ctx) (d : Due) : Bool :=
  match d.entry with
  | some n => c.viq.any fun e => e.seq % 2 ^ 32 == n
  | none => d.at_ == c.pc && c.thr.live

/-- It can be taken: at the head of the queue, or at pc (R308). -/
def Ctx.ready (c : Ctx) (d : Due) : Bool :=
  match d.entry with
  | some n => c.viq.head?.any fun e => e.seq % 2 ^ 32 == n
  | none => d.at_ == c.pc && c.thr.live

/-- The ready trap that is taken first: the head entry's comes before the instruction's (R308). -/
def Ctx.readyDue (c : Ctx) : Option Due := (c.thr.due.find? fun d => d.entry.isSome && c.ready d).orElse fun _ => c.thr.due.find? c.ready

/-- Nothing keeps an event from the boundary where the thread stands: it runs in user mode, no delivered trap is ready (R308), and no freeze must
wait (R279, R324). -/
def State.atBoundary (s : State) : Bool := s.cur.thr.live && s.user && s.cur.readyDue.isNone && !s.holdsEvent

/-- Taking a trap or event (R307): freeze the VIQ, save pc, cause and value, enter system mode at `tvec`. `vec` is the
sequence number and address of the entry that trapped. A trap in system mode is a monitor fault (R309). -/
def State.takeTrap (s : State) (event : Bool) (vec : Option (Nat × BitVec 52)) (code : BitVec 8) (tval : Word) : State :=
  if s.user then
    s.setCur { s.cur.freeze with
      half := false
      pc := s.cur.sys.tvec.setWidth 52 &&& ~~~3#52
      thr := { s.cur.thr with wait := .none }
      sys := { s.cur.sys with
        mode := .system
        epc := s.epcNow
        cause := causeWord event (vec.map (·.1)) code
        tval := tval
        vepc := match vec with
          | some (_, a) => a.setWidth 64
          | none => s.cur.sys.vepc } }
  else s.monitorFault

/-- A trap of a scalar-domain instruction, or of a vector-domain instruction at push: precise at pc (R308). -/
def State.trap (s : State) (code : BitVec 8) (tval : Word) : State := s.takeTrap false none code tval

/-- Bits of `vflags` that exist (R62). -/
def vflagsMask : Word := 0x13F

/-- Vector flags accrue (R62). -/
def State.accrueV (s : State) (f : Word) : State := s.setU { s.cur.u with vflags := s.cur.u.vflags ||| (f &&& vflagsMask) }

/-- The entries at the front that have finished, which complete with the head (R17): what is left, their flags and their number. -/
def popFinished : List Entry → List Entry × Word × Nat
  | [] => ([], 0, 0)
  | e :: r => if e.fin then let p := popFinished r; (p.1, e.flags ||| p.2.1, p.2.2 + 1) else (e :: r, 0, 0)

/-- The head entry completes, and with it the finished ones behind it (R17): their flags accrue (R62), vcommit moves on. -/
def State.completeHead (s : State) (fl : Word) : State :=
  match s.cur.viq with
  | [] => s
  | e :: r =>
    let p := popFinished r
    let s := s.accrueV (e.flags ||| fl ||| p.2.1)
    s.setCur { s.cur with viq := p.1, u := { s.cur.u with vcommit := s.cur.u.vcommit + BitVec.ofNat 64 (p.2.2 + 1) } }

/-- The tile stream register of operand b of an entry that is a `GXACCT`. -/
def Entry.gangOperand (e : Entry) : Option (BitVec 3) :=
  match e.code with
  | .word w => if w.extractLsb' 3 5 = 24 ∧ w.extractLsb' 25 3 = 4 then some (w.extractLsb' 18 3) else none
  | _ => none

/-- `GXACCT` at the head with parts that have not completed: operand b takes its TSTEP and nothing else is done (R353). -/
def State.skipGang (s : State) : State :=
  match (s.cur.viq.head?).bind Entry.gangOperand with
  | some b =>
    if s.core.parts.all fun p => p.ctx != s.cur.id then s
    else
      let t := vget (n := 3) s.cur.ts b
      (s.setCur { s.cur with ts := vset (n := 3) s.cur.ts b { t with base := t.base + t.tstep } }).setCore (s.core.dropParts s.cur.id)
  | none => s

/-- The return from an exception (R310). -/
def State.eret (s : State) : State :=
  if s.cur.sys.kill then s.endThread true
  else
    let s := if s.cur.sys.skipv then s.skipGang.completeHead 0 else s
    s.setCur { s.cur with
      frozen := false
      convoy := none
      pc := s.cur.sys.epc.setWidth 52 &&& ~~~1#52
      half := s.cur.sys.epc.getLsbD 0
      u := { s.cur.u with instret := s.cur.u.instret + 1 }
      dbg := s.cur.counted .system 0x51 1
      sys := { s.cur.sys with mode := .user, skipv := false } }

/-! Cause codes of R306. -/

def cFetch : BitVec 8 := 0x01
def cIllegal : BitVec 8 := 0x02
def cConvoy : BitVec 8 := 0x03
def cTag : BitVec 8 := 0x04
def cRange : BitVec 8 := 0x05
def cAlign : BitVec 8 := 0x06
def cOutside : BitVec 8 := 0x0C
def cPoison : BitVec 8 := 0x0D
def cBankRole : BitVec 8 := 0x0E
def cStreamDesc : BitVec 8 := 0x0F
def cTileDesc : BitVec 8 := 0x10
def cSubByte : BitVec 8 := 0x11
def cMatrixRange : BitVec 8 := 0x12
def cSyncObj : BitVec 8 := 0x13
def cTopk : BitVec 8 := 0x14
def cAutomaton : BitVec 8 := 0x15
def cUnsorted : BitVec 8 := 0x16
def cCursor : BitVec 8 := 0x17
def cEcall : BitVec 8 := 0x18
def cEbreak : BitVec 8 := 0x19

/-- The illegal-instruction trap of an instruction whose words are c (R35, R36). -/
def State.illegal (s : State) (c : Code) : State := s.trap cIllegal c.tval

/-- An instruction that reads the registers `rs`: a poisoned one raises the poison trap with no effect (R321). -/
def withX (rs : List (BitVec 5)) (s : State) (k : State) : State := if s.xPoisoned rs then s.trap cPoison 0 else k

end Sys2Proof.Machine
end

