-- ==== Sys2Proof/Machine/Debug.lean ====
section
/-! DEFINITION. Debug registers (R335-R337, R345-R348), stops (R338-R340) and watchpoints (R339). -/

namespace Sys2Proof.Machine

/-! The registers 0x200–0x3FF. -/

/-- The pair entry that `pairidx` selects. -/
def State.pairSel (s : State) : PairRec := s.core.pairs.getD (s.core.pairIdx &&& 31).toNat ⟨0, 0, 0, 0, 0⟩

/-- Debug register n of the current context (R335-R337, R345-R348); none where no register has the number. Counters show what the cycles
so far have left (log entry 5). -/
def State.dbgRead (s : State) (n : Nat) : Option Word :=
  let d := s.cur.dbg
  if n = 0x200 then some (d.ctl ||| (if s.kden then 1 else 0))
  else if n = 0x201 then some d.stat
  else if 0x210 ≤ n ∧ n < 0x214 then some (d.bp.toList.getD (n - 0x210) 0)
  else if 0x218 ≤ n ∧ n < 0x21C then some (d.wpa.toList.getD (n - 0x218) 0)
  else if 0x21C ≤ n ∧ n < 0x220 then some (d.wpc.toList.getD (n - 0x21C) 0)
  else if 0x240 ≤ n ∧ n < 0x244 then some (d.pmsel.toList.getD (n - 0x240) 0)
  else if 0x248 ≤ n ∧ n < 0x24C then some (d.pmcnt.toList.getD (n - 0x248) 0)
  else if 0x280 ≤ n ∧ n < 0x2D0 then some (s.core.stalls.toList.getD (n - 0x280) 0)
  else if n = 0x2D0 then some s.core.pairIdx
  else if n = 0x2D1 then some (s.pairSel.prod.setWidth 64)
  else if n = 0x2D2 then some (s.pairSel.cons.setWidth 64)
  else if n = 0x2D3 then some s.pairSel.lost
  else if n = 0x2D4 then some (s.pairSel.last.setWidth 64 <<< 32 ||| s.pairSel.most.setWidth 64)
  else if n = 0x2D5 then some 0
  else none

/-- The register is marked R. -/
def dbgReadOnly (n : Nat) : Bool :=
  n == 0x201 || decide (0x280 ≤ n ∧ n < 0x2D0) || decide (0x2D1 ≤ n ∧ n < 0x2D5)

/-- The pair table cleared (R348). -/
def State.clearPairs (s : State) : State := s.setCore { s.core with pairs := [], shadow := [] }

/-- Writing debug register n: fields marked R keep their value (R95). -/
def State.dbgWrite (s : State) (n : Nat) (v : Word) : State :=
  let d := s.cur.dbg
  if n = 0x200 then s.setDbg { d with ctl := v &&& 0xFFFFFF0E }
  else if 0x210 ≤ n ∧ n < 0x214 then s.setDbg { d with bp := d.bp.setIfInBounds (n - 0x210) (v &&& 0x800FFFFFFFFFFFFE) }
  else if 0x218 ≤ n ∧ n < 0x21C then s.setDbg { d with wpa := d.wpa.setIfInBounds (n - 0x218) v }
  else if 0x21C ≤ n ∧ n < 0x220 then s.setDbg { d with wpc := d.wpc.setIfInBounds (n - 0x21C) (v &&& 0xE0000000FFFFFFFF) }
  else if 0x240 ≤ n ∧ n < 0x244 then s.setDbg { d with pmsel := d.pmsel.setIfInBounds (n - 0x240) (v &&& 0x3FF) }
  else if 0x248 ≤ n ∧ n < 0x24C then s.setDbg { d with pmcnt := d.pmcnt.setIfInBounds (n - 0x248) v }
  else if n = 0x2D0 then s.setCore { s.core with pairIdx := v &&& 31 }
  else if n = 0x2D5 then s.clearPairs
  else s

/-! Stops. -/

/-- `dbgstat` (R336). -/
def statWord (reason slot element : Nat) : Word := BitVec.ofNat 64 (element % 2 ^ 32 * 2 ^ 32 + slot % 4 * 2 ^ 8 + reason % 256)

/-- A debug stop of the current context in user mode: `dbgstat`, the event 0x42, the stop record, and the wait for RESUME (R338,
R341). -/
def State.debugStop (s : State) (vec : Option (Nat × BitVec 52)) (reason slot element : Nat) : State :=
  let s1 := (s.setDbg { s.cur.dbg with stat := statWord reason slot element }).takeTrap true vec 0x42 0
  let s2 := if s1.tracing then
      s1.addTrace 1 reason (if vec.isSome then s1.cur.sys.vepc else s1.cur.sys.epc) element s1.cur.u.tid
    else s1
  s2.setWait .stop

/-- The head entry's VSTART, for `dbgstat` (R339). -/
def State.headStart (s : State) : Nat := ((s.cur.viq.head?).map (·.vstart)).getD 0

/-- Single step is on: SSTEP, with kernel debug unlocked (R334, R335). -/
def State.stepping (s : State) : Bool := s.kden && s.cur.dbg.ctl.getLsbD 1

/-- The lowest enabled breakpoint at pc, unless the instruction has been resumed (R338). -/
def State.breakpoint (s : State) : Option Nat :=
  if s.kden && s.user && s.cur.dbg.pass != some s.cur.pc && !s.cur.half then
    (List.range 4).find? fun k =>
      let b := s.cur.dbg.bp.toList.getD k 0
      b.getLsbD 63 && b.setWidth 52 == s.cur.pc
  else none

/-! Watchpoints. -/

/-- The lowest watchpoint that n bytes at va meet in a direction (R339). One with LEN 0 matches nothing (R337). An entry of a thread that has
retired `EXIT` stops nowhere: no thread is there to stop (DEDUCED, log entry 42). -/
def State.watch (s : State) (va n : Nat) (reads writes : Bool) : Option Nat :=
  if s.kden && s.user && s.cur.thr.live then
    (List.range 4).find? fun k =>
      let c := s.cur.dbg.wpc.toList.getD k 0
      let a := ((s.cur.dbg.wpa.toList.getD k 0).setWidth 52).toNat
      let len := (c.setWidth 32).toNat
      c.getLsbD 63 && ((c.getLsbD 61 && reads) || (c.getLsbD 62 && writes)) && decide (len ≠ 0 ∧ va < a + len ∧ a < va + n)
  else none

/-- A watch stop: the record of TYPE 7, then the stop (R339, R341). -/
def State.watchStop (s : State) (vec : Option (Nat × BitVec 52)) (iaddr : BitVec 52) (slot element va : Nat) : State :=
  (s.addTrace 7 slot (iaddr.setWidth 64) element (BitVec.ofNat 64 va)).debugStop vec 2 slot element

/-- A scalar access under the watchpoints: `k` goes on; a hit stops before the access (R339). `ok` says that the address passes its
checks. -/
def watched (s : State) (ok : Bool) (va n : Nat) (reads writes : Bool) (k : State → State) : State :=
  if !ok then k s
  else
    match s.watch va n reads writes with
    | none => k s
    | some slot =>
      if s.cur.dbg.ctl.getLsbD 2 then k (s.setDbg { s.cur.dbg with ctl := s.cur.dbg.ctl &&& ~~~4#64 })
      else s.watchStop none s.cur.pc slot 0 va

end Sys2Proof.Machine
end

