-- ==== Sys2Proof/Machine/Streams.lean ====
section
/-! DEFINITION. Stream descriptors (R216, R217): fields, elements, the line sequence. -/

namespace Sys2Proof.Machine

/-- n bytes from byte a of a list as a number. -/
def fieldAt (bs : List Byte) (a n : Nat) : Nat := Memory.leVal ((bs.drop a).take n)

/-- A stream descriptor (R216). -/
structure Stream where
  base : Word
  ctl : Word
  dims : List (Word × Nat)
  /-- A must-be-zero byte of a dimension entry is set. -/
  dirty : Bool
  deriving DecidableEq, Repr

def ctlNdim (c : Word) : Nat := (c &&& 7).toNat
def ctlEsz (c : Word) : Nat := 2 ^ ((c >>> 4) &&& 7).toNat
def ctlFmt (c : Word) : Tag := c.extractLsb' 8 10
def ctlComp (c : Word) : Bool := c.getLsbD 18
def ctlRed (c : Word) : Nat := ((c >>> 19) &&& 7).toNat
def ctlTransit (c : Word) : Bool := c.getLsbD 22
def ctlFifo (c : Word) : Bool := c.getLsbD 23
/-- Bits [31:24], [7] and [3]. -/
def ctlZero (c : Word) : Bool := c &&& 0xFF000088 == 0

/-- The descriptor in the 128 bytes from byte a on. -/
def Stream.ofBytes (bs : List Byte) (a : Nat) : Stream :=
  let ctl := BitVec.ofNat 64 (fieldAt bs (a + 8) 8)
  let ks := List.range (ctlNdim ctl)
  { base := BitVec.ofNat 64 (fieldAt bs a 8), ctl := ctl,
    dims := ks.map fun k => (BitVec.ofNat 64 (fieldAt bs (a + 0x10 + 16 * k) 8), fieldAt bs (a + 0x18 + 16 * k) 4),
    dirty := ks.any fun k => fieldAt bs (a + 0x1C + 16 * k) 4 != 0 }

/-- The element size in bytes. -/
def Stream.esz (s : Stream) : Nat := ctlEsz s.ctl
/-- The element count E: the product of the counts. -/
def Stream.elems (s : Stream) : Nat := (s.dims.map (·.2)).foldl (· * ·) 1

/-- The offset of element e, dimension 0 fastest (R217). -/
def dimOffset : List (Word × Nat) → Nat → Word
  | [], _ => 0
  | (st, n) :: ds, e => BitVec.ofNat 64 (e % n) * st + dimOffset ds (e / n)

/-- The address of element e (R217). -/
def Stream.addr (s : Stream) (e : Nat) : Word := s.base + dimOffset s.dims e

/-- The lines that n bytes from a on touch. -/
def linesOf (a : Word) (n : Nat) : List Nat :=
  let l := a.toNat / 128
  (List.range ((a.toNat + n - 1) / 128 - l + 1)).map fun k => (l + k) % 2 ^ 57

/-- Lines of one element against the sequence so far: the last line and the next position, or the first position that `f` takes. -/
def scanLines (f : Nat → Nat → Bool) : List Nat → Option Nat → Nat → Except (Nat × Nat) (Option Nat × Nat)
  | [], last, pos => .ok (last, pos)
  | l :: ls, last, pos =>
    if last = some l then scanLines f ls last pos
    else if f pos l then .error (pos, l)
    else scanLines f ls (some l) (pos + 1)

/-- The line sequence from element e on; `n` elements are left. -/
def Stream.scan (s : Stream) (f : Nat → Nat → Bool) : Nat → Nat → Option Nat → Nat → Option (Nat × Nat)
  | 0, _, _, _ => none
  | n + 1, e, last, pos =>
    match scanLines f (linesOf (s.addr e) s.esz) last pos with
    | .error r => some r
    | .ok (l, p) => scan s f n (e + 1) l p

/-- The first position and line of the line sequence (R217) that `f` takes. -/
def Stream.find (s : Stream) (f : Nat → Nat → Bool) : Option (Nat × Nat) := s.scan f s.elems 0 none 0

/-- A thread's read of n bytes at va moves the lead of its running slots (R220). -/
def PfSlot.note (p : PfSlot) (va n : Nat) : PfSlot :=
  match (Stream.ofBytes p.desc 0).find fun q l => decide (p.cons ≤ q) && (linesOf (BitVec.ofNat 64 va) n).contains l with
  | some (q, _) => { p with cons := q + 1 }
  | none => p

/-- A read by the current thread, as the prefetch unit sees it (R220). -/
def State.noteRead (s : State) (va n : Nat) : State :=
  if s.core.slots.isEmpty then s
  else s.setCore { s.core with slots := s.core.slots.map fun p =>
    if p.ctx = s.cur.id ∧ !p.drained ∧ p.ending.isNone then p.note va n else p }

end Sys2Proof.Machine
end

