-- ==== Sys2Proof/Machine/Window.lean ====
section
/-! DEFINITION. The physical map of R356, the control window (R366-R368), the Keyway (R333), peer devices (R370), and the lines that
engines own (R253). -/

namespace Sys2Proof.Machine

/-- The ranges of R356. -/
inductive Region where
  | hbm (die : Nat)
  | window (off : Nat)
  | far
  | peer (id : Nat)
  | hole
  deriving DecidableEq, Repr

/-- The range that a physical address lies in (R356). -/
def regionOf (pa : Nat) : Region :=
  if pa < 0x10000000000 then
    (if pa % 0x4000000000 < 0x3000000000 then .hbm (pa / 0x4000000000) else .hole)
  else if pa < 0x10001000000 then .window (pa - 0x10000000000)
  else if 0x100000000000 ≤ pa ∧ pa < 0x180000000000 then .far
  else if 0x8000000000000 ≤ pa ∧ pa < 0x8000000000000 + 1024 * 0x10000000000 then
    .peer ((pa - 0x8000000000000) / 0x10000000000)
  else .hole

/-- Lines that an engine owns, by `Loc.lineKey`: the destination lines of copies, and the line that a migration copies (R253, R317). -/
def State.lineHeld (s : State) (line : Nat) : Bool :=
  (s.core.copies.any fun c => c.own.contains line)
    || (s.dev.mig.any fun g => decide (g.prog < 512) &&
          (line == g.oldFrame / 128 + g.prog || line == g.newFrame / 128 + g.prog))

/-! Vectors and status words. -/

/-- An MSI-X vector is raised (R368). -/
def State.raise (s : State) (v : Nat) : State :=
  s.setDev { s.dev with win := { s.dev.win with raised := v :: s.dev.win.raised } }

/-- Bits of a word at base b. -/
def bitsAt (b : Nat) (l : List Nat) : Word := l.foldl (fun w n => w ||| (1#64 <<< (b + n))) 0

/-- The primary die (R367). -/
def Device.primary (d : Device) : Nat := ((List.range 4).find? fun n => !d.dieLost n).getD 0

/-- `DIESTATE` (R367). -/
def Device.dieState (d : Device) : Word :=
  bitsAt 16 d.links.portDown ||| bitsAt 12 d.lost ||| bitsAt 8 d.links.down ||| bitsAt 4 d.links.modDown
    ||| (BitVec.ofNat 64 d.primary <<< 2)

/-- `LSTAT` (R367). -/
def Dispatcher.lstat (d : Dispatcher) : Word :=
  (if d.corrupt then 1#64 <<< 63 else 0) ||| (if d.listLost then 1#64 <<< 62 else 0) ||| (if d.badDone then 1#64 <<< 61 else 0)
    ||| (BitVec.ofNat 64 d.record &&& 0xFFFFFFFFFFF80)

/-! The Keyway (R333, R368). -/

/-- `KWSTAT`. -/
def Window.kwstat (w : Window) : Word :=
  (if 8 ≤ w.fails then 1#64 <<< 63 else 0) ||| (if w.unlocked.isSome then 1#64 <<< 62 else 0)
    ||| (BitVec.ofNat 64 w.fails <<< 32) ||| BitVec.ofNat 64 (w.unlocked.getD 0)

/-- The check of a key (R333). -/
def State.unlock (s : State) : State :=
  let w := s.dev.win
  if 8 ≤ w.fails then s
  else if Config.sm3 w.kwKey = s.dev.pilot.digest then
    s.setDev { s.dev with win := { w with unlocked := some (w.kwAsid.toNat % 2 ^ 16) } }
  else
    let s1 := s.setDev { s.dev with win := { w with fails := w.fails + 1 } }
    if 8 ≤ w.fails + 1 then s1.raise 2 else s1

/-- Kernel debug is locked (R333). -/
def State.lock (s : State) : State := s.setDev { s.dev with win := { s.dev.win with unlocked := none } }

/-! The debug aperture (R368). -/

/-- The context of this core that an aperture slot names, when its thread's `asid` is unlocked. -/
def State.apertureCtx (s : State) (slot : Nat) : Option Bool :=
  let id := slot % 2 == 1
  let c := if s.cur.id = id then s.cur else s.oth
  if slot / 2 = c.u.dieid.toNat * 64 + c.u.coreid.toNat ∧ s.dev.win.unlocked = some (c.sys.asid.toNat % 2 ^ 16) then some id
  else none

/-- A slot of another core whose thread is of the unlocked `asid`. -/
def State.apertureAway (s : State) (slot : Nat) : Bool :=
  s.dev.others.any fun t => t.die * 128 + t.core * 2 + t.ctx.toNat == slot && s.dev.win.unlocked == some (t.asid % 2 ^ 16)

/-- Reading a debug register of a slot; that of a thread on another core is a free value (log entry 3). -/
def State.apertureRead (s : State) (slot n : Nat) : Word × State :=
  match s.apertureCtx slot with
  | some id =>
    (((if s.cur.id = id then s else s.swap).dbgRead n).getD 0, s)
  | none =>
    if s.apertureAway slot then let p := s.pick (2 ^ 64); (BitVec.ofNat 64 p.1, p.2) else (0, s)

/-- Writing a debug register of a slot. -/
def State.apertureWrite (s : State) (slot n : Nat) (v : Word) : State :=
  match s.apertureCtx slot with
  | some id => if dbgReadOnly n then s else s.onCtx id fun s => s.dbgWrite n v
  | none => s

/-! Accesses to the window. -/

/-- The MSI-X table is memory of its own; everything else is a register. -/
def msiRange (o : Nat) : Bool := decide (0x1000 ≤ o ∧ o < 0x2000)

/-- Ranges of the registers that the table of R366 names: base and size. -/
def windowRegs : List (Nat × Nat) := [(0, 0x28), (0x100, 0x40), (0x400000, 0x200000)]

/-- An access that a register of the control window answers with poison: not a naturally aligned doubleword (R366). -/
def windowPoison (o n : Nat) : Bool :=
  (n != 8 || o % 8 != 0) && windowRegs.any fun r => decide (o < r.1 + r.2 ∧ r.1 < o + n)

/-- A register of the window (R366, R368); what the table does not name reads 0. -/
def windowReg (s : State) (o : Nat) : Word × State :=
  if o = 0 then (BitVec.ofNat 64 s.dev.disp.tail, s)
  else if o = 8 then (s.dev.disp.lstat, s)
  else if o = 0x10 then (s.dev.dieState, s)
  else if o = 0x20 then (s.dev.win.ktsink, s)
  else if o = 0x100 then (s.dev.win.kwAsid, s)
  else if o = 0x110 then (s.dev.win.kwstat, s)
  else if 0x400000 ≤ o ∧ o < 0x600000 then s.apertureRead ((o - 0x400000) / 0x1000) (0x200 + o % 0x1000 / 8)
  else (0, s)

def windowRead (s : State) (o n : Nat) : List Byte × State :=
  if msiRange o then (s.dev.win.msi.readN (o - 0x1000) n, s)
  else let r := windowReg s o; (leBytes n r.1.toNat, r.2)

/-- Writing a register of the window (R366, R368). -/
def State.windowSet (s : State) (o : Nat) (v : Word) : State :=
  let w := s.dev.win
  if o = 0x18 then s.setDev { s.dev with win := { w with requests := w.requests ++ [v] } }
  else if o = 0x20 then s.setDev { s.dev with win := { w with ktsink := v } }
  else if o = 0x100 then s.setDev { s.dev with win := { w with kwAsid := v &&& 0xFFFF } }
  else if o = 0x108 then (if v = 1 then s.unlock else if v = 2 then s.lock else s)
  else if 0x120 ≤ o ∧ o < 0x140 then
    s.setDev { s.dev with win := { w with
      kwKey := w.kwKey.take (o - 0x120) ++ leBytes 8 v.toNat ++ w.kwKey.drop (o - 0x120 + 8) } }
  else if 0x400000 ≤ o ∧ o < 0x600000 then s.apertureWrite ((o - 0x400000) / 0x1000) (0x200 + o % 0x1000 / 8) v
  else s

/-- A write of bytes; a size or alignment that the registers do not take writes nothing. -/
def windowWrite (s : State) (o : Nat) (bs : List Byte) : State :=
  if msiRange o then
    s.setDev { s.dev with win := { s.dev.win with msi := s.dev.win.msi.write (o - 0x1000) bs } }
  else if bs.length = 8 ∧ o % 8 = 0 then s.windowSet o (BitVec.ofNat 64 (Memory.leVal bs))
  else s

/-- The die that the core is on. -/
def State.ownDie (s : State) : Nat := s.cur.u.dieid.toNat

/-- A request of the core reaches a peer that performs it: the device has an id, the peer is there and does not refuse, and one of the ports that
firmware has assigned to it on the core's die is up (R369, R370). -/
def State.peerUp (s : State) (p : Nat) : Bool :=
  s.dev.ualId.isSome && s.dev.peers.any fun q =>
    q.id == p && !q.refuses && q.ports.any fun n => n / 3 == s.ownDie && !s.dev.links.portDown.contains n

/-- A peer performs device-defined atomics: it is a Phizon device (R370). -/
def State.phizonPeer (s : State) (pa : Nat) : Bool :=
  match regionOf pa with
  | .peer p => s.dev.peers.any fun q => q.id == p && q.phizon
  | _ => false

/-- No host reaches the device: every die is lost, or the host link is dead; Pilot alone reports then (R377). -/
def Device.hostDead (d : Device) : Bool := (List.range 4).all d.dieLost || (List.range 4).all d.links.modDown.contains

/-- The host's accesses get no answer. -/
def State.hostSilent (s : State) : Bool := s.dev.pilot.held || s.dev.hostDead

/-- Reading a peer's memory (R370). -/
def peerRead (s : State) (pa n : Nat) : List Byte × State := (s.dev.peerMem.readN pa n, s)
/-- Writing a peer's memory (R370); a line that is written whole carries no error any more. -/
def peerWrite (s : State) (pa : Nat) (bs : List Byte) : State :=
  let m := s.dev.peerMem.write pa bs
  (s.addStale (staleOf s.dev.peerMem m id pa bs.length)).setDev { s.dev with
    peerMem := m
    peerBad := s.dev.peerBad.filter fun l => !wholeLine pa bs.length l }

/-- Writing the scratchpad; a line that is written whole carries no poison any more (R321). -/
def State.putSpad (s : State) (k : Nat) (bs : List Byte) : State :=
  let m := s.core.spad.write k bs
  (s.addStale (staleOf s.core.spad m spadKey k bs.length)).setCore { s.core with
    spad := m
    spadBad := s.core.spadBad.filter fun l => !wholeLine k bs.length l }

/-! Physical lines of memory, of a peer and of the scratchpad, with their poison (R321, R373). -/

/-- A physical line becomes poisoned. -/
def State.poisonLine (s : State) (line : Nat) : State := s.setBad (if s.bad.contains line then s.bad else line :: s.bad)

/-- Bytes at a physical address of memory or of a peer. -/
def State.physBytes (s : State) (pa n : Nat) : List Byte :=
  match regionOf pa with
  | .peer _ => s.dev.peerMem.readN pa n
  | _ => s.mem.readN pa n
def State.putPhys (s : State) (pa : Nat) (bs : List Byte) : State :=
  match regionOf pa with
  | .peer _ => peerWrite s pa bs
  | _ => s.putMem pa bs

/-- A line of memory or of a peer becomes poisoned. -/
def State.poisonPhys (s : State) (line : Nat) : State :=
  match regionOf (line * 128) with
  | .peer _ => s.setDev { s.dev with peerBad := if s.dev.peerBad.contains line then s.dev.peerBad else line :: s.dev.peerBad }
  | _ => s.poisonLine line

/-- A line of memory, of a peer, or of the scratchpad when `spad` says so, carries poison. -/
def State.lineBad (s : State) (spad : Bool) (line : Nat) : Bool :=
  if spad then s.core.spadBad.contains line else s.bad.contains line || s.dev.peerBad.contains line

/-- A line of the scratchpad, or of memory or a peer, becomes poisoned. -/
def State.poisonIn (s : State) (spad : Bool) (line : Nat) : State :=
  if spad then (if s.core.spadBad.contains line then s else s.setCore { s.core with spadBad := line :: s.core.spadBad }) else s.poisonPhys line

/-- A page put where another page is, from `bs`, with the poison of each line that `bad` names (R373). -/
def State.putPage (s : State) (spad : Bool) (page : Nat) (bs : List Byte) (bad : Nat → Bool) : State :=
  let s1 := if spad then s.putSpad (page * 2 ^ 16) bs else s.putPhys (page * 2 ^ 16) bs
  ((List.range 512).filter bad).foldl (fun s k => s.poisonIn spad (page * 512 + k)) s1

/-! Replay (R350). -/

/-- A captured page put into the save area, at the next slot, with its poison (R373). -/
def State.savePage (s : State) (r : Replay) (spad : Bool) (page : Nat) : State :=
  let a := page * 2 ^ 16
  let bs := if spad then s.core.spad.readN a (2 ^ 16) else s.physBytes a (2 ^ 16)
  s.putPage false (r.save / 2 ^ 16 + r.got.length) bs fun k => s.lineBad spad (page * 512 + k)

/-- The first write of a pass to a page, before it performs; copies write for the lot after its thread's `EXIT` too (R350). -/
def State.capture (s : State) (spad : Bool) (a : Nat) : State :=
  match s.dev.replay with
  | none => s
  | some r =>
    let page := a / 2 ^ 16
    if s.cur.thr.launch ≠ r.launch ∨ r.full ∨ r.got.contains (spad, page) then s
    else if r.pages ≤ r.got.length then s.setDev { s.dev with replay := some { r with full := true } }
    else
      let s1 := s.savePage r spad page
      s1.setDev { s1.dev with replay := some { r with got := r.got ++ [(spad, page)] } }

/-- A replay that has run out of pages ends, and no write of its lot to a page that is not captured performs (R350). -/
def State.replayStops (s : State) (spad : Bool) (a : Nat) : Bool :=
  match s.dev.replay with
  | none => false
  | some r => r.full && s.cur.thr.launch == r.launch && !r.got.contains (spad, a / 2 ^ 16)

end Sys2Proof.Machine
end

