-- ==== Sys2Proof/Machine/Cache.lean ====
section
/-! DEFINITION. The caches of the core and of its die (R199, R206-R209): which lines they hold, in which class, and which are dirty; what
memory holds below (R265), and the form of its blocks (R374). No value that an access returns depends on them. What the manual leaves
open of them is log entry 41. Each function changes `Caches` alone; its State argument gives bytes, poison and bank roles. -/

namespace Sys2Proof.Machine

/-! Sizes (R199). -/

/-- The side cache: 64 KiB in 8 ways of 128-byte lines, so 64 sets. -/
def sideWays : Nat := 8
/-- Lines of an L2 slice of 12 MiB. -/
def sliceLines : Nat := 98304

/-! Lists of lines, most recently used first. -/

def findLine (l : List CacheLine) (line : Nat) : Option CacheLine := l.find? (·.line == line)
def hasLine (l : List CacheLine) (line : Nat) : Bool := (findLine l line).isSome
def dropLine (l : List CacheLine) (line : Nat) : List CacheLine := l.filter fun c => c.line != line

/-- The line in use: it becomes the most recent one, changed by f. -/
def useLine (f : CacheLine → CacheLine) (l : List CacheLine) (line : Nat) : List CacheLine :=
  match findLine l line with
  | some c => f c :: dropLine l line
  | none => l

/-- A line of the far tier, which L2 never holds (R209). -/
def farLine (line : Nat) : Bool :=
  match regionOf (line * 128) with
  | .far => true
  | _ => false

/-! Lines that the host may hold (R364). -/

/-- The home die recalls a line from the host before it grants it to a device agent for writing, or for reading after a host write. -/
def Caches.grant (c : Caches) (line : Nat) (write : Bool) : Caches :=
  { c with host := c.host.filter fun h => !(h.1 == line && (write || h.2)) }

/-- The home die records a line of HBM that the host may hold. -/
def Caches.toHost (c : Caches) (line : Nat) (written : Bool) : Caches :=
  { c with host := (line, written || c.host.contains (line, true)) :: c.host.filter fun h => h.1 != line }

/-! Memory below the caches. -/

/-- What memory holds of a line. -/
def Caches.bytesBelow (c : Caches) (s : State) (line : Nat) : List Byte :=
  match c.below.find? (·.line == line) with
  | some b => b.bytes
  | none => s.mem.readN (line * 128) 128

/-- A line is about to become dirty in a cache: memory keeps what it holds. -/
def Caches.keep (c : Caches) (s : State) (line : Nat) : Caches :=
  if c.below.any (·.line == line) then c
  else { c with below := ⟨line, s.mem.readN (line * 128) 128, s.bad.contains line⟩ :: c.below }

/-- Non-zero 8-byte words of a 2 KiB block as memory holds it. -/
def Caches.blockWords (c : Caches) (s : State) (block : Nat) : Nat :=
  ((List.range 16).map fun k =>
    let bs := c.bytesBelow s (16 * block + k)
    ((List.range 16).filter fun w => fieldAt bs (8 * w) 8 != 0).length).foldl (· + ·) 0

/-- A dirty line is written back to memory. A block of HBM is stored compressed when the line was written through a leaf with Z set and the
encoding needs at most 15 lines, which is at most 236 non-zero words; else raw (R374). -/
def Caches.toMemory (c : Caches) (s : State) (line : Nat) (z : Bool) : Caches :=
  let c1 := { c with below := c.below.filter fun b => b.line != line }
  let block := line / 16
  let rest := c1.packed.filter (· != block)
  { c1 with packed := if z && !farLine line && decide (c1.blockWords s block ≤ 236) then block :: rest else rest }

/-! L2 (R209). -/

/-- The lines of a line's slice when the slice is full, else none. While L2 as a whole holds fewer lines than one slice can, no slice is full. -/
def Caches.fullSlice (c : Caches) (line : Nat) : List CacheLine :=
  if c.l2.length < sliceLines then []
  else
    let l := c.l2.filter fun k => Config.l2Slice k.line == Config.l2Slice line
    if l.length < sliceLines then [] else l

/-- A line comes into L2; out of a full slice a line goes, which one is a free choice (log entry 41). -/
def Caches.fillL2 (c : Caches) (s : State) (line : Nat) : Caches :=
  if farLine line || hasLine c.l2 line then c
  else
    let full := c.fullSlice line
    let c1 := match full[Config.l2Victim c.next % full.length]? with
      | none => c
      | some v =>
        let c1 := { c with l2 := dropLine c.l2 v.line, next := c.next + 1 }
        if v.dirty then c1.toMemory s v.line v.z else c1
    { c1 with l2 := ⟨line, false, false, false, 0⟩ :: c1.l2 }

/-- A dirty line leaves the core: it is dirty in L2, or it is written back to the far tier (R265). -/
def Caches.toL2 (c : Caches) (s : State) (line : Nat) (z : Bool) : Caches :=
  if farLine line then c.toMemory s line z
  else
    let c1 := c.fillL2 s line
    { c1 with l2 := useLine (fun k => { k with dirty := true, z := z }) c1.l2 line }

/-- An access that goes to L2: a read finds or brings the line; a write makes it dirty there, or goes through to the far tier. -/
def Caches.atL2 (c : Caches) (s : State) (line : Nat) (z write : Bool) : Caches :=
  if write then (if farLine line then c else (c.keep s line).toL2 s line z) else c.fillL2 s line

/-! The first-level data cache (R207). -/

/-- The ways of a role that a fill can take: the banks in that role. -/
def CoreRes.ways (c : CoreRes) (role : Nat) : List Nat := (List.range 40).filter fun b => c.banks.getD b 0 == role

/-- The lines of the same set in ways of a role. -/
def Caches.inSet (c : Caches) (s : State) (role line : Nat) : List CacheLine :=
  c.l1.filter fun k => s.core.banks.getD k.bank 0 == role && Config.l1Set k.line == Config.l1Set line

/-- The victim of a fill: the least recently used line of normal priority, or of all when every one has high priority. -/
def victimOf (l : List CacheLine) : Option CacheLine :=
  match (l.filter fun c => !c.high).getLast? with
  | some v => some v
  | none => l.getLast?

/-- A line leaves the first-level data cache; a dirty one is written back. -/
def Caches.evictL1 (c : Caches) (s : State) (v : CacheLine) : Caches :=
  let c1 := { c with l1 := dropLine c.l1 v.line }
  if v.dirty then c1.toL2 s v.line v.z else c1

/-- A line fills a way of a role: a way that the set does not use, or the victim's. -/
def Caches.fillL1 (c : Caches) (s : State) (role line : Nat) (high dirty z : Bool) : Caches :=
  let set := c.inSet s role line
  let put (c : Caches) (bank : Nat) : Caches := { c with l1 := ⟨line, dirty, z, high, bank⟩ :: c.l1 }
  match (s.core.ways role).find? fun b => !set.any (·.bank == b) with
  | some b => put c b
  | none =>
    match victimOf set with
    | some v => put (c.evictL1 s v) v.bank
    | none => c

/-- How an access that misses places its line (R208). -/
inductive Placing where
  | none | normal | high
  deriving DecidableEq, Repr

/-- A use of a line that a cache holds: an allocation at high priority raises its class (log entry 41). -/
def CacheLine.use (c : CacheLine) (p : Placing) (write z : Bool) : CacheLine :=
  { c with dirty := c.dirty || write, z := if write then z else c.z, high := c.high || p == .high }

/-- An access to the first-level data cache. `vec` is a vector access, whose read of a line of a FIFO bank frees it (R207). -/
def Caches.atL1 (c : Caches) (s : State) (line : Nat) (p : Placing) (vec write z : Bool) : Caches :=
  match findLine c.l1 line with
  | some k =>
    let c1 := if write then c.keep s line else c
    if vec && !write && s.core.banks.getD k.bank 0 == 2 then c1.evictL1 s k
    else { c1 with l1 := useLine (·.use p write z) c1.l1 line }
  | none =>
    match p with
    | .none => c.atL2 s line z write
    | _ =>
      let c1 := c.fillL2 s line
      (if write then c1.keep s line else c1).fillL1 s 0 line (p == .high) write z

/-! The side cache (R206). -/

/-- A line leaves the side cache; a dirty one is merged into the first-level data cache, where it takes a way if it has none. With no cache way it
goes on to L2. -/
def Caches.leaveSide (c : Caches) (s : State) (line : Nat) : Caches :=
  match findLine c.side line with
  | none => c
  | some k =>
    let c1 := { c with side := dropLine c.side line }
    if !k.dirty then c1
    else if hasLine c1.l1 line then
      { c1 with l1 := c1.l1.map fun j => if j.line = line then { j with dirty := true, z := k.z } else j }
    else if (s.core.ways 0).isEmpty then c1.toL2 s line k.z
    else c1.fillL1 s 0 line false true k.z

/-- The line whose place a fill takes: the least recently used one of a full set. -/
def Caches.sideVictim (c : Caches) (line : Nat) : Option CacheLine :=
  let set := c.side.filter fun k => Config.sideSet k.line == Config.sideSet line
  if set.length < sideWays then none else set.getLast?

/-- A scalar access: a miss of the side cache allocates there, and at normal priority in the first-level data cache (R208), which alone holds lines of
the far tier (R209). -/
def Caches.atSide (c : Caches) (s : State) (line : Nat) (write z : Bool) : Caches :=
  if farLine line then c.atL1 s line .normal false write z
  else
  let c1 := if hasLine c.side line then c
    else
      let c2 := c.atL1 s line .normal false false z
      let c3 := match c2.sideVictim line with
        | some v => c2.leaveSide s v.line
        | none => c2
      { c3 with side := ⟨line, false, false, false, 0⟩ :: c3.side }
  let c4 := if write then c1.keep s line else c1
  { c4 with side := useLine (·.use .normal write z) c4.side line }

/-! Removal. -/

/-- The line leaves the caches of the core; a dirty copy goes to L2 or the far tier (R265). -/
def Caches.flushLine (c : Caches) (s : State) (line : Nat) : Caches :=
  let c1 := c.leaveSide s line
  match findLine c1.l1 line with
  | some k => c1.evictL1 s k
  | none => c1

/-- The line leaves every cache of the die, written back to memory. -/
def Caches.recall (c : Caches) (s : State) (line : Nat) : Caches :=
  let c1 := c.flushLine s line
  match findLine c1.l2 line with
  | none => c1
  | some k =>
    let c2 := { c1 with l2 := dropLine c1.l2 line }
    if k.dirty then c2.toMemory s line k.z else c2

/-- The core holds the line in its side cache or its first-level data cache. -/
def Caches.inCore (c : Caches) (line : Nat) : Bool := hasLine c.side line || hasLine c.l1 line
/-- Some cache of the die holds the line. -/
def Caches.onDie (c : Caches) (line : Nat) : Bool := c.inCore line || hasLine c.l2 line

/-- The directory of a line of HBM, which its home die keeps (R209, R364): that die, whether some cache of the device holds the line, and whether
the host may. -/
def State.directory (s : State) (line : Nat) : Option (Nat × Bool × Bool) :=
  match regionOf (line * 128) with
  | .hbm d =>
    let h := s.cache.host.any (·.1 == line)
    if s.cache.onDie line || h then some (d, s.cache.onDie line, h) else none
  | _ => none

/-! Accesses. Memory type 1 is uncached (R211). -/

def State.setCache (s : State) (c : Caches) : State := { s with cache := c }

/-- A scalar load or store at physical address pa. -/
def State.scalarTouch (s : State) (pa : Nat) (m : MemAttr) (write : Bool) : State :=
  let c := s.cache.grant (pa / 128) write
  s.setCache (if m.dev then c else c.atSide s (pa / 128) write m.z)

/-- A vector element, or an AMO, after the side cache has given the line up (R206). -/
def State.vectorTouch (s : State) (pa : Nat) (m : MemAttr) (p : Placing) (vec write : Bool) : State :=
  let c := s.cache.grant (pa / 128) write
  s.setCache (if m.dev then c else (c.leaveSide s (pa / 128)).atL1 s (pa / 128) p vec write m.z)

/-- An engine of the core, which is a caching agent of its own (R253), takes or reads a line. -/
def State.engineTouch (s : State) (pa : Nat) (m : MemAttr) (write : Bool) : State :=
  let c := s.cache.grant (pa / 128) write
  s.setCache (if m.dev then c
    else if write then (c.flushLine s (pa / 128)).atL2 s (pa / 128) m.z true
    else if c.inCore (pa / 128) then c
    else c.atL2 s (pa / 128) m.z false)

/-- A prefetched line arrives (R220): into L2 and the first-level data cache, a line of the far tier into the latter only; with `fifo` into a FIFO
bank where there is one. -/
def State.prefetchTouch (s : State) (line : Nat) (fifo : Bool) : State :=
  let c := s.cache.grant line false
  s.setCache (if hasLine c.l1 line then c
    else (c.fillL2 s line).fillL1 s (if fifo && !(s.core.ways 2).isEmpty then 2 else 0) line false false false)

/-- The walker and instruction fetch read a line (R364). -/
def State.granted (s : State) (line : Nat) : State := s.setCache (s.cache.grant line false)

/-- Lines leave every cache of the die: another agent takes them (R206, R253). -/
def State.recall (s : State) (lines : List Nat) : State :=
  s.setCache (lines.foldl (fun c l => c.recall s l) s.cache)

/-- Lines leave the caches of the core. -/
def State.flushLines (s : State) (lines : List Nat) : State :=
  s.setCache (lines.foldl (fun c l => c.flushLine s l) s.cache)

/-- The line leaves every cache of the die and a dirty copy is discarded: memory's bytes are what is left (R265). -/
def State.discardLine (s : State) (line : Nat) : State :=
  let c := s.cache
  let c1 := { c with side := dropLine c.side line, l1 := dropLine c.l1 line, l2 := dropLine c.l2 line,
                     below := c.below.filter fun b => b.line != line }
  match c.below.find? (·.line == line) with
  | none => s.setCache c1
  | some b =>
    let s1 := (s.setCache c1).setMem (s.mem.write (line * 128) b.bytes)
    s1.setBad (if b.bad then (if s1.bad.contains line then s1.bad else line :: s1.bad) else s1.bad.filter (· != line))

/-- The ways of some banks are given up, and their dirty lines written back (R201, R203). -/
def State.emptyBanks (s : State) (bs : List Nat) : State :=
  s.setCache ((s.cache.l1.filter fun k => bs.contains k.bank).foldl (fun c k => c.evictL1 s k) s.cache)

/-- Every line leaves the caches of the core (R402), or every cache of the die (R350). -/
def State.flushCore (s : State) : State := s.flushLines ((s.cache.side ++ s.cache.l1).map (·.line))
def State.flushDie (s : State) : State := s.recall ((s.cache.side ++ s.cache.l1 ++ s.cache.l2).map (·.line))

end Sys2Proof.Machine
end

