-- ==== Sys2Proof/Machine/Entry.lean ====
section
/-! DEFINITION. An entry of the VIQ as its own words describe it: what it captured (R10, R16), spans and elements (R104), masks (R105),
active elements (R106), and its footprint: the registers, masks and memory that it reads and writes (R18, R20, R174). -/

namespace Sys2Proof.Machine

/-! What an entry captured. -/

/-- EW in bits (R10). -/
def Entry.ew (e : Entry) : Nat := 8 <<< (e.vtype &&& 3).toNat
/-- G (R10). -/
def Entry.grp (e : Entry) : Nat := 1 <<< ((e.vtype >>> 2) &&& 3).toNat
/-- TP (R10). -/
def Entry.tp (e : Entry) : Bool := e.vtype.getLsbD 4
/-- MP (R10). -/
def Entry.mp (e : Entry) : Bool := e.vtype.getLsbD 5
/-- Flush inputs (R61). -/
def Entry.flin (e : Entry) : Bool := e.vtype.getLsbD 6
/-- Flush results (R61). -/
def Entry.fres (e : Entry) : Bool := e.vtype.getLsbD 7
/-- The register length in bytes (R10). -/
def Entry.rlen (e : Entry) : Nat := 1024 <<< ((e.vtype >>> 8) &&& 7).toNat
/-- No element effect (R12). -/
def Entry.empty (e : Entry) : Bool := decide (e.vl ≤ e.first) && !e.reissue

/-! Registers. -/

/-- The tag of a vector register. -/
def State.vtag (s : State) (r : BitVec 5) : Tag := (vget (n := 5) s.cur.v r).tag

/-- Registers of a span of element width w (R104). -/
def Entry.spanLen (e : Entry) (w : Nat) : Nat := max 1 (e.grp * w / e.ew)

/-- The span condition of R104. -/
def Entry.spanOk (e : Entry) (r : BitVec 5) (w : Nat) : Bool :=
  r.toNat % e.spanLen w == 0 && decide (r.toNat + e.spanLen w ≤ 32)

/-- The bytes of n registers from r on as one number. -/
def State.regBits (s : State) (rlen : Nat) (r : Nat) : Nat → Nat
  | 0 => 0
  | n + 1 => (vget (n := 5) s.cur.v (BitVec.ofNat 5 r)).bits + (regBits s rlen (r + 1) n) <<< (8 * rlen)

/-- Element i of width w. -/
def elem (w bits i : Nat) : Nat := (bits >>> (w * i)) % 2 ^ w

/-- A mask (R105). -/
def State.mask (s : State) (k : BitVec 4) : Nat := vget (n := 4) s.cur.m k

/-- Element i is active (R106): from the first element that is not done on, those of the governing mask, or those that `m15` names in a
reissue (R315). -/
def Entry.active (e : Entry) (s : State) (gov : Option Nat) (i : Nat) : Bool :=
  decide (e.vstart ≤ i ∧ i < e.vl) &&
    if e.reissue then (s.mask 15).testBit i else (match gov with | none => true | some m => m.testBit i)

/-- The offset of an element of an index vector (R121). -/
def indexOf (t : Tag) (v : Nat) : Word :=
  if t = 0x010 ∨ t = 0x018 then (BitVec.ofNat (tagWidth t) v).signExtend 64 else BitVec.ofNat 64 v

/-- The format override, or the tag (R64). -/
def override (o t : Tag) : Tag := if o = 0 then t else o

/-! Fields of the words that an entry holds. -/

def Entry.fd (e : Entry) : BitVec 5 := fieldD e.body
def Entry.fa (e : Entry) : BitVec 5 := fieldA e.body
def Entry.fb (e : Entry) : BitVec 5 := fieldB e.body
/-- The governing mask's field. -/
def Entry.fmk (e : Entry) : BitVec 4 := mkOf (field9 e.body)
/-- The address mode of VM formats. -/
def Entry.mode (e : Entry) : Nat := (lowOf (field9 e.body)).toNat
/-- The two bits above the low three of f9: f2 of VF formats, the hint of VM formats. -/
def Entry.mid (e : Entry) : Nat := (midOf (field9 e.body)).toNat
/-- The offset of a wide form (R37). -/
def Entry.wideOff (e : Entry) : Word :=
  match e.code with
  | .wide _ v => v.signExtend 64
  | _ => 0

/-! The footprint. -/

/-- Registers [reg, reg + len) with elements of width w; w = 0 where the width is not that of elements. -/
structure Span where
  reg : Nat
  len : Nat
  w : Nat
  deriving DecidableEq, Repr

/-- What an entry reads and writes: vector spans, masks, `x` registers. `elt` says that element i of each result depends on elements i of
its operands alone, `mem` that it accesses memory, `unit` that it works on tiles, stores, the top-k unit, the Tumbler or the Hinge. -/
structure Foot where
  vr : List Span
  vw : List Span
  mr : List Nat
  mw : List Nat
  xw : List Nat
  elt : Bool
  mem : Bool
  unit : Bool
  deriving DecidableEq, Repr

/-- The span of an operand of element width w. -/
def Entry.span (e : Entry) (r : BitVec 5) (w : Nat) : Span := ⟨r.toNat, e.spanLen w, w⟩

/-- Every register that an operand named by r can take, whatever its width. -/
def Entry.wideSpan (e : Entry) (r : BitVec 5) : Span :=
  let n := e.spanLen 64
  ⟨r.toNat / n * n, n, 0⟩

/-- The governing mask as a list. -/
def Entry.govern (e : Entry) : List Nat := if e.fmk = 15 then [] else [e.fmk.toNat]

/-- The mask number in a five-bit field. -/
def maskNo (r : BitVec 5) : Nat := r.toNat % 16

/-- Majors 13 and 14: every operand has width EW (R108). -/
def Entry.footBin (e : Entry) : Foot :=
  let cmp := decide (19 ≤ e.f5 ∧ e.f5 ≤ 24)
  let d := e.span e.fd e.ew
  { vr := e.span e.fa e.ew :: ((if e.major = 13 then [e.span e.fb e.ew] else []) ++ (if cmp then [] else [d]))
    vw := if cmp then [] else [d]
    mr := e.govern ++ (if cmp then [maskNo e.fd] else [])
    mw := if cmp then [maskNo e.fd] else []
    xw := [], elt := true, mem := false, unit := false }

/-- Majors 15 to 18 and 17: widths by the tags and the format register (R112-R119). -/
def Entry.footFmt (e : Entry) (s : State) : Foot :=
  let atag : Tag := e.fmt.extractLsb' 0 10
  let btag : Tag := e.fmt.extractLsb' 10 10
  let dfmt : Tag := e.fmt.extractLsb' 20 10
  let ta := override atag (s.vtag e.fa)
  let tb := override btag (s.vtag e.fb)
  let a := e.span e.fa (numWidth ta)
  match e.major with
  | 15 =>
    let d := e.span e.fd (numWidth (override dfmt ta))
    ⟨[a, e.span e.fb (tagWidth tb), d], [d], e.govern, [], [], true, false, false⟩
  | 16 =>
    let d := e.span e.fd (numWidth (override dfmt ta))
    ⟨[a, d], [d], e.govern, [], [], true, false, false⟩
  | 17 =>
    let w := if dfmt = 0 then (if e.fb = 14 then e.ew else numWidth ta) else numWidth dfmt
    let d := e.span e.fd w
    ⟨[a, d], [d], e.govern, [], [], true, false, false⟩
  | _ =>
    if e.mid = 0 then
      let d := e.span e.fd 32
      ⟨[e.span e.fa 32, e.span e.fb 32, d], [d], e.govern, [], [], true, false, false⟩
    else
      let d := e.span e.fd (numWidth (override dfmt tagFp32))
      let st : List Span := (List.range 3).map fun k => ⟨e.fb.toNat + k * e.grp, e.grp, 32⟩
      ⟨a :: d :: st, d :: st, e.govern, [], [], true, false, false⟩

/-- Majors 19 to 21: the data span, the index vector, and `m15`, which a fault writes and a reissue reads (R121-R132). -/
def Entry.footMem (e : Entry) (s : State) : Foot :=
  let d := e.span e.fd e.ew
  let idx := e.major = 21 ∨ e.mode = 2 ∨ (e.major = 20 ∧ e.mode = 5)
  { vr := d :: (if idx then [e.span e.fb (tagWidth (s.vtag e.fb))] else [])
    vw := if e.major = 20 then [] else [d]
    mr := 15 :: e.govern
    mw := 15 :: (if e.major = 19 ∧ e.mode = 3 then e.govern else [])
    xw := [], elt := true, mem := true, unit := false }

/-- Major 22 (R133-R135, R151-R153). -/
def Entry.footMask (e : Entry) : Foot :=
  let a := maskNo e.fa
  let d := maskNo e.fd
  let va := e.span e.fa e.ew
  match e.f5 with
  | 0 | 1 | 2 | 3 | 4 => ⟨[], [], a :: maskNo e.fb :: d :: e.govern, [d], [], true, false, false⟩
  | 5 | 6 | 7 => ⟨[], [], a :: e.govern, [], [e.fd.toNat], false, false, false⟩
  | 8 | 9 => ⟨[], [], a :: d :: e.govern, [d], [], false, false, false⟩
  | 10 => ⟨[], [], d :: e.govern, [d], [], true, false, false⟩
  | 11 => ⟨[va], [], d :: e.govern, [d], [], true, false, false⟩
  | 12 => ⟨[e.span e.fd e.ew], [e.span e.fd e.ew], a :: e.govern, [], [], true, false, false⟩
  | 13 => ⟨[va, e.span e.fb e.ew, e.span e.fd 32], [e.span e.fd 32], e.govern, [], [], false, false, false⟩
  | _ => ⟨[e.wideSpan e.fa], [], maskNo e.fb :: d :: e.govern, [d], [], false, false, false⟩

/-- Major 23 (R137-R147, R248-R251). -/
def Entry.footPerm (e : Entry) (s : State) : Foot :=
  let a := e.span e.fa e.ew
  let d := e.span e.fd e.ew
  let b := e.span e.fb (tagWidth (s.vtag e.fb))
  match e.f5 with
  | 0 | 1 | 2 | 3 | 6 | 7 | 8 | 16 | 17 => ⟨[a], [], e.govern, [], [e.fd.toNat], false, false, false⟩
  | 4 | 5 => ⟨[a], [], e.govern, [], [e.fd.toNat, e.fb.toNat], false, false, false⟩
  | 9 | 10 | 11 | 12 | 13 => ⟨[a, d], [d], e.govern, [], [], false, false, false⟩
  | 14 | 15 => ⟨[a, b, d], [d], e.govern, [], [], false, false, false⟩
  | 18 => ⟨[d], [d], [], [], [], false, false, false⟩
  | 19 | 20 => ⟨[e.wideSpan e.fd], [e.wideSpan e.fd], [], [], [], false, false, false⟩
  | 21 => ⟨[⟨e.fa.toNat, 1, 0⟩], [], [], [], [e.fd.toNat], false, false, false⟩
  | n => ⟨[e.wideSpan e.fa, e.wideSpan e.fb], [e.wideSpan e.fd, e.wideSpan e.fb], e.govern, if n = 24 then e.govern else [], [],
      false, false, true⟩

/-- Majors 24, 26 and 27: the masks and `x` registers that they write (R18, R242-R247, R266-R294). Every operand counts as read and
written; of `TMRUN` they have elements of EW bits (R289), of `LTFILL` bytes. -/
def Entry.footUnit (e : Entry) : Foot :=
  let d := maskNo e.fd
  let b := maskNo e.fb
  let w : List Nat × List Nat :=
    match e.major, e.f5 with
    | 26, 0 | 26, 2 | 27, 4 => ([d], [])
    | 26, 1 | 27, 1 | 27, 2 => ([b], [])
    | 26, 3 | 27, 6 | 27, 7 => (e.govern, [])
    | 26, 5 | 27, 5 | 27, 11 => ([], [e.fd.toNat])
    | _, _ => ([], [])
  let run := e.major == 27 && e.f5 == 3
  let all : List Span := [⟨0, 32, if run then e.ew else if e.major = 26 ∧ e.f5 = 8 then 8 else 0⟩]
  ⟨all, all, List.range 16, (if e.major = 26 ∧ e.f5 ≠ 8 then [] else [15]) ++ w.1, w.2, run, true, true⟩

/-- The footprint of an entry. -/
def Entry.foot (e : Entry) (s : State) : Foot :=
  match e.major with
  | 13 | 14 => e.footBin
  | 15 | 16 | 17 | 18 => e.footFmt s
  | 19 | 20 | 21 => e.footMem s
  | 22 => e.footMask
  | 23 => e.footPerm s
  | _ => e.footUnit

/-- The `x` registers that an entry writes (R18). -/
def Entry.writesX (e : Entry) (s : State) : List Nat := (e.foot s).xw
/-- The masks that an entry writes (R88). -/
def Entry.writesMask (e : Entry) (s : State) (k : Nat) : Bool := (e.foot s).mw.contains k

/-- The widest operand in bits; masks alone have elements of one bit (R174). -/
def Entry.widest (e : Entry) (s : State) : Nat :=
  let f := e.foot s
  max 1 (((f.vr ++ f.vw).map (·.w)).foldl max 0)

/-- Two spans share a register. -/
def Span.meets (a b : Span) : Bool := decide (a.reg < b.reg + b.len ∧ b.reg < a.reg + a.len)

/-- Two spans meet element on element (R107). -/
def Span.aligned (a b : Span) : Bool := a.reg == b.reg && a.w == b.w && a.w != 0

/-- Some span of one list meets one of another where `ok` does not hold. -/
def spansMeet (ok : Span → Span → Bool) (l m : List Span) : Bool := l.any fun a => m.any fun b => a.meets b && !ok a b

/-- A younger entry must wait for an older one: one of them writes what the other reads or writes, or both work on memory or on a unit.
`ok` excuses pairs of spans and `okM` pairs of masks. -/
def Foot.conflict (ok : Span → Span → Bool) (okM : Bool) (a b : Foot) : Bool :=
  spansMeet ok a.vw (b.vr ++ b.vw) || spansMeet ok a.vr b.vw
    || (!okM && (a.mw.any (fun k => (b.mr ++ b.mw).contains k) || a.mr.any b.mw.contains))
    || a.xw.any b.xw.contains || (a.mem && b.mem) || a.unit || b.unit

/-- The older entry and the younger one have nothing in common that orders them. -/
def Entry.independent (old young : Entry) (s : State) : Bool :=
  !(Foot.conflict (fun _ _ => false) false (old.foot s) (young.foot s))

/-- The younger entry can follow the older one element on element: what they have in common they use at equal places (R174). Masks are
used element on element by every entry that is element-wise, but for `m15`. -/
def Entry.chains (old young : Entry) (s : State) : Bool :=
  let a := old.foot s
  let b := young.foot s
  a.elt && b.elt && !(Foot.conflict Span.aligned true a b) && !((a.mw ++ a.mr).contains 15 && (b.mw ++ b.mr).contains 15)

/-! Accesses of pending entries (R20). -/

/-- The function of a matrix operation. -/
def Entry.f3 (e : Entry) : Nat := ((field9 e.body).extractLsb' 2 3).toNat

/-- The entry accesses memory, so a release waits for it (R180): vector loads, stores and atomics, `TSET`, `GXACCT` (R353), the fill of lane
tables, the Tumbler and the Hinge. The tile fetch of `XACCT` is no access that a release waits for. -/
def Entry.accesses (e : Entry) : Bool :=
  match e.major with
  | 19 | 20 | 21 | 27 => true
  | 24 => e.f3 == 4 || e.f3 == 5
  | 26 => e.f5 == 8
  | _ => false

/-- The entry reads memory or writes it, for the order of R20. -/
def Entry.reaches (e : Entry) : Bool := e.accesses || (e.major == 24 && e.f3 == 2)

/-- The entry writes memory: stores and atomics, `HGSAVE`, and the barrier arrivals of the matrix operations. -/
def Entry.stores (e : Entry) : Bool :=
  match e.major with
  | 20 | 21 => true
  | 24 => e.f3 == 2 || e.f3 == 4
  | 27 => e.f5 == 8
  | _ => false

/-- A register or mask that the addresses of an entry depend on is still to be written by an older entry, so they are not known. -/
def Entry.unknown (e : Entry) (s : State) (older : List Entry) : Bool :=
  let f := e.foot s
  older.any fun o => !o.fin && (spansMeet (fun _ _ => false) (o.foot s).vw f.vr || (o.foot s).mw.any f.mr.contains)

/-- The offset of element i of a vector memory entry (R121). -/
def Entry.offsetOf (e : Entry) (s : State) (i : Nat) : Word :=
  let idx := e.major = 21 ∨ e.mode = 2 ∨ (e.major = 20 ∧ e.mode = 5)
  let strided := e.mode = 1 ∨ (e.major = 20 ∧ e.mode = 4)
  if idx then
    let t := s.vtag e.fb
    indexOf t (elem (tagWidth t) (s.regBits e.rlen e.fb.toNat (e.spanLen (tagWidth t))) i)
  else if strided then BitVec.ofNat 64 i * e.xb
  else BitVec.ofNat 64 (i * (e.ew / 8))

/-- The elements that an entry has still to work on. -/
def Entry.left (e : Entry) (s : State) : List Nat :=
  (List.range e.vl).filter (e.active s (if e.fmk = 15 then none else some (s.mask e.fmk)))

/-- The addresses that a vector memory entry has still to access, each of EW / 8 bytes. -/
def Entry.pending (e : Entry) (s : State) : List Nat := (e.left s).map fun i => (e.xa + e.wideOff + e.offsetOf s i).toNat

/-- Bytes in one page that an entry has still to access: whether it writes them, their address and number. -/
structure Spot where
  writes : Bool
  addr : Nat
  len : Nat
  deriving DecidableEq, Repr

/-- n bytes from an address on, by pages. -/
def spotsAt (writes : Bool) (a n : Nat) : List Spot :=
  let k := 2 ^ 16 - a % 2 ^ 16
  if n ≤ k then [⟨writes, a, n⟩] else [⟨writes, a, k⟩, ⟨writes, a + k, n - k⟩]

/-- The address of element k of row r for elements of w bits, and the half of its byte for nibbles (R269). -/
def TileStream.element (t : TileStream) (w r k : Nat) : Word × Nat :=
  let base := t.base + BitVec.ofNat 64 r * t.rstride
  if t.estride = 0 then (base + BitVec.ofNat 64 (k * w / 8), if w = 4 then k % 2 else 0)
  else
    let nib := (2 * (base.toNat : Int) + k * t.estride.toInt) % (2 ^ 65 : Nat)
    (BitVec.ofInt 64 (nib / 2), (nib % 2).toNat)

/-- What an operand of `XACCT` reads of the rows `rows`, by the format register of the entry, and the arrival at its bound barrier (R269,
R270, R272). -/
def Entry.tileSpots (e : Entry) (t : TileStream) (rows : List Nat) : List Spot :=
  let w := numWidth (e.fmt.extractLsb' 0 10)
  let row := (e.fmt.extractLsb' 58 3).toNat
  let len := if row = 0 then 512 else 64 * row
  let read (r : Nat) : List Spot :=
    if t.estride = 0 then spotsAt false (t.element w r 0).1.toNat len
    else (List.range (len * 8 / w)).flatMap fun k => spotsAt false (t.element w r k).1.toNat (max 1 (w / 8))
  rows.flatMap read ++ (t.bar.toList.map fun b => ⟨true, b.toNat, 16⟩)

/-- The bytes that an entry has still to access, or none where an older one has still to write what its addresses depend on, or where only its
execution finds them: a `GXACCT`, the tables of the Tumbler and the lists of the Hinge (DEDUCED, log entry 37). -/
def Entry.spots (e : Entry) (s : State) (older : List Entry) : Option (List Spot) :=
  let stream (r : BitVec 5) : TileStream := vget (n := 3) s.cur.ts (r.setWidth 3)
  match e.major, e.f3, e.f5 with
  | 19, _, _ | 20, _, _ | 21, _, _ => if e.unknown s older then none else some ((e.pending s).map fun a => ⟨e.stores, a, e.ew / 8⟩)
  | 24, 2, _ =>
    if older.any fun o => !o.fin && ((o.major == 24 && (o.f3 == 2 || o.f3 == 4 || o.f3 == 5)) || o.writesMask s e.fmk.toNat) then none
    else some (e.tileSpots (stream e.fa) ((e.left s).filter (· < min 64 (stream e.fa).rows))
      ++ e.tileSpots (stream e.fb) (List.range (min 64 (stream e.fb).rows)))
  | 24, 5, _ => some (spotsAt false e.xa.toNat 32)
  | 26, _, 8 => some (spotsAt false e.xa.toNat e.total)
  | 27, _, 8 => some (spotsAt true e.xa.toNat 64)
  | 27, _, 9 => some (spotsAt false e.xa.toNat 64)
  | _, _, _ => none

end Sys2Proof.Machine
end

