-- ==== Sys2Proof/Machine/Access.lean ====
section
/-! DEFINITION. Memory as a thread reaches it: the physical map (18 R356), page tables and TLBs (10 R210-R214), the scratchpad
window (10 R202), pages in transit (15 R317), poison and lost dies (15 R321, 18 R376), lines that a copy owns (13 R253),
and the accesses of one element or one scalar. -/

namespace Sys2Proof.Machine

/-- Access kinds (R4, R212). -/
inductive Acc where
  | read | write | fetch | amo
  deriving DecidableEq, Repr

def Acc.writes : Acc → Bool
  | .write | .amo => true
  | _ => false

/-- The access code of a page entry (R313). -/
def Acc.code : Acc → Nat
  | .read => 0
  | .write | .amo => 1
  | .fetch => 2

/-- Where a byte of an access lies. -/
inductive Loc where
  /-- Physical memory: HBM or the far tier, and how the leaf attributes the access. -/
  | mem (pa : Nat) (m : MemAttr := MemAttr.normal)
  /-- A byte of a scratchpad bank, by bank × 64 KiB + offset (R202). -/
  | spad (k : Nat)
  /-- The control window (R366), by offset. -/
  | window (off : Nat)
  /-- Another device (R370). -/
  | peer (pa : Nat) (m : MemAttr := MemAttr.normal)
  /-- An address that R356 assigns to nothing, reached untranslated. -/
  | hole
  deriving DecidableEq, Repr

/-- The line of a place among the lines that engines own or have read; memory, peers and the scratchpad are kept apart. -/
def Loc.lineKey : Loc → Option Nat
  | .mem pa _ | .peer pa _ => some (pa / 128)
  | .spad k => some (2 ^ 45 + k / 128)
  | _ => none

/-- The outcome of a translation (R212, R317): a place, a page CODE of R313, or a line that must wait (R253, R317). -/
inductive Tr where
  | at (l : Loc)
  | fault (code : Nat)
  | hold
  /-- No peer answers (R370). -/
  | outside
  deriving DecidableEq, Repr

/-! Page tables. -/

/-- Bits of a page table entry (R211). -/
def pteV (e : Word) : Bool := e.getLsbD 0
def pteR (e : Word) : Bool := e.getLsbD 1
def pteW (e : Word) : Bool := e.getLsbD 2
def pteX (e : Word) : Bool := e.getLsbD 3
def pteG (e : Word) : Bool := e.getLsbD 4
def pteD (e : Word) : Bool := e.getLsbD 6
def pteT (e : Word) : Bool := e.getLsbD 7
def pteZ (e : Word) : Bool := e.getLsbD 8
def pteSpl (e : Word) : Bool := e.getLsbD 9
def pteMt (e : Word) : Nat := (e.extractLsb' 10 2).toNat
def pteTh (e : Word) : Bool := e.getLsbD 15
/-- FRAME × 64 KiB. -/
def pteFrame (e : Word) : Nat := (e.extractLsb' 16 36).toNat * 2 ^ 16
def pteLeaf (e : Word) : Bool := pteR e || pteW e || pteX e

/-- The frame of a leaf of level lvl lies in a range of R356: HBM, the control window with memory type 1, the far tier, or a peer window that
is not this device's own. A block of 256 MiB does not lie in the 16 MiB of the control window (DEDUCED, log entry 41). -/
def frameOk (s : State) (lvl : Nat) (e : Word) : Bool :=
  pteMt e == 2 ||
    match regionOf (pteFrame e) with
    | .hbm _ | .far => true
    | .window _ => pteMt e == 1 && lvl == 3
    | .peer p => s.dev.ualId != some p
    | .hole => false

/-- Malformed (R212, R356): `lvl` is 1, 2 or 3. -/
def malformed (s : State) (lvl : Nat) (e : Word) : Bool :=
  (e.extractLsb' 12 3 != 0) ||
    if pteLeaf e then
      pteTh e || pteMt e == 3 || lvl == 1 || (pteW e && !pteR e) || !frameOk s lvl e
        || (lvl == 2 && (pteFrame e % 2 ^ 28 != 0 || pteMt e == 2))
    else lvl == 3 || e.extractLsb' 4 8 != 0

/-- The address of the entry of level lvl in the table at `base` (R210). -/
def entryAddr (base va lvl : Nat) : Nat := base + 8 * (va / 2 ^ (52 - 12 * lvl) % 4096)

/-- The next table of a pointer (R211). -/
def nextTable (e : Word) : Nat := pteFrame e + (if pteTh e then 2 ^ 15 else 0)

/-- A table entry that cannot be used: its line is poisoned (R321) or homed on a lost die (R376). -/
def tableBad (s : State) (a : Nat) : Bool :=
  (s.badLine a 8).isSome ||
    match regionOf a with
    | .hbm d => s.dev.dieLost d
    | _ => false

/-- A walk from level lvl on: the address of the leaf, the leaf and its level, or a page CODE (R212). Upper tables only:
permission is checked on the leaf. -/
def walkFrom (s : State) (va : Nat) : Nat → Nat → Nat → Except Nat (Nat × Word × Nat)
  | 0, _, _ => .error 2
  | n + 1, lvl, base =>
    let a := entryAddr base va lvl
    let e := BitVec.ofNat 64 (s.mem.readVal a 8)
    if tableBad s a then .error 6
    else if !pteV e then .error 1
    else if malformed s lvl e then .error 2
    else if pteLeaf e then .ok (a, e, lvl)
    else walkFrom s va n (lvl + 1) (nextTable e)

/-- The table entries that a walk from level lvl on reads. -/
def walkReads (s : State) (va : Nat) : Nat → Nat → Nat → List Nat
  | 0, _, _ => []
  | n + 1, lvl, base =>
    let a := entryAddr base va lvl
    let e := BitVec.ofNat 64 (s.mem.readVal a 8)
    a :: if pteV e && !pteLeaf e then walkReads s va n (lvl + 1) (nextTable e) else []

/-- The walk of R210 from the level-1 table at `ptbase`. -/
def walk (s : State) (ptbase va : Nat) : Except Nat (Nat × Word × Nat) := walkFrom s va 3 1 ptbase

/-- The permission check of R212. -/
def permOk (e : Word) : Acc → Bool
  | .read => pteR e
  | .write => pteW e
  | .fetch => pteX e
  | .amo => pteR e && pteW e

/-! TLBs (R213). -/

/-- A TLB entry matches an address in an address space, or in every one when G is set. -/
def TlbEntry.hits (t : TlbEntry) (asid va : Nat) : Bool :=
  (t.asid == asid || pteG t.leaf) && (if t.block then va / 2 ^ 28 == t.page / 2 ^ 12 else va / 2 ^ 16 == t.page)

/-- The entry for an address, the first-level TLB first. -/
def tlbFind (s : State) (asid va : Nat) : Option TlbEntry :=
  match s.core.tlb1.find? (·.hits asid va) with
  | some t => some t
  | none => s.core.tlb2.find? (·.hits asid va)

/-- A batch in progress of some thread of the core pins the page (R214). -/
def State.pins (s : State) (t : TlbEntry) : Bool :=
  (s.cur :: s.oth :: s.core.drains).any fun c => c.viq.any fun e => e.pins.any fun p => t.hits c.sys.asid.toNat (p.1 * 2 ^ 16)

/-- A TLB of n entries: out of a fuller one goes the oldest entry that `keep` does not name. -/
def tlbFit (n : Nat) (keep : TlbEntry → Bool) (l : List TlbEntry) : List TlbEntry :=
  if l.length ≤ n then l else (l.reverse.eraseP fun t => !keep t).reverse

/-- Both TLBs with a new entry; the oldest one that no batch pins goes out of a full first-level TLB (R214; PRESUMED: the manual gives no
replacement order; log entry 11). -/
def tlbAdd (s : State) (asid va : Nat) (t : TlbEntry) : State :=
  s.setCore { s.core with
    tlb1 := tlbFit 192 s.pins (t :: s.core.tlb1.filter fun u => !u.hits asid va)
    tlb2 := tlbFit 4096 (fun _ => false) (t :: s.core.tlb2.filter fun u => !u.hits asid va) }

/-- The leaf with A, and for a write D, set (R212). -/
def withAD (e : Word) (acc : Acc) : Word := e ||| 0x20 ||| (if acc.writes then 0x40 else 0)

/-- Writing a page table entry that the walker updates (R212): no store of a thread. -/
def State.putPte (s : State) (a : Nat) (e : Word) : State :=
  (s.setMem (s.mem.writeVal a 8 e.toNat)).setCache (s.cache.rawWrite a 8)

/-- The leaf that an access uses: from a TLB, or from a walk that sets A and D (R212, R213). A fault always comes from a walk: a TLB
entry that does not allow the access, or whose D is clear at a write, is walked again. -/
def findLeaf (s : State) (asid ptbase va : Nat) (acc : Acc) : Except Nat (Word × Bool) × State :=
  let miss : Except Nat (Word × Bool) × State :=
    match walk s ptbase va with
    | .error c => (.error c, s)
    | .ok (a, e, lvl) =>
      if permOk e acc then
        let e' := withAD e acc
        let s0 := (walkReads s va 3 1 ptbase).foldl (fun t a => t.granted (a / 128)) s
        let s' := if e' = e then s0 else s0.putPte a e'
        let block := lvl == 2
        (.ok (e', block), tlbAdd s' asid va ⟨asid, if block then va / 2 ^ 28 * 2 ^ 12 else va / 2 ^ 16, block, e'⟩)
      else (.error 3, s)
  match tlbFind s asid va with
  | some t =>
    if permOk t.leaf acc && (!acc.writes || pteD t.leaf) then (.ok (t.leaf, t.block), s) else miss
  | none => miss

/-- The scratchpad banks in ascending bank number (R202). -/
def spadBanks (s : State) : List Nat := (List.range 40).filter fun b => s.core.banks.getD b 0 == 1

/-- The place of scratchpad offset o (R202). -/
def spadLoc (s : State) (o : Nat) : Tr :=
  match (spadBanks s)[o / 2 ^ 16]? with
  | some b =>
    let k := b * 2 ^ 16 + o % 2 ^ 16
    if s.lineHeld (2 ^ 45 + k / 128) then .hold else .at (.spad k)
  | none => .fault 4

/-- The place of a physical address, and the holds of R253. A line of a lost die reads as poison (R376). Untranslated, this device's own peer
window is in no range of R356. -/
def physAt (s : State) (m : MemAttr) (pa : Nat) : Tr :=
  match regionOf pa with
  | .hbm d => if s.dev.dieLost d then .fault 6 else if s.lineHeld (pa / 128) then .hold else .at (.mem pa m)
  | .far => if s.lineHeld (pa / 128) then .hold else .at (.mem pa m)
  | .window o => .at (.window o)
  | .peer p =>
    if s.dev.ualId = some p then .at .hole
    else if !s.peerUp p then .outside
    else if s.lineHeld (pa / 128) then .hold
    else .at (.peer pa m)
  | .hole => .at .hole

/-- The place of a physical address reached untranslated: memory type 0, Z clear (DEDUCED, log entry 41). -/
def physLoc (s : State) (pa : Nat) : Tr := physAt s .normal pa

/-- An access to a page in transit (R317). A global leaf is that of the page in every address space (R211, R213). -/
def transitLoc (s : State) (m : MemAttr) (glob : Bool) (asid va pa : Nat) : Tr :=
  match s.dev.mig.find? fun g => g.page == va / 2 ^ 16 && (g.asid == asid || glob) with
  | none => .fault 7
  | some g =>
    let line := pa % 2 ^ 16 / 128
    if line < g.prog then physAt s m (g.newFrame + pa % 2 ^ 16)
    else if line = g.prog then .hold
    else physAt s m (g.oldFrame + pa % 2 ^ 16)

/-- How a leaf attributes an access (R211). -/
def attrOf (e : Word) : MemAttr := ⟨pteMt e == 1, pteZ e⟩

/-- The place that a leaf gives an address. -/
def leafLoc (s : State) (asid va : Nat) (e : Word) (block ignoreT : Bool) : Tr :=
  let pa := pteFrame e + (if block then va % 2 ^ 28 else va % 2 ^ 16)
  if pteMt e == 2 then spadLoc s pa
  else if pteT e && !ignoreT then transitLoc s (attrOf e) (pteG e) asid va pa
  else physAt s (attrOf e) pa

/-- `translate(a, acc)` (R4, R212, R317) for an address below 2^52. -/
def translateIn (s : State) (asid ptbase va : Nat) (acc : Acc) (ignoreT : Bool) : Tr × State :=
  match findLeaf s asid ptbase va acc with
  | (.error c, s') => (.fault c, s')
  | (.ok (e, block), s') => (leafLoc s' asid va e block ignoreT, s')

/-- `translate` for the current thread; in system mode addresses are physical (R309). -/
def translate (s : State) (va : Nat) (acc : Acc) : Tr × State :=
  if s.user then translateIn s s.cur.sys.asid.toNat s.cur.sys.ptbase.toNat va acc false
  else (physLoc s va, s)

/-! Reading and writing a place. -/

/-- Whether n bytes at a place are poisoned: the first poisoned line's offset from the place (R321). -/
def locPoison (s : State) (l : Loc) (n : Nat) : Option Nat :=
  match l with
  | .mem pa _ => (s.badLine pa n).map fun line => line * 128 - pa
  | .spad k => (badIn s.core.spadBad k n).map fun line => line * 128 - k
  | .peer pa _ => (badIn s.dev.peerBad pa n).map fun line => line * 128 - pa
  | .hole => some 0
  | .window o => if windowPoison o n then some 0 else none

/-- n bytes at a place. -/
def locRead (s : State) (l : Loc) (n : Nat) : List Byte × State :=
  match l with
  | .mem pa _ => (s.mem.readN pa n, s)
  | .spad k => (s.core.spad.readN k n, s)
  | .window o => windowRead s o n
  | .peer pa _ => peerRead s pa n
  | .hole => (List.replicate n 0, s)

/-- Writing bytes at a place; a write to a hole is discarded (R356). -/
def locPut (s : State) (l : Loc) (bs : List Byte) : State :=
  match l with
  | .mem pa _ => s.putMem pa bs
  | .spad k => s.putSpad k bs
  | .window o => windowWrite s o bs
  | .peer pa _ => peerWrite s pa bs
  | .hole => s

/-- Writing bytes at a place for a thread, with the capture of a replay, for pages of memory type 0 or 2 (R350). -/
def locWrite (s : State) (l : Loc) (bs : List Byte) : State :=
  let page := match l with
    | .mem pa m | .peer pa m => if m.dev then none else some (false, pa)
    | .spad k => some (true, k)
    | _ => none
  match page with
  | none => locPut s l bs
  | some (spad, a) =>
    let s1 := s.capture spad a
    if s1.replayStops spad a then s1 else locPut s1 l bs

/-! The caches see the accesses (R206, R208). -/

/-- A scalar access at a place. -/
def Loc.scalarTouch (l : Loc) (write : Bool) (s : State) : State :=
  match l with
  | .mem pa m => s.scalarTouch pa m write
  | _ => s

/-- A further vector element of a line that the same instruction has had already: the line is read once (R207). -/
def Loc.againTouch (l : Loc) (s : State) : State :=
  match l with
  | .mem pa m => s.vectorTouch pa m .none false false
  | _ => s

/-- A vector element at a place. -/
def Loc.vectorTouch (l : Loc) (p : Placing) (write : Bool) (s : State) : State :=
  match l with
  | .mem pa m => s.vectorTouch pa m p true write
  | _ => s

/-- An AMO at a place: it performs at the first-level data cache (R206). -/
def Loc.amoTouch (l : Loc) (write : Bool) (s : State) : State :=
  match l with
  | .mem pa m => s.vectorTouch pa m .normal false write
  | _ => s

/-- An engine's access. -/
def Loc.engineTouch (l : Loc) (write : Bool) (s : State) : State :=
  match l with
  | .mem pa m => s.engineTouch pa m write
  | _ => s

/-! One access. -/

/-- What one access answers. -/
inductive Res (α : Type) where
  | ok (a : α) (s : State)
  /-- A trap taken directly: CODE and `tval` (R306). -/
  | trap (code : BitVec 8) (tval : Word) (s : State)
  /-- A fault that goes to the fault service: page CODE, virtual address, first poisoned line (R311, R313). -/
  | svc (code : Nat) (va : Nat) (pline : Nat) (s : State)
  /-- The line waits for an engine (R253). -/
  | hold (s : State)
  /-- The Lamplighter stalls: an earlier entry of the VIQ has an access to perform first (R20, R187). -/
  | stall (s : State)

/-- The place of an access, with its poison when it reads (R321). -/
def locate (s : State) (va : Nat) (n : Nat) (acc : Acc) : Res Loc :=
  match translate s va acc with
  | (.fault c, s') => .svc c va (if c = 6 then va / 128 * 128 else 0) s'
  | (.hold, s') => .hold s'
  | (.outside, s') => .trap cOutside (BitVec.ofNat 64 va) s'
  | (.at l, s') =>
    match acc with
    | .write => .ok l s'
    | _ =>
      match locPoison s' l n with
      | some off => .svc 6 va ((va + off) / 128 * 128) s'
      | none => .ok l s'

/-- The checks of R83 and R181: the address range of R6, then alignment. -/
def checkEa (s : State) (ea : Word) (n : Nat) : Option (Res Loc) :=
  if ea.toNat ≥ 2 ^ 52 then some (.trap cRange ea s)
  else if ea.toNat % n ≠ 0 then some (.trap cAlign ea s)
  else none

/-- The checks of a descriptor's address: alignment first, then R6 (R219). -/
def checkDesc (s : State) (ea : Word) (n : Nat) : Option (Res Loc) :=
  if ea.toNat % n ≠ 0 then some (.trap cAlign ea s) else checkEa s ea n

/-! The order of R20 between a scalar access and the entries of the VIQ. -/

/-- n bytes at one place and m bytes at another overlap. -/
def Loc.overlaps (l : Loc) (n : Nat) (k : Loc) (m : Nat) : Bool :=
  let meet (a b : Nat) : Bool := decide (a < b + m ∧ b < a + n)
  match l, k with
  | .mem a _, .mem b _ | .spad a, .spad b | .window a, .window b | .peer a _, .peer b _ => meet a b
  | _, _ => false

/-- The scalar access of n bytes at va overlaps the element of m bytes at an address of the thread: in the address space, or in the
place that both translate to. -/
def State.overlaps (s : State) (va n el m : Nat) : Bool :=
  (s.user && decide (va < el + m ∧ el < va + n)) ||
    match (translate s va .read).1, (translateIn s s.cur.sys.asid.toNat s.cur.sys.ptbase.toNat el .read false).1 with
    | .at l, .at k => l.overlaps n k m
    | _, _ => false

/-- Memory of type 1: device memory, or the control window (R211, R366). -/
def Tr.device : Tr → Bool
  | .at (.mem _ m) | .at (.peer _ m) => m.dev
  | .at (.window _) => true
  | _ => false

/-- A scalar access waits for an entry that is not done: a read for one that stores where it reads, a write for any that accesses memory where
it writes (R20), every access for a `VAMO`, an acquire after its last element (R187), and an access to memory of type 1 for every other one
(R211, R227). An entry whose addresses are not known is waited for whatever the address (DEDUCED, log entry 37). -/
def State.entryBlocks (s : State) (write : Bool) (va n : Nat) (older : List Entry) (e : Entry) : Bool :=
  let device := (translate s va .read).1.device
  !e.fin && e.reaches &&
    (e.major == 21 ||
      match e.spots s older with
      | none => write || e.stores || device
      | some l => l.any fun p =>
          ((write || p.writes) && s.overlaps va n p.addr p.len)
            || (device && (translateIn s s.cur.sys.asid.toNat s.cur.sys.ptbase.toNat p.addr .read false).1.device))

/-- Some entry of a queue blocks the access. -/
def State.queueBlocks (s : State) (write : Bool) (va n : Nat) : List Entry → List Entry → Bool
  | _, [] => false
  | older, e :: r => s.entryBlocks write va n older e || queueBlocks s write va n (older ++ [e]) r

/-- The context in the mode of another. -/
def Ctx.inMode (c : Ctx) (m : Mode) : Ctx := { c with sys := { c.sys with mode := m } }

/-- A scalar access waits for the entries of its thread, and of the threads before it on its context (R20, R173). The monitor waits for no frozen
entry: none starts before the return (R324; DEDUCED, log entry 37). -/
def State.memWaits (s : State) (acc : Acc) (va n : Nat) : Bool :=
  (!s.cur.frozen && s.queueBlocks acc.writes va n [] s.cur.viq) ||
    (s.core.drains.any fun d =>
      d.id == s.cur.id && (s.setCur (d.inMode s.cur.sys.mode)).queueBlocks acc.writes va n [] d.viq)

/-- The place of an aligned scalar access of n bytes. -/
def scalarLoc (s : State) (ea : Word) (n : Nat) (acc : Acc) : Res Loc :=
  match checkEa s ea n with
  | some r => r
  | none => if s.memWaits acc ea.toNat n then .stall s else locate s ea.toNat n acc

/-- One access after another; the first that does not complete is the answer. -/
def Res.bind {α β : Type} (r : Res α) (k : α → State → Res β) : Res β :=
  match r with
  | .ok a s => k a s
  | .trap c t s => .trap c t s
  | .svc c va p s => .svc c va p s
  | .hold s => .hold s
  | .stall s => .stall s

/-- `mem_read(ea, n)` of a scalar, little-endian (R4, R83). -/
def scalarRead (s : State) (ea : Word) (n : Nat) : Res Nat :=
  (scalarLoc s ea n .read).bind fun l s' =>
    let r := locRead (l.scalarTouch false s') l n
    .ok (Memory.leVal r.1) (r.2.noteRead ea.toNat n)

/-- `mem_write(ea, n, v)` of a scalar (R4, R83). -/
def scalarWrite (s : State) (ea : Word) (n v : Nat) : Res Unit :=
  (scalarLoc s ea n .write).bind fun l s' => .ok () (locWrite (l.scalarTouch true s') l (leBytes n v))

/-- Consecutive bytes as loads of the thread (R219): each naturally aligned doubleword is one access. -/
def readDwords (s : State) (ea : Word) : Nat → Res (List Byte)
  | 0 => .ok [] s
  | k + 1 => (scalarRead s ea 8).bind fun v s1 => (readDwords s1 (ea + 8) k).bind fun bs s2 => .ok (leBytes 8 v ++ bs) s2

/-- Writing consecutive doublewords as stores of the thread. -/
def writeDwords (s : State) (ea : Word) : List Nat → Res Unit
  | [] => .ok () s
  | v :: vs => (scalarWrite s ea 8 v).bind fun _ s1 => writeDwords s1 (ea + 8) vs

/-! What a scalar-domain instruction does with an access that does not complete (R311, R312). -/

/-- A scalar access or fetch that faults: a record of one page, and the thread waits; in system mode poison is a monitor fault
(R309) and so is every other fault. -/
def State.scalarSvc (s : State) (source : Nat) (acc : Acc) (code va pline : Nat) : State :=
  if s.user then
    let r := s.newRec source (s.cur.pc.setWidth 64) (2 ^ 32 - 1) [⟨va / 2 ^ 16, code, acc.code⟩] 0 false 0 pline
      (BitVec.ofNat 64 va)
    r.2.setWait (.record r.1)
  else s.monitorFault

/-- The thread waits for another agent; the instruction executes again (R171). -/
def State.park (s : State) : State := s.setWait .event

/-- Continue with the value of an access, or do what R76, R311 and R253 say. A trap or a record leaves the state before the instruction unchanged but
for the walker's A and D bits and the TLBs. A thread whose access waits for a line that an engine owns is parked (DESIGN CHOICE: R171 names it neither
among the stalled nor among the parked; log entry 14). -/
def Res.scalar {α : Type} (r : Res α) (acc : Acc) (k : α → State → State) : State :=
  match r with
  | .ok a s => k a s
  | .trap c t s => s.trap c t
  | .svc c va p s => s.scalarSvc 0 acc c va p
  | .hold s => s.park
  | .stall s => s

end Sys2Proof.Machine
end

