-- ==== Sys2Proof/Machine/Objects.lean ====
section
/-! DEFINITION. Synchronisation objects in memory (R190-R192, R194): their place, and an arrival at a barrier. -/

namespace Sys2Proof.Machine

/-- Where an object stands: its physical address, and how the leaf attributes it. -/
structure ObjPlace where
  pa : Nat
  attr : MemAttr
  deriving DecidableEq, Repr

/-- The place of an object of 16 bytes at a virtual address: the address rules, the placement rule of R190, a translation for
the access, and poison (R192). -/
def objectPlace (acc : Acc) (s : State) (ea : Word) : Res ObjPlace :=
  match checkEa s ea 16 with
  | some r => r.bind fun _ s' => .trap cSyncObj ea s'
  | none =>
    match locate s ea.toNat 16 acc with
    | .trap c t s' => if c = cOutside then .trap cSyncObj ea s' else .trap c t s'
    | r => r.bind fun l s' =>
      match l with
      | .mem pa m =>
        match regionOf pa with
        | .hbm _ => .ok ⟨pa, m⟩ s'
        | _ => .trap cSyncObj ea s'
      | _ => .trap cSyncObj ea s'

/-- The object of a scalar instruction, whose access waits for earlier entries (R20). -/
def objectFor (acc : Acc) (s : State) (ea : Word) : Res ObjPlace :=
  if (checkEa s ea 16).isNone && s.memWaits acc ea.toNat 16 then .stall s else objectPlace acc s ea

/-- The object of an arrival that an entry makes. -/
def objectAt (s : State) (ea : Word) : Res ObjPlace := objectPlace .amo s ea

/-- A 32-bit field of an object. -/
def State.objWord (s : State) (pa k : Nat) : Nat := s.mem.readVal (pa + 4 * k) 4
def State.putObjWord (s : State) (o : ObjPlace) (k v : Nat) : State :=
  locWrite (s.vectorTouch o.pa o.attr .normal false true) (.mem (o.pa + 4 * k) o.attr) (leBytes 4 v)

/-- An arrival (R191): the generation before it; none where the object breaks R192. -/
def arrive (s : State) (o : ObjPlace) : Option (Nat × State) :=
  let left := s.objWord o.pa 0
  let gen := s.objWord o.pa 1
  let count := s.objWord o.pa 2
  if count = 0 ∨ left = 0 ∨ count < left ∨ s.objWord o.pa 3 ≠ 0 then none
  else if left = 1 then some (gen, (s.putObjWord o 0 count).putObjWord o 1 ((gen + 1) % 2 ^ 32))
  else some (gen, s.putObjWord o 0 (left - 1))

end Sys2Proof.Machine
end

