-- ==== Sys2Proof/Machine/Operands.lean ====
section
/-! DEFINITION. Operand forms of the scalar domain: immediates (R37, R81), branch targets (R85), effective addresses (R83). -/

namespace Sys2Proof.Machine

/-- A signed immediate or offset of any width (R27, R37). -/
def sext {n : Nat} (v : BitVec n) : Word := v.signExtend 64

/-- The address of the next instruction. -/
def State.nextPc (s : State) (len : Nat) : BitVec 52 := s.cur.pc + BitVec.ofNat 52 len

/-- `pc + 2 × sext(off)` modulo 2^64 (R85). -/
def State.target (s : State) (off : Word) : Word := s.cur.pc.setWidth 64 + off + off

/-- The range of R6 and R85: none of bits [63:52] is set. -/
def inRange (a : Word) : Bool := decide (a.toNat < 2 ^ 52)

/-- A taken transfer to a 64-bit target: the address-range fault of R85, or `k` and the transfer. -/
def State.jump (s : State) (t : Word) (k : State → State) : State :=
  if inRange t then (k s).transfer (t.setWidth 52) else s.trap cRange t

/-- `(x[a] + sext(off)) mod 2^64` (R83). -/
def State.ea (s : State) (a : BitVec 5) (off : Word) : Word := s.x a + off

end Sys2Proof.Machine
end

