-- ==== Sys2Proof/Machine/Sync.lean ====
section
/-! DEFINITION. The SYNC major (R189): barriers (R190-R193), gangs (R194, R195), messages (R196, R197), `YIELD` and `VSYNC` (R198), and
the wait of a release (R180). -/

namespace Sys2Proof.Machine

/-! Releases. -/

/-- A release waits while an earlier entry that accesses memory has not completed (R180). Nothing lifts this wait in system mode: R309 lifts
those of R19 alone. -/
def State.releaseWaits (s : State) : Bool := s.cur.viq.any Entry.accesses

/-- A release and then `k`; while it waits the Lamplighter stalls. -/
def released (s : State) (k : State) : State := if s.releaseWaits then s else k

/-- What the join half of the instruction at pc has latched for its wait half: the object's address and the generation (R191, R193, log entry
27). -/
def State.latched (s : State) : Option (Word × Nat) :=
  match s.cur.obj with
  | some (pc, ea, g) => if pc = s.cur.pc then some (ea, g) else none
  | none => none

/-- An instruction on the object at `x[a]` (R190): `k` gets its physical address. -/
def onObject (acc : Acc) (ea : Word) (s : State) (k : ObjPlace → State → State) : State := (objectFor acc s ea).scalar acc k

/-! Barriers. -/

/-- `BARINIT` (R191, R192). -/
def execBarinit (o : OpR) (s : State) : Out :=
  .next (withX [o.a, o.b] s (released s (
    let ea := s.x o.a
    let n := (s.x o.b).toNat
    onObject .amo ea s fun pa s1 =>
      if n = 0 ∨ 2 ^ 32 ≤ n then s.trap cSyncObj ea
      else ((((s1.putObjWord pa 3 0).putObjWord pa 2 n).putObjWord pa 1 0).putObjWord pa 0 n).retire 4)))

/-- `BARARR` (R191, R192). -/
def execBararr (o : OpR) (s : State) : Out :=
  .next (withX [o.a] s (released s (
    onObject .amo (s.x o.a) s fun pa s1 =>
      match arrive s1 pa with
      | none => s1.trap cSyncObj (s.x o.a)
      | some (g, s2) => (s2.writeX o.d (BitVec.ofNat 64 g)).retire 4)))

/-- The wait on generation g of the object at ea: `k` gets the generation that ended it (R191). -/
def awaitGen (ea : Word) (g : Nat) (s : State) (k : Nat → State → State) : State :=
  onObject .read ea s fun p s1 => if s1.objWord p.pa 1 = g then s1.park else k (s1.objWord p.pa 1) s1

/-- `BARWAIT` (R191). -/
def execBarwait (o : OpR) (s : State) : Out :=
  .next (withX [o.a, o.b] s (
    awaitGen (s.x o.a) ((s.x o.b).toNat % 2 ^ 32) s fun g s1 => (s1.writeX o.d (BitVec.ofNat 64 g)).retire 4))

/-- The wait half of `BARSYNC`: the object and the generation of the join half, or those that `x[a]` and `x[d]` give where nothing is latched
(R191, R193). The instruction retires here, so `lastd` names its destination from here on (R40). -/
def barsyncWait (o : OpR) (s : State) : State :=
  withX [o.d] s (
    let l := s.latched.getD (s.x o.a, (s.x o.d).toNat % 2 ^ 32)
    awaitGen l.1 l.2 s fun _ s1 => ((s1.setXlast o.d).setObj none).retire 4)

/-- `BARSYNC` (R191-R193). -/
def execBarsync (o : OpR) (s : State) : Out :=
  .next (
    if s.cur.half then barsyncWait o s
    else withX [o.a] s (released s (
      onObject .amo (s.x o.a) s fun pa s1 =>
        match arrive s1 pa with
        | none => s1.trap cSyncObj (s.x o.a)
        | some (g, s2) => barsyncWait o (((s2.putX o.d (BitVec.ofNat 64 g)).setHalf true).setObj (some (s.cur.pc, s.x o.a, g))))))

/-! Gangs. -/

/-- `gangid.GID`, and the fields' word (R194). -/
def gangGid (w : Word) : Nat := (w >>> 4 &&& 15).toNat
def gangWord (gid m n : Nat) : Word := BitVec.ofNat 64 (gid * 16 + m * 4 + (n - 1))

/-- CLUS of the core: die × 16 + cluster (R194). -/
def State.clus (s : State) : Nat := s.cur.u.dieid.toNat * 16 + s.cur.u.coreid.toNat / 4

/-- Word 1 of a gang object (R194). -/
def gangObjWord (gid n clus : Nat) : Nat := gid + n * 2 ^ 8 + clus % 2 ^ 8 * 2 ^ 16

/-- The record of a gang number of the cluster (R195). -/
def State.gangRec (s : State) (gid : Nat) : Option GangRec := s.core.gangs.find? fun g => g.gid == gid

/-- The lowest gang number that is free (R195). -/
def State.freeGang (s : State) : Option Nat := [1, 2].find? fun g => (s.gangRec g).isNone

/-- A member of a gang is on this core, resident or pre-empted (R195). -/
def State.gangHere (s : State) : Bool := s.core.gangs.any (·.here)

/-- The join of member m in the gang of the record (R195). -/
def joinGang (o : OpR) (p : ObjPlace) (ea : Word) (r : GangRec) (m : Nat) (s : State) : State :=
  let s := s.putObjWord p 0 (m + 1)
  let s := s.setU { s.cur.u with gangid := gangWord r.gid m r.size }
  let s := s.setCore { s.core with gangs := s.core.gangs.map fun g => if g.gid = r.gid then { g with here := true } else g }
  ((s.putX o.d (BitVec.ofNat 64 m)).setHalf true).setObj (some (s.cur.pc, ea, 0))

/-- The wait half of `GANG` (R195), at which it retires (R40). -/
def gangWait (o : OpR) (s : State) : State :=
  let ea := (s.latched.map (·.1)).getD (s.x o.a)
  onObject .read ea s fun p s1 =>
    match s1.gangRec (gangGid s1.cur.u.gangid) with
    | none => s1.trap cSyncObj ea
    | some r => if s1.objWord p.pa 0 = r.size then ((s1.setXlast o.d).setObj none).retire 4 else s1.park

/-- `GANG` (R192-R195). -/
def execGang (o : OpR) (s : State) : Out :=
  .next (
    if s.cur.half then gangWait o s
    else withX [o.a, o.b] s (released s (
      let ea := s.x o.a
      let n := (s.x o.b).toNat
      onObject .amo ea s fun p s1 =>
        let joined := s1.objWord p.pa 0
        let w := s1.objWord p.pa 1
        if s1.cur.u.gangid ≠ 0 ∨ n < 2 ∨ 4 < n ∨ s1.gangHere then s1.trap cSyncObj ea
        else if joined = 0 then
          match s1.freeGang with
          | none => s1.park
          | some gid =>
            let r : GangRec := { gid := gid, obj := p.pa, va := ea, size := n, here := false }
            let s2 := s1.setCore { s1.core with gangs := s1.core.gangs ++ [r] }
            let s3 := s2.putObjWord p 1 (gangObjWord gid n s.clus)
            gangWait o (joinGang o p ea r 0 s3)
        else
          match s1.gangRec (w % 2 ^ 8) with
          | none => s1.trap cSyncObj ea
          | some r =>
            if r.obj ≠ p.pa ∨ w / 2 ^ 8 % 2 ^ 8 ≠ n ∨ w / 2 ^ 16 % 2 ^ 8 ≠ s.clus % 2 ^ 8 ∨ r.size ≤ joined then
              s1.trap cSyncObj ea
            else gangWait o (joinGang o p ea r joined s1))))

/-- n more members of the gang of a record have left: with the last one the object and the gang number are free (R195). -/
def State.departed (s : State) (r : GangRec) (n : Nat) : State :=
  let d := (s.objWord r.obj 2 + n) % 2 ^ 32
  let p : ObjPlace := ⟨r.obj, .normal⟩
  if d = r.size then
    let s := (((s.putObjWord p 0 0).putObjWord p 1 0).putObjWord p 2 0).putObjWord p 3 0
    s.setCore { s.core with gangs := s.core.gangs.filter fun g => g.gid != r.gid }
  else s.putObjWord p 2 d

/-- The leave of the current thread from the gang of a record (R195). -/
def State.leave (s : State) (r : GangRec) : State :=
  let s1 := s.setU { s.cur.u with gangid := 0 }
  let s2 := s1.setCore { s1.core.dropParts s1.cur.id with
    mates := []
    gangs := s1.core.gangs.map fun g => if g.gid = r.gid then { g with here := false } else g }
  s2.departed r 1

/-- The leave that an `EXIT` performs (R195). -/
def State.leaveGang (s : State) : State :=
  match s.gangRec (gangGid s.cur.u.gangid) with
  | some r => if gangGid s.cur.u.gangid = 0 then s else s.leave r
  | none => s

/-- A gang operation that the thread has issued, or that is aimed at it, is outstanding (R195). -/
def State.gangBusy (s : State) : Bool :=
  (s.core.parts.any fun p => p.ctx == s.cur.id) || (s.cur.viq.any fun e => e.gangOperand.isSome)
    || s.core.aimed.any fun q => q.ctx == s.cur.id

/-- A thread that has retired `EXIT` leaves its gang when its queue is empty and no gang operation of it or aimed at it is outstanding (R23, R195). -/
def State.leaveLate (s : State) : State :=
  if s.cur.thr.ended == some false && s.cur.viq.isEmpty && !s.gangBusy then s.leaveGang else s

/-- `GLEAVE` (R192, R195). -/
def execGleave (o : OpR) (s : State) : Out :=
  .next (withX [o.a] s (released s (
    let ea := s.x o.a
    onObject .amo ea s fun p s1 =>
      match s1.gangRec (gangGid s1.cur.u.gangid) with
      | none => s1.trap cSyncObj ea
      | some r =>
        if gangGid s1.cur.u.gangid = 0 ∨ r.obj ≠ p.pa then s1.trap cSyncObj ea
        else if s1.gangBusy then s
        else (s1.leave r).retire 4)))

/-! Messages. -/

/-- Messages that a mailbox holds (R196). -/
def mailRoom : Nat := 16

/-- The mailbox of a context with one more message. -/
def Ctx.mail (c : Ctx) (m : Word × Word) : Ctx := { c with thr := { c.thr with mailbox := c.thr.mailbox ++ [m] } }

/-- The context holds the live thread `tid`. -/
def Ctx.isThread (c : Ctx) (tid : Word) : Bool := c.thr.live && c.u.tid == tid

/-- A message put into the mailbox of a live thread, resident or pre-empted, and the status (R196). -/
def State.send (s : State) (target : Word) (m : Word × Word) : Word × State :=
  if s.cur.isThread target then
    (if mailRoom ≤ s.cur.thr.mailbox.length then (1, s) else (0, s.setCur (s.cur.mail m)))
  else if s.oth.isThread target then
    (if mailRoom ≤ s.oth.thr.mailbox.length then (1, s) else (0, s.setOth (s.oth.mail m)))
  else
    match s.core.saved.find? (·.isThread target) with
    | some c =>
      if mailRoom ≤ c.thr.mailbox.length then (1, s)
      else (0, s.setCore { s.core with saved := s.core.saved.map fun d => if d.isThread target then d.mail m else d })
    | none =>
      match s.dev.others.find? fun t => t.tid == target with
      | none => (2, s)
      | some t =>
        if mailRoom ≤ t.mailbox.length then (1, s)
        else (0, s.setDev { s.dev with
          others := s.dev.others.map fun u => if u.tid = target then { u with mailbox := u.mailbox ++ [m] } else u })

/-- `MSGSND` (R196). -/
def execMsgsnd (o : OpR) (s : State) : Out :=
  .next (withX [o.a, o.b] s (released s (
    let r := s.send (s.x o.a) (s.cur.u.tid, s.x o.b)
    (r.2.writeX o.d r.1).retire 4)))

/-- The results of a receive: payload and sender (R196). -/
def received (o : OpR) (payload sender : Word) (s : State) : State :=
  let s := s.writeX o.d payload
  (if o.a = o.d then s else s.putX o.a sender).retire 4

/-- `MSGRCV` (R196). -/
def execMsgrcv (o : OpR) (s : State) : Out :=
  .next (
    match s.cur.thr.mailbox with
    | [] => s.park
    | m :: ms => received o m.2 m.1 (s.setThr { s.cur.thr with mailbox := ms }))

/-- `MSGTRY` (R196). -/
def execMsgtry (o : OpR) (s : State) : Out :=
  .next (
    match s.cur.thr.mailbox with
    | [] => received o 0 allOnes s
    | m :: ms => received o m.2 m.1 (s.setThr { s.cur.thr with mailbox := ms }))

/-! Yielding and draining. -/

/-- The context can issue: a thread is resident and does not wait (R170, R171). -/
def Ctx.runnable (c : Ctx) : Bool := c.thr.live && c.thr.wait == .none

/-- `YIELD` (R198): the other context, if it can, issues next. -/
def execYield (_ : OpR) (s : State) : Out :=
  .next (
    let s := s.retire 4
    if s.oth.runnable then { s.swap with forced := true } else s)

/-- `VSYNC` (R198): it stalls until every entry has completed. -/
def execVsync (_ : OpR) (s : State) : Out := .next (if s.cur.viq.isEmpty then s.retire 4 else s)

end Sys2Proof.Machine
end

