-- ==== Sys2Proof/Machine/Amo.lean ====
section
/-! DEFINITION. The AMO major (R181-R185). One core that runs its instructions in order shows every agent the order of its accesses, so
a scope changes nothing here beyond the wait of a release (R178-R180; log entry 3). -/

namespace Sys2Proof.Machine

/-- The bytes of an operation: `.W` 4, `.D` 8 (R181). -/
def amoSize (o : OpAmo) : Nat := if o.w = 0 then 4 else 8

/-- One access of the major (R181): address checks, watchpoints (R339), translation, and `k` with the place. -/
def amoAccess (o : OpAmo) (acc : Acc) (reads : Bool) (s : State) (k : Loc → State → State) : State :=
  let n := amoSize o
  let ea := s.x o.a
  watched s (checkEa s ea n).isNone ea.toNat n reads acc.writes fun s => (scalarLoc s ea n acc).scalar acc k

/-- The word at a place, and the state after the read. -/
def amoRead (o : OpAmo) (l : Loc) (s : State) : Nat × State :=
  let r := locRead (l.amoTouch false s) l (amoSize o)
  (Memory.leVal r.1, r.2.noteRead (s.x o.a).toNat (amoSize o))

/-- A read and a write in one step (R182, R183): `f` gives the new word from the old one and the operand, none where memory keeps
its value. `x[d]` receives the old word. -/
def amoEffect (o : OpAmo) (f : Nat → Nat → Option Nat) (l : Loc) (s : State) : State :=
  let n := amoSize o
  let r := amoRead o l s
  let s2 := match f r.1 ((s.x o.b).toNat % 2 ^ (8 * n)) with
    | some v => locWrite (l.amoTouch true r.2) l (leBytes n (v % 2 ^ (8 * n)))
    | none => r.2
  (s2.writeX o.d (BitVec.ofNat 64 r.1)).retire 4

/-- An AMO: its checks and waits, and its step. -/
def amoRmw (o : OpAmo) (rs : List (BitVec 5)) (f : Nat → Nat → Option Nat) (s : State) : Out :=
  .next (withX rs s (released s (amoAccess o .amo true s (amoEffect o f))))

/-- The signed value of n bytes. -/
def signedOf (n v : Nat) : Int := (BitVec.ofNat (8 * n) v).toInt

/-- `LDAQ` (R182). -/
def execLdaq (o : OpAmo) (s : State) : Out :=
  .next (withX [o.a] s (
    amoAccess o .read true s fun l s1 =>
      let r := amoRead o l s1
      (r.2.writeX o.d (BitVec.ofNat 64 r.1)).retire 4))

/-- `STRL` (R182). -/
def execStrl (o : OpAmo) (s : State) : Out :=
  .next (withX [o.a, o.b] s (released s (
    amoAccess o .write false s fun l s1 =>
      (locWrite (l.amoTouch true s1) l (leBytes (amoSize o) ((s.x o.b).toNat % 2 ^ (8 * amoSize o)))).retire 4)))

/-- `AMOADD` (R182). -/
def execAmoadd (o : OpAmo) (s : State) : Out := amoRmw o [o.a, o.b] (fun w b => some (w + b)) s
/-- `AMOSWAP` (R182). -/
def execAmoswap (o : OpAmo) (s : State) : Out := amoRmw o [o.a, o.b] (fun _ b => some b) s
/-- `AMOAND` (R182). -/
def execAmoand (o : OpAmo) (s : State) : Out := amoRmw o [o.a, o.b] (fun w b => some (w &&& b)) s
/-- `AMOOR` (R182). -/
def execAmoor (o : OpAmo) (s : State) : Out := amoRmw o [o.a, o.b] (fun w b => some (w ||| b)) s
/-- `AMOMIN` (R182). -/
def execAmomin (o : OpAmo) (s : State) : Out :=
  amoRmw o [o.a, o.b] (fun w b => some (if signedOf (amoSize o) b < signedOf (amoSize o) w then b else w)) s
/-- `AMOMAX` (R182). -/
def execAmomax (o : OpAmo) (s : State) : Out :=
  amoRmw o [o.a, o.b] (fun w b => some (if signedOf (amoSize o) w < signedOf (amoSize o) b then b else w)) s
/-- `AMOCAS`: the comparand is `x[d]` (R182). -/
def execAmocas (o : OpAmo) (s : State) : Out :=
  amoRmw o [o.a, o.b, o.d] (fun w b => if w = (s.x o.d).toNat % 2 ^ (8 * amoSize o) then some b else none) s
/-- The new word of `AMOBINC`. -/
def bincNew (w b : Nat) : Option Nat := if w < b then some (w + 1) else none

/-- `AMOBINC` (R182); of peers only a Phizon device performs it (R370). -/
def execAmobinc (o : OpAmo) (s : State) : Out :=
  .next (withX [o.a, o.b] s (released s (
    amoAccess o .amo true s fun l s1 =>
      match l with
      | .peer pa m =>
        if s1.phizonPeer pa then amoEffect o bincNew (.peer pa m) s1 else s1.trap cOutside (s.x o.a)
      | l => amoEffect o bincNew l s1)))

/-- `FENCE` (R184). -/
def execFence (_ : OpAmo) (s : State) : Out := .next (released s (s.retire 4))

/-- `WAITA` (R185). -/
def execWaita (o : OpAmo) (s : State) : Out :=
  .next (withX [o.a, o.b] s (
    amoAccess o .read true s fun l s1 =>
      let r := amoRead o l s1
      if r.1 ≠ (s.x o.b).toNat % 2 ^ (8 * amoSize o) ∨ r.2.cur.thr.mailbox ≠ [] then
        (r.2.writeX o.d (BitVec.ofNat 64 r.1)).retire 4
      else r.2.park))

end Sys2Proof.Machine
end

