-- ==== Sys2Proof/Machine/Area.lean ====
section
/-! DEFINITION. The context area of R327 and the units that the contexts of a core share: their content in the area, and the
hand-over of R236 and R281. The offsets inside the header and inside the 4 KiB block at 0x2000 are the model's (log entry 17). -/

namespace Sys2Proof.Machine

/-! Places in the area. -/

def areaFlags : Nat := 0x78
def areaTags : Nat := 0x80
def areaViq : Nat := 0x1000
def areaTs : Nat := 0x2000
def areaTumbler : Nat := 0x2200
def areaHinge : Nat := 0x2280
def areaTopk : Nat := 0x22C0
def areaSlots : Nat := 0x2400
def areaCopies : Nat := 0x3000
def areaCands : Nat := 0x8000
def areaValid : Nat := 0xC000
def areaTiles : Nat := 0x10000
def areaKeyed : Nat := 0x20000
def areaLanes : Nat := 0x60000
def areaMasks : Nat := 0xA0000
def areaVectors : Nat := 0x120000

/-- The context area of a context. -/
def Ctx.area (c : Ctx) : Nat := c.sys.ctxarea.toNat

/-- A word in the area. -/
def State.areaWord (s : State) (a : Nat) : Nat := s.mem.readVal a 8
def State.putAreaWord (s : State) (a v : Nat) : State := s.putMem a (leBytes 8 v)

/-! Who holds a unit. -/

/-- The flag of a unit in a context area's header (R327). -/
def State.unitFlag (s : State) (c : Ctx) (u : UnitId) : Bool := (s.areaWord (c.area + areaFlags)).testBit u.bit
def State.setUnitFlag (s : State) (c : Ctx) (u : UnitId) (b : Bool) : State :=
  let w := s.areaWord (c.area + areaFlags)
  let w0 := if w.testBit u.bit then w - 2 ^ u.bit else w
  s.putAreaWord (c.area + areaFlags) (if b then w0 + 2 ^ u.bit else w0)

/-- The dirty bit of a unit that has one (R9, R236). -/
def Ctx.unitDirty (c : Ctx) : UnitId → Bool
  | .keyed => c.u.xdirty.getLsbD 20
  | .lanes => c.u.xdirty.getLsbD 21
  | _ => true

/-! Content as bytes. -/

/-- A stream half as the 32 bytes of R292. -/
def StreamHalf.bytes (h : StreamHalf) : List Byte :=
  leBytes 8 h.addr.toNat ++ leBytes 4 h.pos ++ leBytes 4 h.rem ++ leBytes 4 h.last ++ leBytes 4 h.limit ++ leBytes 4 h.cbase
    ++ leBytes 2 h.bit ++ leBytes 1 h.enc ++ leBytes 1 h.state

/-- The stream half in the 32 bytes from byte a on. -/
def StreamHalf.ofBytes (bs : List Byte) (a : Nat) : StreamHalf :=
  { addr := BitVec.ofNat 64 (fieldAt bs a 8), pos := fieldAt bs (a + 8) 4, rem := fieldAt bs (a + 0xC) 4,
    last := fieldAt bs (a + 0x10) 4, limit := fieldAt bs (a + 0x14) 4, cbase := fieldAt bs (a + 0x18) 4,
    bit := fieldAt bs (a + 0x1C) 2, enc := fieldAt bs (a + 0x1E) 1, state := fieldAt bs (a + 0x1F) 1 }

/-- A binding as the 64 bytes of R283. -/
def Binding.bytes (b : Binding) : List Byte :=
  leBytes 8 b.classtab.toNat ++ leBytes 8 b.maptab.toNat ++ leBytes 4 b.nsym ++ leBytes 2 b.nclass ++ leBytes 2 b.states
    ++ leBytes 40 0

/-- The binding that a descriptor gives (R283). -/
def Binding.ofBytes (bs : List Byte) : Binding :=
  ⟨BitVec.ofNat 64 (fieldAt bs 0 8), BitVec.ofNat 64 (fieldAt bs 8 8), fieldAt bs 0x10 4, fieldAt bs 0x14 2, fieldAt bs 0x16 2⟩

/-- Writing the content of a unit to a context area, as its dirty bit says (R236). Poison goes with it. -/
def State.saveUnit (s : State) (c : Ctx) (u : UnitId) : State :=
  let a := c.area
  if !c.unitDirty u then s
  else
    match u with
    | .keyed =>
      let s1 := s.putMem (a + areaValid) ((List.range 16384).map fun n =>
        if s.core.keyed.any fun k => k.slot == n then 1 else 0)
      let s2 := s.core.keyed.foldl (fun s k => s.putMem (a + areaKeyed + 16 * k.slot) (leBytes 8 k.key ++ leBytes 8 k.val)) s1
      s.core.keyedBad.foldl (fun s n => s.poisonLine ((a + areaKeyed + 16 * n) / 128)) s2
    | .lanes =>
      let s1 := s.putMem (a + areaLanes) (s.core.lanes.readN 0 (64 * 4096))
      (List.range 64).foldl (fun s l =>
        if s1.core.lanesBad.getLsbD l then s.poisonLine ((a + areaLanes + 4096 * l) / 128) else s) s1
    | .topk =>
      let t := s.core.topk
      if t.k = 0 then s
      else
        let s1 := s.putMem (a + areaTopk) (leBytes 8 t.k ++ leBytes 8 t.base.toNat ++ leBytes 8 t.cands.length)
        s1.putMem (a + areaCands) (t.cands.map fun x => leBytes 8 x.1 ++ leBytes 8 x.2).flatten
    | .tumbler =>
      match s.core.tumbler with
      | none => s.putAreaWord (a + areaTumbler + 64) 0
      | some b => s.putMem (a + areaTumbler) (b.bytes ++ leBytes 8 1)
    | .hinge => s.putMem (a + areaHinge) (s.core.hinge.1.bytes ++ s.core.hinge.2.bytes)

/-- n bytes of an area cannot be read: a poisoned line (R321), a lost die (R376), or an address that R356 assigns to nothing. -/
def State.areaBad (s : State) (a n : Nat) : Bool :=
  (s.badLine a n).isSome || [a, a + n - 1].any fun p =>
    match regionOf p with
    | .hbm d => s.dev.dieLost d
    | .hole => true
    | _ => false

/-- Loading the content of a unit from a context area, whose flag says that it was written there. -/
def State.loadUnit (s : State) (c : Ctx) (u : UnitId) : State :=
  let a := c.area
  let s0 := s.setCore (s.core.startUnit u)
  match u with
    | .keyed =>
      let slots := (List.range 16384).filter fun n => s.mem.read (a + areaValid + n) != 0
      s0.setCore { s0.core with
        keyed := slots.map fun n =>
          ⟨n, s.mem.readVal (a + areaKeyed + 16 * n) 8, s.mem.readVal (a + areaKeyed + 16 * n + 8) 8⟩
        keyedBad := slots.filter fun n => s.areaBad (a + areaKeyed + 16 * n) 16 }
    | .lanes =>
      s0.setCore { s0.core with
        lanes := Memory.write [] 0 (s.mem.readN (a + areaLanes) (64 * 4096))
        lanesBad := (List.range 64).foldl (fun (w : Word) l =>
          if s.areaBad (a + areaLanes + 4096 * l) 4096 then w ||| (1#64 <<< l) else w) 0 }
    | .topk =>
      let n := s.areaWord (a + areaTopk + 16)
      s0.setCore { s0.core with
        topk := ⟨s.areaWord (a + areaTopk), BitVec.ofNat 64 (s.areaWord (a + areaTopk + 8)),
          (List.range (min n 1024)).map fun i => (s.areaWord (a + areaCands + 16 * i), s.areaWord (a + areaCands + 16 * i + 8))⟩ }
    | .tumbler =>
      if s.areaWord (a + areaTumbler + 64) = 0 then s0
      else s0.setCore { s0.core with tumbler := some (Binding.ofBytes (s.mem.readN (a + areaTumbler) 64)) }
    | .hinge =>
      let bs := s.mem.readN (a + areaHinge) 64
      s0.setCore { s0.core with hinge := (StreamHalf.ofBytes bs 0, StreamHalf.ofBytes bs 32) }

/-- The unit of a context is at its start state, so that a save may leave it out (R281, R329); a clean keyed store or lane-table set is (R9). -/
def State.unitAtStart (s : State) (c : Ctx) : UnitId → Bool
  | .keyed => !c.unitDirty .keyed
  | .lanes => !c.unitDirty .lanes
  | .topk => s.core.topk.k == 0
  | .tumbler => s.core.tumbler.isNone
  | .hinge => s.core.hinge == (StreamHalf.start, StreamHalf.start)

/-- The claim of a unit would load poisoned items that carry no poison mark of their own: the flags, the valid bits of the keyed store, the
top-k unit, the Tumbler binding, the Hinge cursor. The instruction raises the poison trap instead (DEDUCED from R321, log entry 17). -/
def State.claimBad (s : State) (u : UnitId) : Bool :=
  let a := s.cur.area
  s.core.heldBy u != some s.cur.id && (s.areaBad (a + areaFlags) 8 || (s.unitFlag s.cur u &&
    match u with
    | .keyed => s.areaBad (a + areaValid) 16384
    | .lanes => false
    | .topk => s.areaBad (a + areaTopk) 24 || s.areaBad (a + areaCands) 16384
    | .tumbler => s.areaBad (a + areaTumbler) 72
    | .hinge => s.areaBad (a + areaHinge) 64))

/-- The claim of a unit for the current context, with the hand-over of R236. -/
def State.claim (s : State) (u : UnitId) : State :=
  if s.core.heldBy u = some s.cur.id then s
  else
    let s1 := match s.core.heldBy u with
      | some _ => (s.saveUnit s.oth u).setUnitFlag s.oth u (!s.unitAtStart s.oth u)
      | none => s
    let s2 := if s1.unitFlag s1.cur u then (s1.loadUnit s1.cur u).setUnitFlag s1.cur u false
      else s1.setCore (s1.core.startUnit u)
    s2.setCore (s2.core.setHeld (some s.cur.id) u)

/-- The unit that an instruction claims at its push (R236, R281). -/
def Entry.unit (e : Entry) : Option UnitId :=
  match e.major with
  | 26 => if e.f5 ≤ 5 then some .keyed else some .lanes
  | 27 => if e.f5 ≤ 4 then some .tumbler else some .hinge
  | 23 => if 22 ≤ e.f5 then some .topk else none
  | _ => none

/-- A thread that has given its context to the next lot still has entries that use a unit, so no other thread gets it (R236, log entry 42). -/
def State.unitDrains (s : State) (u : UnitId) : Bool := s.core.drains.any fun d => d.viq.any fun e => e.unit == some u

/-- Marking a unit dirty (R9, R236). -/
def State.dirtyUnit (s : State) (b : Nat) : State := s.setU { s.cur.u with xdirty := s.cur.u.xdirty ||| (1#64 <<< b) }

end Sys2Proof.Machine
end

