-- ==== Sys2Proof/Machine/CoreStore.lean ====
section
/-! DEFINITION. The core store (R200, R201) and the vector configuration instructions (R100-R103). -/

namespace Sys2Proof.Machine

/-- Extension banks that a register length needs (R201). -/
def extNeed (rlen : Nat) : Nat := (48 * rlen - 98304 + 65535) / 65536

/-- The cache banks in descending bank number. -/
def CoreRes.cacheBanks (c : CoreRes) : List Nat := ((List.range 40).filter fun b => c.banks.getD b 0 == 0).reverse

/-- Banks of a list take a role. -/
def CoreRes.setRole (c : CoreRes) (bs : List Nat) (role : Nat) : CoreRes :=
  { c with banks := c.banks.mapIdx fun b r => if bs.contains b then role else r }

/-- Scratchpad bytes of some banks are gone; a bank that becomes scratchpad reads 0 (R203). -/
def CoreRes.wipe (c : CoreRes) (bs : List Nat) : CoreRes :=
  { c with
    spad := c.spad.filter fun cell => !bs.contains (cell.1 / 2 ^ 16)
    spadBad := c.spadBad.filter fun l => !bs.contains (l / 512) }

/-- The banks that a context can hold at most: those it has and every cache bank but one (R201). -/
def State.extRoom (s : State) : Nat := s.cur.ext.length + (s.core.cacheBanks.length - 1)

/-- The largest length of at most `want` KiB, from `held` KiB on, whose banks the core store can lend (R102); lengths are powers
of two. -/
def grant (s : State) (old want : Nat) : Nat :=
  ((List.range 5).map fun k => 2048 <<< k).foldl
    (fun best l => if old ≤ l ∧ l ≤ want ∧ extNeed l ≤ s.extRoom then max best l else best) old

/-- The current context holds exactly the banks of a length: it takes cache banks in descending number, whose dirty lines
are written back, or gives the ones that it took last back to the cache role, empty (R201). -/
def State.resizeExt (s : State) (rlen : Nat) : State :=
  let n := extNeed rlen
  let held := s.cur.ext
  if held.length ≤ n then
    let more := s.core.cacheBanks.take (n - held.length)
    let c := (s.emptyBanks more).setCore (s.core.setRole more 3)
    c.setCur { c.cur with ext := held ++ more }
  else
    let c := s.setCore (s.core.setRole (held.drop n) 0)
    c.setCur { c.cur with ext := held.take n }

/-- `v0`–`v31` and `m0`–`m15` at their start values, their dirty bits clear (R102). -/
def State.clearFiles (s : State) : State :=
  s.setCur { s.cur with
    v := Vector.replicate 32 VReg.start
    m := Vector.replicate 16 0
    u := { s.cur.u with vdirty := 0, xdirty := s.cur.u.xdirty &&& ~~~0xFFFF#64 }
    poison := { s.cur.poison with v := 0, m := 0 } }

/-- The effect of R101 for a request that is legal. A change of the register length stalls until every earlier entry has completed, in either
mode (R102). -/
def configure (len : Nat) (d : BitVec 5) (avl : Nat) (req : Word) (s : State) : State :=
  let old := s.cur.u.rlen.toNat
  let want := if (req >>> 8) &&& 7 = 0 then old else 1024 <<< ((req >>> 8) &&& 7).toNat
  let l := if want ≤ old then want else grant s old want
  if l ≠ old ∧ !s.cur.viq.isEmpty then s
  else
    let s := if l = old then s else (s.resizeExt l).clearFiles
    let max := l * (1 <<< ((req >>> 2) &&& 3).toNat) / (1 <<< (req &&& 3).toNat)
    let vl := min avl max
    let s := s.setU { s.cur.u with
      vtype := (req &&& 0xFF) ||| (BitVec.ofNat 64 (Nat.log2 (l / 1024)) <<< 8)
      rlen := BitVec.ofNat 64 l
      vlmax := BitVec.ofNat 64 max
      vl := BitVec.ofNat 64 vl }
    ((s.setCur { s.cur with convoy := none }).writeX d (BitVec.ofNat 64 vl)).retire len

/-- `VCFG` (R100, R101). -/
def execVcfg (o : OpVc) (s : State) : Out := .next (withX [o.a] s (configure 4 o.d (s.x o.a).toNat (o.t.setWidth 64) s))

/-- The encoding of `VCFGR` (R100). -/
def codeVcfgr (o : OpR) : Code := .word (std 12 false (bodyR o.d o.a o.b 0x100))

/-- `VCFGR` (R100, R101). -/
def execVcfgr (o : OpR) (s : State) : Out :=
  .next (withX [o.a, o.b] s (
    let req := s.x o.b
    if req >>> 11 ≠ 0 ∨ 6 ≤ ((req >>> 8) &&& 7).toNat then s.illegal (codeVcfgr o)
    else configure 4 o.d (s.x o.a).toNat req s))

end Sys2Proof.Machine
end

