-- ==== Sys2Proof/Machine/Mover.lean ====
section
/-! DEFINITION. The context mover (R327-R329, R221, R262). Offsets inside the header are the model's (log entry 17). -/

namespace Sys2Proof.Machine

/-! VIQ images (R328). -/

/-- WORD of a code: a wide form's second word above. -/
def imageWord : Code → Nat
  | .half h => h.toNat
  | .word w => w.toNat
  | .wide w v => w.toNat + v.toNat * 2 ^ 32

/-- Bits 14 and 13 of FLAGS: the loop check of the push has overtaken the entry's write of the `x` register of field a or b (DESIGN CHOICE, log
entry 17). -/
def Entry.deadBits (e : Entry) : Nat := 2 ^ 14 * (e.dead.contains e.fd.toNat).toNat + 2 ^ 13 * (e.dead.contains e.fb.toNat).toNat

/-- The registers that these bits name, for the word w. -/
def imageDead (w flags : Nat) : List Nat :=
  (if flags.testBit 14 then [w / 2 ^ 8 % 32] else []) ++ (if flags.testBit 13 then [w / 2 ^ 18 % 32] else [])

/-- The 64 bytes of an entry image (R328). Bit 15 of FLAGS says that the entry has finished and waits for older ones to complete (DESIGN
CHOICE, log entry 17). -/
def Entry.image (e : Entry) : List Byte :=
  leBytes 8 (imageWord e.code) ++ leBytes 8 (e.addr.toNat + (if e.conv then 2 ^ 63 else 0)) ++ leBytes 8 e.xa.toNat
    ++ leBytes 8 e.xb.toNat ++ leBytes 8 e.fmt.toNat ++ leBytes 4 e.vl ++ leBytes 4 e.vstart
    ++ leBytes 2 (e.vtype.toNat % 2 ^ 11) ++ leBytes 2 (e.flags.toNat % 2 ^ 9 + 2 ^ 15 * (e.fin && e.vstart < e.total).toNat + e.deadBits) ++ leBytes 4 e.seq
    ++ leBytes 8 e.reissue.toNat

/-- The entry in an image. Only its low 32 bits of the sequence number are there; `base` has the higher ones. -/
def Entry.ofImage (bs : List Byte) (base : Nat) : Entry :=
  let w := fieldAt bs 0 8
  let a := fieldAt bs 8 8
  { code := if w % 4 = 3 then .wide (BitVec.ofNat 32 w) (BitVec.ofNat 32 (w / 2 ^ 32)) else .word (BitVec.ofNat 32 w)
    addr := BitVec.ofNat 52 a, conv := a.testBit 63
    xa := BitVec.ofNat 64 (fieldAt bs 0x10 8), xb := BitVec.ofNat 64 (fieldAt bs 0x18 8)
    fmt := BitVec.ofNat 64 (fieldAt bs 0x20 8), vl := fieldAt bs 0x28 4, vstart := fieldAt bs 0x2C 4
    vtype := BitVec.ofNat 64 (fieldAt bs 0x30 2), flags := BitVec.ofNat 64 (fieldAt bs 0x32 2 % 2 ^ 9)
    seq := base, reissue := (fieldAt bs 0x38 8).testBit 0, rid := none, fin := (fieldAt bs 0x32 2).testBit 15
    first := fieldAt bs 0x2C 4, pins := [], upto := 0, seen := [], dead := imageDead w (fieldAt bs 0x32 2) }

/-! Tile stream registers, copies and prefetch slots. -/

/-- 64 bytes of a tile stream register. -/
def TileStream.image (t : TileStream) : List Byte :=
  leBytes 8 t.base.toNat ++ leBytes 8 t.rstride.toNat ++ leBytes 4 t.estride.toNat ++ leBytes 2 t.rows ++ leBytes 2 t.rowlen
    ++ leBytes 8 t.tstep.toNat ++ leBytes 8 (t.bar.getD 0).toNat ++ leBytes 8 (t.live.toNat + 2 * t.bar.isSome.toNat)
    ++ leBytes 16 0

def TileStream.ofImage (bs : List Byte) : TileStream :=
  let f := fieldAt bs 0x28 8
  { live := f.testBit 0, base := BitVec.ofNat 64 (fieldAt bs 0 8), rstride := BitVec.ofNat 64 (fieldAt bs 8 8),
    estride := BitVec.ofNat 32 (fieldAt bs 0x10 4), rows := fieldAt bs 0x14 2, rowlen := fieldAt bs 0x16 2,
    tstep := BitVec.ofNat 64 (fieldAt bs 0x18 8),
    bar := if f.testBit 1 then some (BitVec.ofNat 64 (fieldAt bs 0x20 8)) else none }

/-- The 320 bytes of a tag's copy slot: block, cursor, output so far, flags, what kind of copy runs, and its rank in the order of issue of the
thread's copies. -/
def copyImage (vcommit rank : Nat) (status : Word) (j : Option CopyJob) : List Byte :=
  match j with
  | none => List.replicate 256 0 ++ leBytes 8 0 ++ leBytes 8 status.toNat ++ leBytes 48 0
  | some c =>
    c.block ++ leBytes 8 c.cur ++ leBytes 8 status.toNat
      ++ leBytes 8 (1 + 2 * c.red.toNat + 4 * c.phys.toNat + 8 * c.spill.toNat + 16 * rank) ++ leBytes 8 c.out ++ leBytes 8 c.flags.toNat
      ++ leBytes 8 c.asid ++ leBytes 8 c.ptbase ++ leBytes 8 (c.iaddr.toNat + min 64 (c.after - vcommit) * 2 ^ 52)

/-- The 192 bytes of a prefetch slot: descriptor, its address, lead, cons, lines issued, all of which have arrived, the ending write. -/
def slotImage (j : Option PfSlot) : List Byte :=
  match j with
  | none => List.replicate 192 0
  | some p =>
    p.desc ++ leBytes 8 (1 + 2 * p.phys.toNat + 4 * p.ending.isSome.toNat + p.iaddr.toNat * 2 ^ 12) ++ leBytes 8 p.addr.toNat
      ++ leBytes 4 p.lead ++ leBytes 4 ((p.ending.getD (0, 0)).1 + 16 * (p.ending.getD (0, 0)).2) ++ leBytes 8 p.cons
      ++ leBytes 8 p.pos ++ leBytes 8 p.asid ++ leBytes 8 p.ptbase ++ leBytes 8 p.pos

/-! Lines that a copy will write (R253). -/

/-- The lines of n elements of a stream from e on, by `Loc.lineKey`, where they translate. -/
def copyLines (s : State) (asid ptbase : Nat) (phys transit : Bool) (acc : Acc) (d : Stream) (e n : Nat) : List Nat :=
  let s0 := s.setCore { s.core with copies := [] }
  (List.range n).foldl (fun (a : List Nat) k =>
    (linesOf (d.addr (e + k)) d.esz).foldl (fun a l =>
      if 2 ^ 45 ≤ l then a
      else
        match (if phys then physLoc s0 (l * 128) else (translateIn s0 asid ptbase (l * 128) acc transit).1) with
        | .at p => match p.lineKey with
          | some n => if a.contains n then a else n :: a
          | none => a
        | _ => a) a) []

/-- The destination stream of a copy block, and the source. -/
def CopyJob.dst (c : CopyJob) : Stream := Stream.ofBytes c.block 128
def CopyJob.src (c : CopyJob) : Stream := Stream.ofBytes c.block 0
/-- The copy owns the lines of the destination elements that are not written; with COMP the capacity counts in its one dimension, and all of
it is owned to the end (R253, R255). -/
def CopyJob.ownFrom (c : CopyJob) (s : State) : CopyJob :=
  let d := c.dst
  let e := if ctlComp d.ctl then 0 else c.cur
  { c with own := copyLines s c.asid c.ptbase c.phys false .write d e (d.elems - e) }

/-- The source lines that the copy has still to read. -/
def CopyJob.toRead (c : CopyJob) (s : State) : List Nat :=
  (copyLines s c.asid c.ptbase c.phys (ctlTransit c.src.ctl) .read c.src c.cur (c.src.elems - c.cur)).filter
    fun k => !c.lines.contains k

/-- The lowest number below n that is not in a list. -/
def lowestFree (n : Nat) (l : List Nat) : Option Nat := (List.range n).find? fun k => !l.contains k

/-- The lines of a slot that are on their way arrive (R221). -/
def State.land (s : State) (p : PfSlot) : State :=
  p.flight.foldl (fun s l => match l with
    | some line => s.prefetchTouch line (ctlFifo (Stream.ofBytes p.desc 0).ctl)
    | none => s) s

/-! SAVE (R329). -/

/-- The current thread's copies and slots. -/
def CopyJob.mine (c : CopyJob) (s : State) : Bool := c.ctx == s.cur.id && !c.drained
def PfSlot.mine (p : PfSlot) (s : State) : Bool := p.ctx == s.cur.id && !p.drained

/-- Poison of a saved item goes to its lines in memory (R321). -/
def State.poisonRange (s : State) (a n : Nat) : State :=
  (List.range ((n + 127) / 128)).foldl (fun s k => s.poisonLine (a / 128 + k)) s

/-- The header (R327). -/
def State.saveHeader (s : State) : State :=
  let a := s.cur.area
  let u := s.cur.u
  let w := fun (s : State) (o : Nat) (v : Word) => s.putAreaWord (a + o) v.toNat
  let s := w s 0 u.vtype
  let s := w s 8 u.vl
  let s := w s 0x10 u.rlen
  let s := w s 0x18 u.vlmax
  let s := w s 0x20 u.vdirty
  let s := w s 0x28 u.xdirty
  let s := w s 0x30 u.cycle
  let s := w s 0x38 u.instret
  let s := w s 0x40 u.tdone
  let s := w s 0x48 u.terr
  let s := w s 0x50 u.gangid
  let s := w s 0x58 s.cur.sys.cause
  let s := w s 0x60 s.cur.sys.tval
  let s := w s 0x68 s.cur.sys.vepc
  let s := w s 0x70 (BitVec.ofNat 64 s.cur.viq.length)
  let s := w s 0xC0 u.vcommit
  s.putMem (a + areaTags) (s.cur.v.toList.map fun r => leBytes 2 r.tag.toNat).flatten

/-- Dirty vector registers, masks and tiles (R329). -/
def State.saveFiles (s : State) : State :=
  let a := s.cur.area
  let n := s.cur.u.rlen.toNat
  let put := fun (s : State) (dirty poison : Bool) (at_ len bits : Nat) =>
    if dirty then
      let s := s.putMem at_ (leBytes len bits)
      if poison then s.poisonRange at_ len else s
    else s
  let s := (List.range 32).foldl (fun s k =>
    put s (s.cur.u.vdirty.getLsbD k) (s.cur.poison.v.getLsbD k) (a + areaVectors + 0x8000 * k) n
      (s.cur.v.toList.getD k VReg.start).bits) s
  let s := (List.range 16).foldl (fun s k =>
    put s (s.cur.u.xdirty.getLsbD k) (s.cur.poison.m.getLsbD k) (a + areaMasks + 0x8000 * k) n (s.cur.m.toList.getD k 0)) s
  (List.range 4).foldl (fun s k =>
    put s (s.cur.u.xdirty.getLsbD (16 + k)) (s.cur.poison.ac.getLsbD k) (a + areaTiles + 0x4000 * k) 0x4000
      (s.cur.ac.toList.getD k 0)) s

/-- The units that the context holds (R236, R281). -/
def State.saveUnits (s : State) : State :=
  UnitId.all.foldl (fun s u =>
    if s.core.heldBy u = some s.cur.id then
      let s1 := if s.unitAtStart s.cur u then s.setUnitFlag s.cur u false else (s.saveUnit s.cur u).setUnitFlag s.cur u true
      s1.setCore ((s1.core.startUnit u).setHeld none u)
    else s) s

/-- Copies, prefetch slots and tile stream registers (R221, R262, R329). -/
def State.saveEngines (s : State) : State :=
  let a := s.cur.area
  let mine := s.core.copies.filter fun c => c.mine s
  let s := (List.range 64).foldl (fun s t =>
    s.putMem (a + areaCopies + 320 * t)
      (copyImage s.cur.u.vcommit.toNat (mine.findIdx (·.tag == t)) (s.cur.tags.toList.getD t 0) (mine.find? (·.tag == t)))) s
  let s := (List.range 16).foldl (fun s k =>
    s.putMem (a + areaSlots + 192 * k) (slotImage (s.core.slots.find? fun p => p.mine s && p.slot == k))) s
  let s := (List.range 8).foldl (fun s k => s.putMem (a + areaTs + 64 * k) (s.cur.ts.toList.getD k TileStream.idle).image) s
  let s := (s.core.slots.filter fun p => p.mine s).foldl (fun s p => s.land p) s
  s.setCore { s.core with
    copies := s.core.copies.filter fun c => !c.mine s
    slots := s.core.slots.filter fun p => !p.mine s }

/-- The VIQ image, from vcommit to the tail (R328, R329). -/
def State.saveViq (s : State) : State :=
  s.putMem (s.cur.area + areaViq) (s.cur.viq.map Entry.image).flatten

/-- NENT of `ctxop` (R329). -/
def State.setNent (s : State) (n : Nat) : State := s.setSys { s.cur.sys with nent := BitVec.ofNat 64 n }

/-- SAVE (R329); the VIQ is frozen. What R7 and R8 give the thread goes back to its start value, but for pc, at which the core monitor
goes on, and the thread's identity. -/
def State.ctxSave (s : State) : State :=
  let n := s.cur.viq.length
  let s := s.saveHeader.saveFiles.saveUnits.saveEngines.saveViq.dropExt
  (s.setCur { s.cur with
    viq := []
    convoy := none
    thr := { s.cur.thr with saved := true, oldest := s.cur.u.vcommit.toNat % 2 ^ 32 }
    x := Vector.replicate 32 0
    fm := Vector.replicate 8 0
    lp := Vector.replicate 8 ⟨0, 0, 0, 0⟩
    v := Vector.replicate 32 VReg.start
    m := Vector.replicate 16 0
    ac := Vector.replicate 4 0
    ts := Vector.replicate 8 TileStream.idle
    tags := Vector.replicate 64 0
    u := { UserRegs.start with tid := s.cur.u.tid, coreid := s.cur.u.coreid, dieid := s.cur.u.dieid }
    poison := Poison.empty }).setNent n

/-! The status of a copy. -/

/-- A status doubleword (R259). -/
def tagStatus (state code : Nat) (flags : Word) (count : Nat) : Word :=
  BitVec.ofNat 64 (state * 2 ^ 60 + code * 2 ^ 56 + (flags.toNat % 2 ^ 6) * 2 ^ 48 + count % 2 ^ 48)

/-- Tag t of the current thread gets a status; `done` says that it is not outstanding, `bad` that its copy failed (R258). -/
def State.setTag (s : State) (t : Nat) (status : Word) (done bad : Bool) : State :=
  let put (w : Word) (b : Bool) : Word := (w &&& ~~~(1#64 <<< t)) ||| (if b then 1#64 <<< t else 0)
  s.setCur { s.cur with
    tags := s.cur.tags.setIfInBounds t status
    u := { s.cur.u with tdone := put s.cur.u.tdone done, terr := put s.cur.u.terr bad } }

/-- The end of a copy (R256, R258). -/
def State.endCopy (s : State) (c : CopyJob) (status : Word) (bad : Bool) : State :=
  let s := s.setCore { s.core with copies := s.core.copies.filter fun k => k.slot != c.slot }
  if c.drained then s else s.setTag c.tag status true bad

/-! RESTORE (R329). -/

def State.areaReg (s : State) (o : Nat) : Word := BitVec.ofNat 64 (s.areaWord (s.cur.area + o))

/-- The bits of a word that f gives. -/
def wordOf (n : Nat) (f : Nat → Bool) : Word :=
  (List.range n).foldl (fun (w : Word) k => if f k then w ||| (1#64 <<< k) else w) 0

/-- Registers and files. -/
def State.loadFiles (s : State) : State :=
  let a := s.cur.area
  let u : UserRegs :=
    { s.cur.u with
      vtype := s.areaReg 0
      vl := s.areaReg 8
      rlen := s.areaReg 0x10
      vlmax := s.areaReg 0x18
      vdirty := s.areaReg 0x20
      xdirty := s.areaReg 0x28
      cycle := s.areaReg 0x30
      instret := s.areaReg 0x38
      tdone := s.areaReg 0x40
      terr := s.areaReg 0x48
      gangid := s.areaReg 0x50
      vcommit := s.areaReg 0xC0 }
  let n := u.rlen.toNat
  s.setCur { s.cur with
    u := u
    sys := { s.cur.sys with cause := s.areaReg 0x58, tval := s.areaReg 0x60, vepc := s.areaReg 0x68 }
    v := Vector.ofFn fun (k : Fin 32) =>
      if u.vdirty.getLsbD k then
        ⟨BitVec.ofNat 10 (s.mem.readVal (a + areaTags + 2 * k) 2), s.mem.readVal (a + areaVectors + 0x8000 * k) n⟩
      else VReg.start
    m := Vector.ofFn fun (k : Fin 16) =>
      if u.xdirty.getLsbD k then s.mem.readVal (a + areaMasks + 0x8000 * k) n else 0
    ac := Vector.ofFn fun (k : Fin 4) =>
      if u.xdirty.getLsbD (16 + k) then s.mem.readVal (a + areaTiles + 0x4000 * k) 0x4000 else 0
    ts := Vector.ofFn fun (k : Fin 8) => TileStream.ofImage (s.mem.readN (a + areaTs + 64 * k) 64)
    tags := Vector.ofFn fun (k : Fin 64) => BitVec.ofNat 64 (s.areaWord (a + areaCopies + 320 * k + 264))
    poison := { s.cur.poison with
      v := wordOf 32 fun k => u.vdirty.getLsbD k && s.areaBad (a + areaVectors + 0x8000 * k) n
      m := wordOf 16 fun k => u.xdirty.getLsbD k && s.areaBad (a + areaMasks + 0x8000 * k) n
      ac := wordOf 4 fun k => u.xdirty.getLsbD (16 + k) && s.areaBad (a + areaTiles + 0x4000 * k) 0x4000 } }

/-- A saved copy runs, or a saved prefetch slot. -/
def State.savedCopy (s : State) (t : Nat) : Bool := (s.areaWord (s.cur.area + areaCopies + 320 * t + 272)).testBit 0
def State.savedSlot (s : State) (k : Nat) : Bool := (s.areaWord (s.cur.area + areaSlots + 192 * k + 128)).testBit 0

/-- The tags of the saved copies that run, in the order of their issue. -/
def State.savedTags (s : State) : List Nat :=
  let tags := (List.range 64).filter s.savedCopy
  let rank (t : Nat) : Nat := s.areaWord (s.cur.area + areaCopies + 320 * t + 272) / 16 % 64
  ((List.range 64).map fun r => tags.filter fun t => rank t == r).flatten

/-- The copies that were running are issued again from their cursors, in their order (R262). -/
def State.loadCopies (s : State) : State :=
  let a := s.cur.area + areaCopies
  s.savedTags.foldl (fun s t =>
    let bs := s.mem.readN (a + 320 * t) 320
    let f := fieldAt bs 272 8
    match lowestFree 64 (s.core.copies.map (·.slot)) with
    | none => s
    | some k =>
      let c : CopyJob :=
        { slot := k, tid := s.cur.u.tid, ctx := s.cur.id, drained := false, tag := t, asid := fieldAt bs 296 8,
          ptbase := fieldAt bs 304 8, phys := f.testBit 2, red := f.testBit 1, block := bs.take 256,
          cur := fieldAt bs 256 8, out := fieldAt bs 280 8, spill := f.testBit 3,
          flags := BitVec.ofNat 64 (fieldAt bs 288 8), own := [], lines := [], snap := [],
          iaddr := BitVec.ofNat 52 (fieldAt bs 312 8), after := s.cur.u.vcommit.toNat + fieldAt bs 312 8 / 2 ^ 52, rid := none }
      s.setCore { s.core with copies := s.core.copies ++ [c.ownFrom s] }) s

/-- The copies that the service has ended while the thread was saved end now (R261, R315). -/
def State.endCopies (s : State) : State :=
  let t := s.cur.thr.ends.foldl (fun s e =>
    match s.core.copies.find? fun c => c.mine s && c.tag == e.1 with
    | some c => s.endCopy c (tagStatus 3 e.2 c.flags c.cur) true
    | none => s) s
  t.setThr { t.cur.thr with ends := [] }

/-- Prefetch slots go on under their numbers (R221). -/
def State.loadSlots (s : State) : State :=
  let a := s.cur.area + areaSlots
  (List.range 16).foldl (fun s k =>
    let bs := s.mem.readN (a + 192 * k) 192
    let f := fieldAt bs 128 8
    if f.testBit 0 then
      let e := fieldAt bs 148 4
      let p : PfSlot :=
        { slot := k, tid := s.cur.u.tid, ctx := s.cur.id, drained := false, asid := fieldAt bs 168 8, ptbase := fieldAt bs 176 8,
          phys := f.testBit 1, addr := BitVec.ofNat 64 (fieldAt bs 136 8), desc := bs.take 128, lead := fieldAt bs 144 4,
          cons := fieldAt bs 152 8, pos := fieldAt bs 160 8, arrived := fieldAt bs 184 8,
          flight := [], ending := if f.testBit 2 then some (e % 16, e / 16) else none, iaddr := BitVec.ofNat 52 (f / 2 ^ 12), rid := none }
      s.setCore { s.core with slots := s.core.slots ++ [p] }
    else s) s

/-- The VIQ image, frozen (R329). -/
def State.loadViq (s : State) : State :=
  let n := min 64 (s.areaWord (s.cur.area + 0x70))
  let es := (List.range n).map fun k =>
    Entry.ofImage (s.mem.readN (s.cur.area + areaViq + 64 * k) 64) (s.cur.u.vcommit.toNat + k)
  (s.setCur { s.cur with viq := es, frozen := true, convoy := none, thr := { s.cur.thr with saved := false } }).setNent n

/-- The banks that RESTORE needs can be taken (R329), as many engine slots as copies ran are free, and the numbers of the saved prefetch slots
are (DEDUCED from R221 and R262, log entry 17). -/
def State.restoreRoom (s : State) : Bool :=
  decide (extNeed (s.areaReg 0x10).toNat ≤ s.extRoom)
    && decide (((List.range 64).filter s.savedCopy).length + s.core.copies.length ≤ 64)
    && (List.range 16).all fun k => !(s.savedSlot k && (s.core.slots.map (·.slot)).contains k)

/-- The units that RESTORE loads: those whose content SAVE or a hand-over has written, but for one that entries of an old thread still use, which
is loaded at its next use (R236; log entry 42). -/
def State.restoredUnits (s : State) : List UnitId := UnitId.all.filter fun u => s.unitFlag s.cur u && !s.unitDrains u

/-- RESTORE reads poisoned data outside the registers and units that carry poison of their own, or addresses that R356 assigns to nothing: a
monitor fault (R309, R321). -/
def State.restoreBad (s : State) : Bool :=
  let a := s.cur.area
  s.restoredUnits.any s.claimBad ||
  s.areaBad a 256 || s.areaBad (a + areaViq) (64 * min 64 (s.areaWord (a + 0x70))) || s.areaBad (a + areaTs) 512
    || s.areaBad (a + areaSlots) 3072 || s.areaBad (a + areaCopies) 20480

/-- The units of R236 and R281 whose content stands in the area are loaded: the context claims them (R329). -/
def State.loadUnits (s : State) : State := s.restoredUnits.foldl State.claim s

/-- RESTORE (R329), once its banks can be taken. -/
def State.ctxRestore (s : State) : State :=
  (((s.resizeExt (s.areaReg 0x10).toNat).loadFiles.loadUnits.loadCopies.endCopies).loadSlots).loadViq

end Sys2Proof.Machine
end

