-- ==== Sys2Proof/Machine/Flags.lean ====
section
/-! DEFINITION. Where flags accrue: scalar floating point in `sfctl` (R63), vector entries in `vflags` (R62). -/

namespace Sys2Proof.Machine

/-- Bits of `sfctl` that a write keeps (R63): RM and the flags; RM 5–7 is stored as 0. -/
def sfctlWrite (v : Word) : Word :=
  let f := v &&& 0x1F
  let rm := (v >>> 5) &&& 7
  if rm.toNat < 5 then f ||| (rm <<< 5) else f

/-- The rounding mode of `sfctl` (R63). -/
def State.rm (s : State) : Rnd := (rndOf ((s.cur.u.sfctl >>> 5) &&& 7).toNat).getD .rne

/-- Scalar flags accrue (R63, R79). -/
def State.accrueS (s : State) (f : Word) : State := s.setU { s.cur.u with sfctl := s.cur.u.sfctl ||| (f &&& 0x1F) }

end Sys2Proof.Machine
end

