-- ==== Sys2Proof/Machine/Vector.lean ====
section
/-! DEFINITION. Vector-domain execution: the push of R15 and R16, convoys (R30-R33), the run of the entry at the head of the VIQ
(R17, R308), operands (R104), the write policies (R105, R106), overlap (R107).
An entry runs whole when it is pushed behind no other entry, unless the agenda lets the Lamplighter run ahead: by R21 the order of the
lanes changes no value. -/

namespace Sys2Proof.Machine

/-! Runs. -/

/-- How a run of an entry ends. -/
inductive EntryOut where
  /-- All element effects done, with the flags that active elements raised. -/
  | done (s : State) (fl : Word)
  /-- The elements below the given bound are done (R132, R174). -/
  | part (s : State) (fl : Word)
  /-- A trap at vcommit (R308). -/
  | trap (s : State) (code : BitVec 8) (tval : Word)
  /-- All effects done, and a trap that follows them: the entry does not run again (R270, R278). -/
  | doneTrap (s : State) (fl : Word) (code : BitVec 8) (tval : Word)
  /-- A fault record is written; the entry is reissued for `m15` (R312). -/
  | wait (s : State) (rid : Nat) (fl : Word)
  /-- The active elements below i are done, and element i, at va, meets a watchpoint (R339). -/
  | watch (s : State) (i slot va : Nat)
  /-- A line that it needs is owned by an engine (R253). -/
  | hold (s : State)

/-- What a push needs to know of an instruction: its class, the vector and the `x` destination for `lastd` (R40), the scalar
operands it captures (R16), its format register (R65). -/
structure VInfo where
  cls : Cls
  vd : Option (BitVec 5)
  xd : Option (BitVec 5)
  xa : Option (BitVec 5)
  xb : Option (BitVec 5)
  fs : Option (BitVec 3)
  deriving DecidableEq, Repr

/-- The execution of an entry: the entry, the element bound of this run, the state. -/
abbrev VRun := Entry → Nat → State → EntryOut

/-- A vector instruction: what the push needs, and the execution. `ok` says that the encoding rules allow it (R35), for entries
that a RESTORE loads (R329). -/
structure VOp where
  ok : Bool
  info : VInfo
  run : VRun

/-! Convoys (R30-R32). -/

/-- An empty convoy. -/
def Convoy.new : Convoy := ⟨0, 0, 0, 0, 0, 0, 0⟩

/-- One more member of a class. -/
def Convoy.add (c : Convoy) : Cls → Convoy
  | .alu => { c with alu := c.alu + 1 }
  | .fma => { c with fma := c.fma + 1 }
  | .sfu => { c with sfu := c.sfu + 1 }
  | .ld => { c with ld := c.ld + 1 }
  | .st => { c with st := c.st + 1 }
  | .xl => { c with xl := c.xl + 1 }
  | .mx => { c with mx := c.mx + 1 }

/-- The limits of R31. -/
def Convoy.legal (c : Convoy) : Bool :=
  decide (c.alu + c.fma + c.sfu + c.ld + c.st + c.xl + c.mx ≤ 8 ∧ c.alu ≤ 3 ∧ c.fma ≤ 2 ∧ c.sfu ≤ 1 ∧ c.ld ≤ 1
    ∧ c.st ≤ 1 ∧ c.xl ≤ 1 ∧ c.mx ≤ 1)

/-- The convoy that a push of class k makes: a new one when it starts one, else the one in force with one more member. -/
def nextConvoy (cur : Option Convoy) (start : Bool) (k : Cls) : Convoy :=
  match cur with
  | some c => if start then Convoy.new.add k else c.add k
  | none => Convoy.new.add k

/-! The VIQ. -/

/-- The head entry with changes. -/
def State.setHead (s : State) (f : Entry → Entry) : State :=
  match s.cur.viq with
  | [] => s
  | e :: r => s.setCur { s.cur with viq := f e :: r }

/-- An entry that waits on a record (R312, R315): `m15` names what is left of a vector memory entry, an engine's runs again as at first. -/
def Entry.waiting (e : Entry) (rid m15 : Nat) : Entry :=
  let e := { e with reissue := true, rid := some rid, pins := [], upto := 0, vstart := if e.byMask then 0 else e.vstart }
  { e with vstart := e.firstLeft m15 }

/-- What becomes of the state after a run of the head entry; `fin` is what the Lamplighter does beside it before a trap is taken
or a wait begins: its retirement at a push, nothing otherwise. An entry that waits on a record or for a line does not stop the
Lamplighter (R312). -/
def State.settleHead (e : Entry) (out : EntryOut) (hi : Nat) (fin : State → State) : State :=
  match out with
  | .done s fl => fin (s.completeHead fl)
  | .part s fl => fin (s.setHead fun e => { e with flags := e.flags ||| fl, vstart := hi })
  | .doneTrap s fl code tval => (fin (s.completeHead fl)).takeTrap false (some (e.seq, e.addr)) code tval
  | .trap s code tval => (fin s).takeTrap false (some (e.seq, e.addr)) code tval
  | .wait s rid fl => fin (s.setHead fun e => { e with flags := e.flags ||| fl }.waiting rid (s.mask 15))
  | .watch s i slot va => (fin (s.setHead fun e => { e with vstart := i })).watchStop (some (e.seq, e.addr)) e.addr slot i va
  | .hold s => fin s

/-! Quads (R172, R326). -/

/-- A live thread that waits for another agent or on a record, which lends its quads (R172). -/
def Ctx.lends (c : Ctx) : Bool := c.thr.wait != .none

/-- A context that needs lanes: a thread is resident, or entries of a thread that has retired `EXIT` are queued (R23, R173). -/
def CoreRes.needsLanes (r : CoreRes) (c : Ctx) : Bool :=
  c.thr.live || !c.viq.isEmpty || r.drains.any fun d => d.id == c.id && !d.viq.isEmpty

/-- The quads of context 0 and of context 1 by bit: all four for the only one that `n0` and `n1` say needs lanes and that is not parked; of two
those of CTX0 and the rest under FIX, else two and two at equal priority, three for the higher priority. Which quads these are is the model's choice:
context 0 has the low ones (DESIGN CHOICE, log entry 40). -/
def quadSplit (fix : Bool) (ctx0 : Nat) (n0 n1 : Bool) (c0 c1 : Ctx) : Nat × Nat :=
  if !n1 then (15, 0)
  else if !n0 then (0, 15)
  else if c1.lends && !c0.lends then (15, 0)
  else if c0.lends && !c1.lends then (0, 15)
  else if fix then (ctx0, 15 - ctx0)
  else if c0.sys.prio.toNat = c1.sys.prio.toNat then (3, 12)
  else if c1.sys.prio.toNat < c0.sys.prio.toNat then (7, 8)
  else (1, 14)

/-- The split that is in force for the two contexts as they stand. -/
def State.split (s : State) : Nat × Nat :=
  let q := s.core.quads
  let c0 := if s.cur.id then s.oth else s.cur
  let c1 := if s.cur.id then s.cur else s.oth
  quadSplit (q.getLsbD 7) (q &&& 15).toNat (s.core.needsLanes c0) (s.core.needsLanes c1) c0 c1

/-- The quads held after a convoy boundary of the current context, which then has its share; the other one keeps what is left of its own until
its next boundary (R172). -/
def State.quadsMoved (s : State) : Nat × Nat :=
  if s.cur.id then (s.core.held.1 &&& (15 - s.split.2), s.split.2) else (s.split.1, s.core.held.2 &&& (15 - s.split.1))

/-- Quads move at a convoy boundary of the context that receives them (R172). -/
def State.moveQuads (s : State) : State := s.setCore { s.core with held := s.quadsMoved }

/-- The lanes of the current context are not stalled: only a fixed split leaves a context no quad that is not parked (R326). -/
def State.hasQuad (s : State) : Bool :=
  !s.core.quads.getLsbD 7 || s.cur.lends || (if s.cur.id then s.split.2 else s.split.1) != 0

/-! The push. -/

/-- Entries of the old threads of the current context (R173). -/
def State.oldEntries (s : State) : List Entry := ((s.core.drains.filter fun d => d.id == s.cur.id).map (·.viq)).flatten

/-- Some counter of the context counts what the lanes do: element groups or multiply-accumulates (R346). -/
def DbgRegs.countsLanes (d : DbgRegs) : Bool :=
  d.pmsel.toList.any fun p => p.getLsbD 8 && (p.setWidth 8 == 0x52#8 || p.setWidth 8 == 0x53#8)

/-- A push leaves its entry queued: single step stops between the two (R338), a counter counts the lanes' own moves (R346), or the agenda says that the Lamplighter or the lanes of the current
context move next (log entry 4). -/
def State.lanesNext (s : State) : Bool :=
  s.stepping || s.cur.dbg.countsLanes ||
  match s.agenda.head? with
  | some none => true
  | some (some (.convoyStart c)) => c == s.cur.id
  | some (some (.elementGroupIssue o)) => o.ctx == s.cur.id
  | some (some (.viqEntryComplete o)) => o.ctx == s.cur.id
  | some (some (.viqEntryTrap c)) => c == s.cur.id
  | _ => false

/-- The entry at the VIQ head runs as it is pushed: nothing older is queued, the lanes are there, and they move before the Lamplighter. -/
def State.runsAtPush (s : State) : Bool := s.cur.viq.isEmpty && s.oldEntries.isEmpty && s.hasQuad && !s.lanesNext

/-- The tile that an entry names is that of a member part that has not completed (R353). -/
def State.tileHeld (s : State) (e : Entry) : Bool :=
  e.major == 24 && e.f3 != 5 &&
    match s.core.aimed with
    | some q => q.ctx == s.cur.id && q.ac == (field9 e.body).extractLsb' 0 2
    | none => false

/-- The entry of a push: what R16 lists. -/
def State.newEntry (s : State) (code : Code) (c : Bool) (i : VInfo) : Entry :=
  { code := code, addr := s.cur.pc, conv := c || s.cur.convoy.isNone,
    xa := (i.xa.map s.x).getD 0, xb := (i.xb.map s.x).getD 0,
    fmt := (i.fs.map s.fm).getD 0, vl := s.cur.u.vl.toNat, vstart := s.cur.u.vstart.toNat,
    vtype := s.cur.u.vtype, flags := 0, seq := s.cur.u.vcommit.toNat + s.cur.viq.length, reissue := false,
    rid := none, fin := false, first := s.cur.u.vstart.toNat, pins := [], upto := 0, seen := [], dead := [] }

/-- `lastd` names the destinations of a pushed instruction (R40). -/
def State.nameDests (s : State) (i : VInfo) : State :=
  let s1 := match i.vd with
    | some d => s.setVlast d
    | none => s
  match i.xd with
  | some d => s1.setXlast d
  | none => s1

/-- The end of a push: the quads are assigned where a convoy starts (R172), a unit is claimed (R236), and the entry is queued. -/
def State.putEntry (s : State) (e : Entry) (cv : Convoy) : State :=
  let s1 := if e.conv then s.moveQuads else s
  let s1 := match e.unit with
    | some u => s1.claim u
    | none => s1
  s1.setCur { s1.cur with viq := s1.cur.viq ++ [e], convoy := some cv }

/-- What a push does beside its retirement: `vstart` is 0 again (R12), `lastd` names the destinations, and the entry is queued. -/
def State.enqueue (s : State) (e : Entry) (cv : Convoy) (i : VInfo) : State :=
  ((s.setU { s.cur.u with vstart := 0 }).nameDests i).putEntry e cv

/-- The `x` registers that the loop check between two states has written (R92). -/
def State.closedInto (before after : State) : List Nat :=
  (List.finRange 8).filterMap fun i =>
    let l := after.cur.lp[i]
    if l.act && l.idx != before.cur.lp[i].idx then some l.xi.toNat else none

/-- The retirement of a push: where the loop check writes an `x` register that the entry has still to write, the loop's value comes later in the
sequential order (R3, R92). -/
def State.retirePush (s : State) (e : Entry) (len : Nat) : State :=
  let t := s.retire len
  match (s.closedInto t).filter (e.writesX s).contains with
  | [] => t
  | rs => t.setCur { t.cur with viq := t.cur.viq.map fun q => if q.seq = e.seq then { q with dead := rs } else q }

/-- The push of a vector-domain instruction of len bytes whose words are code, and its execution when no older entry is queued. With 64
entries in use it stalls (R15, R173). In system mode it is a monitor fault (R309). Where a captured register is poisoned and the
instruction breaks a limit of R31 as well, the poison trap is taken (DESIGN CHOICE: the spec gives no order; log entry 37). -/
def pushVector (code : Code) (len : Nat) (c : Bool) (op : VOp) (s : State) : Out :=
  .next (
    if !s.user then s.monitorFault
    else if s.xPoisoned ((op.info.xa.toList) ++ op.info.xb.toList) then s.trap cPoison 0
    else
      let cv := nextConvoy s.cur.convoy c op.info.cls
      if !cv.legal then s.trap cConvoy code.tval
      else if 64 ≤ s.cur.viq.length + s.oldEntries.length then s
      else
        let e := s.newEntry code c op.info
        if e.unit.any s.unitDrains then s
        else if e.unit.any s.claimBad then s.trap cPoison 0 else
        let s1 := s.enqueue e cv op.info
        if s.runsAtPush && !s.tileHeld e then State.settleHead e (op.run e e.total s1) e.total (·.retirePush e len)
        else s1.retirePush e len)

/-! Operands. -/

/-- A value, or a trap: CODE and `tval`. -/
abbrev VRes (α : Type) := Except (BitVec 8 × Word) α

/-- The tag trap with the offending tag (R306). -/
def tagTrap {α : Type} (t : Tag) : VRes α := .error (cTag, t.setWidth 64)
/-- The tag trap of a span or overlap breach (R306). -/
def spanTrap {α : Type} : VRes α := .error (cTag, 0)
/-- The poison trap of a register (R306). -/
def poisonTrap {α : Type} : VRes α := .error (cPoison, 0)

/-- A check. -/
def need (b : Bool) (t : Tag) : VRes Unit := if b then .ok () else tagTrap t
def needSpan (b : Bool) : VRes Unit := if b then .ok () else spanTrap

/-- One of n registers from r on is poisoned. -/
def State.vBad (s : State) (r n : Nat) : Bool := (List.range n).any fun k => s.cur.poison.v.getLsbD (r + k)

/-- The bits of a source span of element width w (R104, R321). -/
def readSpan (s : State) (e : Entry) (r : BitVec 5) (w : Nat) : VRes Nat :=
  if !e.spanOk r w then spanTrap
  else if s.vBad r.toNat (e.spanLen w) then poisonTrap
  else .ok (s.regBits e.rlen r.toNat (e.spanLen w))

/-- Elements as one number, element 0 lowest. -/
def pack (w : Nat) : List Nat → Nat
  | [] => 0
  | v :: vs => v % 2 ^ w + (pack w vs) <<< w

/-- Writing n registers from r on, with their tag; dirty bits set (R9), poison cleared, as by a write of whole registers (R321). -/
def State.putRegs (s : State) (rlen : Nat) (tag : Tag) : Nat → Nat → Nat → State
  | _, 0, _ => s
  | r, n + 1, bits =>
    let s' := putRegs s rlen tag (r + 1) n (bits >>> (8 * rlen))
    s'.setCur { s'.cur with
      v := vset (n := 5) s'.cur.v (BitVec.ofNat 5 r) ⟨tag, bits % 2 ^ (8 * rlen)⟩
      u := { s'.cur.u with vdirty := s'.cur.u.vdirty ||| (1#64 <<< r) }
      poison := { s'.cur.poison with v := s'.cur.poison.v &&& ~~~(1#64 <<< r) } }

/-- Writing the bits of n registers from r on under the tags that they have. -/
def State.putBits (s : State) (rlen : Nat) : Nat → Nat → Nat → State
  | _, 0, _ => s
  | r, n + 1, bits =>
    (putBits s rlen (r + 1) n (bits >>> (8 * rlen))).putRegs rlen (s.vtag (BitVec.ofNat 5 r)) r 1 (bits % 2 ^ (8 * rlen))

/-- Writing a destination span of element width w. -/
def State.putSpan (s : State) (e : Entry) (d : BitVec 5) (w : Nat) (tag : Tag) (bits : Nat) : State :=
  s.putRegs e.rlen tag d.toNat (e.spanLen w) bits

/-- Of the registers from r to r + n - 1 those that were not written whole keep the poison that they had in `old` (R321). -/
def State.keepBad (s old : State) (r n : Nat) (whole : Nat → Bool) : State :=
  if old.cur.poison.v = 0 then s
  else
    let kept := (List.range n).foldl (fun (w : Word) k => if whole k then w else w ||| (old.cur.poison.v &&& (1#64 <<< (r + k)))) 0
    s.setPoison { s.cur.poison with v := s.cur.poison.v ||| kept }

/-- The same for a mask. -/
def State.keepBadMask (s old : State) (k : BitVec 4) (whole : Bool) : State :=
  if old.cur.poison.m.getLsbD k.toNat && !whole then s.setPoison { s.cur.poison with m := s.cur.poison.m ||| (1#64 <<< k.toNat) } else s

/-- A mask that an instruction reads (R321). -/
def readMask (s : State) (k : BitVec 4) : VRes Nat :=
  if s.cur.poison.m.getLsbD k.toNat then poisonTrap else .ok (s.mask k)

/-- Writing a mask; its dirty bit is set (R9). -/
def State.putMask (s : State) (k : BitVec 4) (bits : Nat) : State :=
  s.setCur { s.cur with
    m := vset (n := 4) s.cur.m k bits
    u := { s.cur.u with xdirty := s.cur.u.xdirty ||| (1#64 <<< k.toNat) }
    poison := { s.cur.poison with m := s.cur.poison.m &&& ~~~(1#64 <<< k.toNat) } }

/-- The governing mask: all ones for `mk` = 15 (R27). -/
def govMask (s : State) (mk : BitVec 4) : VRes (Option Nat) :=
  if mk = 15 then .ok none else (readMask s mk).map some

/-- Two spans overlap in another way than element on element (R107): `d`, `s` are the first registers, with their lengths and
element widths. -/
def badOverlap (d dn dw r rn rw : Nat) : Bool :=
  decide (d < r + rn ∧ r < d + dn) && !(d == r && dw == rw)

/-- The check of R107 on a vector destination and a vector source. -/
def Entry.noOverlap (e : Entry) (d : BitVec 5) (dw : Nat) (r : BitVec 5) (rw : Nat) : VRes Unit :=
  needSpan (!badOverlap d.toNat (e.spanLen dw) dw r.toNat (e.spanLen rw) rw)

/-! Writing elements (R106). -/

/-- Element i of the result: below the first element that is not done and, in a run up to hi < vl, from hi on the old bits stay; a masked-off
element is old or zero by MP; an element that a reissue does not name stays. -/
def Entry.outElem (e : Entry) (hi : Nat) (act : Nat → Bool) (old : Nat → Nat) (f : Nat → Nat × Word) (i : Nat) :
    Nat × Word :=
  if decide (hi ≤ i) || decide (i < e.vstart) then (old i, 0)
  else if act i then f i
  else if e.mp && !e.reissue then (0, 0)
  else (old i, 0)

/-- The bits of a destination of element width w after R106, and the flags of its active elements. -/
def Entry.merge (e : Entry) (w old hi : Nat) (act : Nat → Bool) (f : Nat → Nat × Word) : Nat × Word :=
  let els := (List.range e.vl).map (e.outElem hi act (elem w old) f)
  let tail := if e.tp && decide (e.vl ≤ hi) && !e.reissue then 0 else (old >>> (w * e.vl)) <<< (w * e.vl)
  (pack w (els.map (·.1)) ||| tail, (els.map (·.2)).foldl (· ||| ·) 0)

/-- The instruction, in all its parts, writes element i of its destination (R106): `act` says which elements govern, `got` which of these have a
result. -/
def Entry.covers (e : Entry) (act got : Nat → Bool) (i : Nat) : Bool :=
  decide (e.first ≤ i) && (if i < e.vl then (if act i then got i else e.mp) else e.tp)

/-- Every element of register k of a span of element width w is written. -/
def Entry.wholeReg (e : Entry) (w : Nat) (cover : Nat → Bool) (k : Nat) : Bool :=
  let n := 8 * e.rlen / w
  (List.range n).all fun j => cover (k * n + j)

/-- The elements that a governing mask names. -/
def governed (gov : Option Nat) (i : Nat) : Bool := gov.all (·.testBit i)

/-- The end of a run up to hi. -/
def Entry.ending (e : Entry) (hi : Nat) (s : State) (fl : Word) : EntryOut :=
  if hi < e.vl then .part s fl else .done s fl

/-- Writing a part of a destination span (R106): the registers take the result tag when the last element is written, so that what is left
of the instruction reads its operands under the tags that it found (R74). `cover` names the elements that the instruction writes in all its parts; a
register that they do not fill stays poisoned (R321). -/
def State.putSpanTo (s : State) (e : Entry) (hi : Nat) (cover : Nat → Bool) (d : BitVec 5) (w : Nat) (tag : Tag) (bits : Nat) : State :=
  (if hi < e.vl then s.putBits e.rlen d.toNat (e.spanLen w) bits else s.putSpan e d w tag bits).keepBad s d.toNat (e.spanLen w)
    fun k => decide (e.vl ≤ hi) && e.wholeReg w cover k

/-- An element-wise result in a vector register, for the active elements that `got` names. -/
def emitVecOn (got : Nat → Bool) (e : Entry) (hi : Nat) (s : State) (gov : Option Nat) (d : BitVec 5) (w : Nat) (tag : Tag)
    (f : Nat → Nat × Word) : EntryOut :=
  let old := s.regBits e.rlen d.toNat (e.spanLen w)
  let r := e.merge w old hi (e.active s gov) f
  e.ending hi (s.putSpanTo e hi (e.covers (governed gov) got) d w tag r.1) r.2

/-- An element-wise result in a vector register. -/
abbrev emitVec := emitVecOn fun _ => true

/-- An element-wise result in a mask (R105, R106). -/
def emitMask (e : Entry) (hi : Nat) (s : State) (gov : Option Nat) (d : BitVec 5) (f : Nat → Bool × Word) : EntryOut :=
  let k : BitVec 4 := d.setWidth 4
  let r := e.merge 1 (s.mask k) hi (e.active s gov) fun i => let x := f i; (x.1.toNat, x.2)
  e.ending hi ((s.putMask k r.1).keepBadMask s k (decide (e.vl ≤ hi) && e.wholeReg 1 (e.covers (governed gov) fun _ => true) 0)) r.2

/-- An execution with its checks: a check that fails traps with no element effect (R47, R308); an entry without element effect
completes (R12). -/
def checked (s : State) (r : VRes EntryOut) : EntryOut :=
  match r with
  | .ok o => o
  | .error (c, t) => .trap s c t

/-- An element-wise execution. -/
def elementwise (e : Entry) (s : State) (r : VRes EntryOut) : EntryOut :=
  if e.empty then .done s 0 else checked s r

/-- A whole-vector execution reads `vstart` below `vl` as 0 (R141). -/
def Entry.whole (e : Entry) : Entry := { e with vstart := 0, first := 0 }

/-- The format register of an entry (R64). -/
structure FmtReg where
  atag : Tag
  btag : Tag
  dfmt : Tag
  sa : Int
  sb : Int
  sd : Int
  rnd : Rnd
  sat : Bool
  row : Nat
  deriving DecidableEq, Repr

/-- The fields of R64; RND 5–7 raise the tag trap. -/
def fmtReg (v : Word) : VRes FmtReg :=
  match rndOf (v.extractLsb' 54 3).toNat with
  | none => spanTrap
  | some r => .ok
    { atag := v.extractLsb' 0 10, btag := v.extractLsb' 10 10, dfmt := v.extractLsb' 20 10,
      sa := (v.extractLsb' 30 8).toInt, sb := (v.extractLsb' 38 8).toInt, sd := (v.extractLsb' 46 8).toInt, rnd := r,
      sat := v.getLsbD 57, row := (v.extractLsb' 58 3).toNat }

/-- The value of an element of tag t as arithmetic reads it: flushed when the entry says so (R61). -/
def Entry.val (e : Entry) (t : Tag) (bits : Nat) : Exact :=
  if (tagKind t).isFloat then decodeFloat (fmtOf t) (flushIn e.flin (fmtOf t) bits) else .ofInt (ival t bits)

/-- The entry holds a wide form, whose operand b is an immediate and no register (R37). -/
def Entry.wideForm (e : Entry) : Bool :=
  match e.code with
  | .wide _ _ => true
  | _ => false

/-- The value of operand b: an immediate is read from no register, so it is not flushed (R61). -/
def Entry.valB (e : Entry) (t : Tag) (bits : Nat) : Exact := if e.wideForm then value t bits else e.val t bits

/-- The exact product of two values under their tags (R58): of integers and nibbles a product of zero has no sign. `ta` is the tag of
the first; both are of one class. -/
def product (ta : Tag) (x y : Exact) : Exact × Word :=
  let p := Exact.mul x y
  if (tagKind ta).isFloat then p else (p.1.unsignedZero, p.2)

end Sys2Proof.Machine
end

