-- ==== Sys2Proof/Machine/System.lean ====
section
/-! DEFINITION. The SCTL instructions (R23, R310, R318, R381) and `PGSPLICE` (R319). -/

namespace Sys2Proof.Machine

/-- The word of an SCTL form. -/
def codeCtl (o : OpCtl) (n : BitVec 11) : Code := .word (std 10 false (bodyI o.d o.a 4 n))

/-- A system-only instruction (R305). -/
def systemOnly (c : Code) (s : State) (k : State) : State := if s.user then s.illegal c else k

/-- `ECALL` (R310). -/
def execEcall (_ : OpCtl) (s : State) : Out := .next (s.trap cEcall 0)

/-- `EBREAK` (R310): in user mode with kernel debug unlocked a debug stop with REASON 4 (R336), with kernel debug locked the end
of the lot as failed (R334). -/
def execEbreak (_ : OpCtl) (s : State) : Out :=
  .next (if !s.user then s.trap cEbreak 0 else if s.kden then s.debugStop none 4 0 0 else s.endThread true)

/-- `ERET` (R310). -/
def execEret (o : OpCtl) (s : State) : Out := .next (systemOnly (codeCtl o 2) s s.eret)

/-- EVPEND (R303). -/
def State.eventPending (s : State) : Bool := s.cur.sys.evPre || s.cur.sys.evKill || s.cur.sys.evStop

/-- `WFI` (R310); the signal of the fault queue is `WFI_WAKE`. -/
def execWfi (o : OpCtl) (s : State) : Out :=
  .next (systemOnly (codeCtl o 3) s (if s.eventPending then s.retire 4 else s.park))

/-- The context's fetch sees every write made so far (R381). -/
def State.freshFetch (s : State) : State := s.setThr { s.cur.thr with stale := [] }

/-- An earlier entry still has a store to perform (R381). -/
def State.storesWait (s : State) : Bool := s.cur.viq.any fun e => e.stores && !e.fin

/-- `IFENCE` (R381): it stalls until every earlier store has been performed. -/
def execIfence (_ : OpCtl) (s : State) : Out := .next (if s.storesWait then s else (s.retire 4).freshFetch)

/-! Invalidation. -/

/-- Every TLB of the device that the model holds loses the entries that `drop` names (R318). -/
def State.dropTlb (s : State) (drop : TlbEntry → Bool) : State :=
  let keep (l : List TlbEntry) : List TlbEntry := l.filter fun t => !drop t
  s.setCore { s.core with
    tlb1 := keep s.core.tlb1
    tlb2 := keep s.core.tlb2
    mates := s.core.mates.map fun m => { m with tlb1 := keep m.tlb1, tlb2 := keep m.tlb2 } }

/-- A batch in progress holds a translation that `drop` names (R214, R318). -/
def Ctx.pinsAny (c : Ctx) (drop : TlbEntry → Bool) : Bool :=
  c.viq.any fun e => e.pins.any fun p =>
    match p.2 with
    | .leaf l block => drop ⟨c.sys.asid.toNat, p.1, block, l⟩
    | .fault _ => false

/-- The same for the threads of the core: an invalidation retires when every batch that pinned what it removes has performed (R318). -/
def State.pinned (s : State) (drop : TlbEntry → Bool) : Bool :=
  s.cur.pinsAny drop || s.oth.pinsAny drop || s.core.drains.any (·.pinsAny drop)

/-- The removal of translations and then `k`: it stalls while a batch pins one (R318). -/
def State.invalidate (s : State) (drop : TlbEntry → Bool) (k : State → State) : State :=
  if s.pinned drop then s else k (s.dropTlb drop)

/-- `TLBINV` (R318), a release at device scope. An address at or above 2^52 is the address of no page, so it removes nothing and the instruction
retires (DESIGN CHOICE: R318 does not say whether R6's address-range fault is raised; log entry 33). -/
def execTlbinv (o : OpCtl) (s : State) : Out :=
  .next (systemOnly (codeCtl o 5) s (withX [o.a] s (released s (
    s.invalidate (fun t => t.hits s.cur.sys.asid.toNat (s.x o.a).toNat) (·.retire 4)))))

/-- `TLBINVA` (R318). -/
def execTlbinva (o : OpCtl) (s : State) : Out :=
  .next (systemOnly (codeCtl o 6) s (withX [o.a] s (released s (
    s.invalidate (fun t => s.x o.a == allOnes || t.asid == (s.x o.a).toNat % 2 ^ 16) (·.retire 4)))))

/-! The end of a thread. -/

/-- The thread has retired `EXIT` with entries in its queue: they go on, and the units that they use stay with it (R23, R173). pc stays at the
`EXIT`. -/
def State.exitQueued (s : State) : State :=
  let s1 := if s.tracing then s.addTrace 5 0 (s.cur.pc.setWidth 64) 0 (BitVec.ofNat 64 s.cur.thr.lot) else s
  let s2 := s1.setCore (UnitId.all.foldl (fun c u =>
    if c.heldBy u == some s1.cur.id && !(s1.cur.viq.any fun e => e.unit == some u) then (c.startUnit u).setHeld none u else c) s1.core)
  (s2.endSlots false).setThr { s2.cur.thr with live := false, ended := some false, wait := .none }

/-- `EXIT` (R23): illegal in system mode. It retires whether or not entries are queued (R173); a gang member leaves its gang (R195) when its
last entry has completed and no gang operation aimed at it is outstanding. -/
def execExit (o : OpCtl) (s : State) : Out :=
  .next (
    if !s.user then s.illegal (codeCtl o 7)
    else if s.cur.viq.isEmpty && !s.gangBusy then s.leaveGang.countRetired.endThread false
    else s.countRetired.exitQueued)

/-! PGSPLICE. -/

/-- The level-3 table of an address, none where the walk ends in a larger leaf; or the page CODE of an upper level's fault (R212). -/
def level3 (s : State) (va : Nat) : Except Nat (Option Nat) :=
  let up (lvl base : Nat) : Except Nat (Option Nat) :=
    let e := BitVec.ofNat 64 (s.mem.readVal (entryAddr base va lvl) 8)
    if tableBad s (entryAddr base va lvl) then .error 6
    else if !pteV e then .error 1
    else if malformed s lvl e then .error 2
    else if pteLeaf e then .ok none
    else .ok (some (nextTable e))
  match up 1 s.cur.sys.ptbase.toNat with
  | .ok (some t) => up 2 t
  | r => r

/-- A leaf that `PGSPLICE` may move: a valid level-3 leaf with SPL = 1 and T = 0 (R319). -/
def spliceOk (s : State) (e : Word) : Bool := pteV e && pteLeaf e && !malformed s 3 e && pteSpl e && !pteT e

/-- The lowest offending leaf among n of a run, by its number in the run. -/
def offending (s : State) (table : Option Nat) (va n : Nat) : Option Nat :=
  match table with
  | none => some 0
  | some t => (List.range n).find? fun k => !spliceOk s (BitVec.ofNat 64 (s.mem.readVal (entryAddr t va 3 + 8 * k) 8))

/-- A leaf among n of a run lies in a line that cannot be read (R321, R376). -/
def leavesBad (s : State) (table : Option Nat) (va n : Nat) : Bool :=
  match table with
  | none => false
  | some t => (List.range n).any fun k => tableBad s (entryAddr t va 3 + 8 * k)

/-- The exchange of two runs of entries (R319). -/
def State.exchange (s : State) (a b n : Nat) : State :=
  let x := s.mem.readN a (8 * n)
  let y := s.mem.readN b (8 * n)
  (s.putMem a y).putMem b x

/-- `PGSPLICE` once DST and SRC are read (R319). -/
def splice (o : OpI) (dst src : Word) (s : State) : State :=
  let n := o.imm.toNat
  let p := dst.toNat / 2 ^ 16
  let q := src.toNat / 2 ^ 16
  let done (v : Word) (s : State) : State := (s.writeX o.d v).retire 4
  match [dst, src].find? (fun a => a.toNat % 2 ^ 16 != 0), [dst, src].find? (fun a => !inRange a) with
  | some a, _ => s.trap cAlign a
  | none, some a => s.trap cRange a
  | none, none =>
    if (p < q + n ∧ q < p + n) ∨ 4096 < p % 4096 + n ∨ 4096 < q % 4096 + n then done (1 <<< 62) s
    else
      match level3 s dst.toNat, level3 s src.toNat with
      | .error c, _ => s.scalarSvc 0 .read c dst.toNat 0
      | _, .error c => s.scalarSvc 0 .read c src.toNat 0
      | .ok td, .ok ts =>
        if leavesBad s td dst.toNat n then s.scalarSvc 0 .read 6 dst.toNat (dst.toNat / 128 * 128)
        else if leavesBad s ts src.toNat n then s.scalarSvc 0 .read 6 src.toNat (src.toNat / 128 * 128)
        else
          match offending s td dst.toNat n, offending s ts src.toNat n with
          | some j, _ => done ((1 <<< 63) + BitVec.ofNat 64 j) s
          | none, some j => done ((1 <<< 63) + BitVec.ofNat 64 (n + j)) s
          | none, none =>
            let gone (t : TlbEntry) : Bool := (List.range n).any fun k =>
              t.hits s.cur.sys.asid.toNat ((p + k) * 2 ^ 16) || t.hits s.cur.sys.asid.toNat ((q + k) * 2 ^ 16)
            released s (s.invalidate gone fun s1 =>
              done 0 (s1.exchange (entryAddr (td.getD 0) dst.toNat 3) (entryAddr (ts.getD 0) src.toNat 3) n))

/-- `PGSPLICE` (R319). -/
def execPgsplice (o : OpI) (s : State) : Out :=
  .next (withX [o.a] s (
    let ea := s.x o.a
    match checkEa s ea 16 with
    | some r => r.scalar .read fun _ s => s
    | none =>
      watched s true ea.toNat 16 true false fun s =>
        (readDwords s ea 2).scalar .read fun bs s1 =>
          splice o (BitVec.ofNat 64 (Memory.leVal (bs.take 8))) (BitVec.ofNat 64 (Memory.leVal (bs.drop 8))) s1))

end Sys2Proof.Machine
end

