-- ==== Sys2Proof/Machine/Scalar.lean ====
section
/-! DEFINITION. Scalar integer instructions: SOP 0-24 (R77), SIMM (R81), LUP (R82), and the compact scalar ops (R39, R41). -/

namespace Sys2Proof.Machine

/-! Integer results (R77, R49). -/

/-- A truth value as a word. -/
def ofBool (b : Bool) : Word := if b then 1 else 0

/-- The smaller or larger of two words under an order. -/
def pickBy (lt : Word → Word → Bool) (a b : Word) : Word := if lt a b then a else b

/-- Bits [127:64] of the signed product. -/
def mulhS (a b : Word) : Word := BitVec.ofInt 64 (a.toInt * b.toInt / 2 ^ 64)
/-- Bits [127:64] of the unsigned product. -/
def mulhU (a b : Word) : Word := BitVec.ofNat 64 (a.toNat * b.toNat / 2 ^ 64)

/-- Signed quotient, truncated; R49 for a zero divisor, and the dividend on overflow. -/
def divS (a b : Word) : Word := if b = 0 then allOnes else BitVec.ofInt 64 (a.toInt.tdiv b.toInt)
/-- Unsigned quotient; R49 for a zero divisor. -/
def divU (a b : Word) : Word := if b = 0 then allOnes else a / b
/-- Signed remainder, of the sign of a; the dividend for a zero divisor (R49). -/
def remS (a b : Word) : Word := if b = 0 then a else BitVec.ofInt 64 (a.toInt.tmod b.toInt)
/-- Unsigned remainder; the dividend for a zero divisor (R49). -/
def remU (a b : Word) : Word := if b = 0 then a else a % b

/-- Leading zero bits among the low n. -/
def clzFrom (a : Word) : Nat → Nat
  | 0 => 0
  | n + 1 => if a.getLsbD n then 0 else 1 + clzFrom a n
/-- Trailing zero bits from bit i on, of n left. -/
def ctzFrom (a : Word) (i : Nat) : Nat → Nat
  | 0 => 0
  | n + 1 => if a.getLsbD i then 0 else 1 + ctzFrom a (i + 1) n
/-- One bits among the low n. -/
def popFrom (a : Word) : Nat → Nat
  | 0 => 0
  | n + 1 => (a.getLsbD n).toNat + popFrom a n

def clz (a : Word) : Word := BitVec.ofNat 64 (clzFrom a 64)
def ctz (a : Word) : Word := BitVec.ofNat 64 (ctzFrom a 0 64)
def popc (a : Word) : Word := BitVec.ofNat 64 (popFrom a 64)

/-- Shifts by the low six bits of the amount. -/
def sll (a b : Word) : Word := a <<< (b &&& 63).toNat
def srl (a b : Word) : Word := a >>> (b &&& 63).toNat
def sra (a b : Word) : Word := a.sshiftRight (b &&& 63).toNat

/-! Shared shapes. -/

/-- `x[d] ← f x[a] x[b]` (R75, R77). -/
def alu2 (len : Nat) (f : Word → Word → Word) (d a b : BitVec 5) (s : State) : Out :=
  .next (withX [a, b] s ((s.writeX d (f (s.x a) (s.x b))).retire len))

/-- `x[d] ← f x[a]` (R75, R77). -/
def alu1 (len : Nat) (f : Word → Word) (d a : BitVec 5) (s : State) : Out :=
  .next (withX [a] s ((s.writeX d (f (s.x a))).retire len))

/-- `ADD` (R77). -/
def execAdd (o : OpR) (s : State) : Out := alu2 4 (· + ·) o.d o.a o.b s
/-- `SUB` (R77). -/
def execSub (o : OpR) (s : State) : Out := alu2 4 (· - ·) o.d o.a o.b s
/-- `AND` (R77). -/
def execAnd (o : OpR) (s : State) : Out := alu2 4 (· &&& ·) o.d o.a o.b s
/-- `OR` (R77). -/
def execOr (o : OpR) (s : State) : Out := alu2 4 (· ||| ·) o.d o.a o.b s
/-- `XOR` (R77). -/
def execXor (o : OpR) (s : State) : Out := alu2 4 (· ^^^ ·) o.d o.a o.b s
/-- `ANDN` (R77). -/
def execAndn (o : OpR) (s : State) : Out := alu2 4 (fun a b => a &&& ~~~b) o.d o.a o.b s
/-- `SLL` (R77). -/
def execSll (o : OpR) (s : State) : Out := alu2 4 sll o.d o.a o.b s
/-- `SRL` (R77). -/
def execSrl (o : OpR) (s : State) : Out := alu2 4 srl o.d o.a o.b s
/-- `SRA` (R77). -/
def execSra (o : OpR) (s : State) : Out := alu2 4 sra o.d o.a o.b s
/-- `SLT` (R77). -/
def execSlt (o : OpR) (s : State) : Out := alu2 4 (fun a b => ofBool (a.slt b)) o.d o.a o.b s
/-- `SLTU` (R77). -/
def execSltu (o : OpR) (s : State) : Out := alu2 4 (fun a b => ofBool (a.ult b)) o.d o.a o.b s
/-- `MIN` (R77). -/
def execMin (o : OpR) (s : State) : Out := alu2 4 (pickBy BitVec.slt) o.d o.a o.b s
/-- `MAX` (R77). -/
def execMax (o : OpR) (s : State) : Out := alu2 4 (pickBy fun a b => b.slt a) o.d o.a o.b s
/-- `MINU` (R77). -/
def execMinu (o : OpR) (s : State) : Out := alu2 4 (pickBy BitVec.ult) o.d o.a o.b s
/-- `MAXU` (R77). -/
def execMaxu (o : OpR) (s : State) : Out := alu2 4 (pickBy fun a b => b.ult a) o.d o.a o.b s
/-- `MUL` (R77). -/
def execMul (o : OpR) (s : State) : Out := alu2 4 (· * ·) o.d o.a o.b s
/-- `MULH` (R77). -/
def execMulh (o : OpR) (s : State) : Out := alu2 4 mulhS o.d o.a o.b s
/-- `MULHU` (R77). -/
def execMulhu (o : OpR) (s : State) : Out := alu2 4 mulhU o.d o.a o.b s
/-- `DIV` (R77). -/
def execDiv (o : OpR) (s : State) : Out := alu2 4 divS o.d o.a o.b s
/-- `DIVU` (R77). -/
def execDivu (o : OpR) (s : State) : Out := alu2 4 divU o.d o.a o.b s
/-- `REM` (R77). -/
def execRem (o : OpR) (s : State) : Out := alu2 4 remS o.d o.a o.b s
/-- `REMU` (R77). -/
def execRemu (o : OpR) (s : State) : Out := alu2 4 remU o.d o.a o.b s
/-- `CLZ` (R77, R78). -/
def execClz (o : OpR) (s : State) : Out := alu1 4 clz o.d o.a s
/-- `CTZ` (R77, R78). -/
def execCtz (o : OpR) (s : State) : Out := alu1 4 ctz o.d o.a s
/-- `POPC` (R77, R78). -/
def execPopc (o : OpR) (s : State) : Out := alu1 4 popc o.d o.a s

/-! SIMM (R81). -/

/-- `ADDI` (R81). -/
def execAddi (o : OpI) (s : State) : Out := alu1 4 (· + sext o.imm) o.d o.a s
/-- `ADDI`, wide form (R37, R81). -/
def execAddiWide (o : OpIW) (s : State) : Out := alu1 8 (· + sext o.imm) o.d o.a s
/-- `ANDI` (R81). -/
def execAndi (o : OpI) (s : State) : Out := alu1 4 (· &&& sext o.imm) o.d o.a s
/-- `ANDI`, wide form (R37, R81). -/
def execAndiWide (o : OpIW) (s : State) : Out := alu1 8 (· &&& sext o.imm) o.d o.a s
/-- `ORI` (R81). -/
def execOri (o : OpI) (s : State) : Out := alu1 4 (· ||| sext o.imm) o.d o.a s
/-- `ORI`, wide form (R37, R81). -/
def execOriWide (o : OpIW) (s : State) : Out := alu1 8 (· ||| sext o.imm) o.d o.a s
/-- `XORI` (R81). -/
def execXori (o : OpI) (s : State) : Out := alu1 4 (· ^^^ sext o.imm) o.d o.a s
/-- `XORI`, wide form (R37, R81). -/
def execXoriWide (o : OpIW) (s : State) : Out := alu1 8 (· ^^^ sext o.imm) o.d o.a s
/-- `SLTI` (R81). -/
def execSlti (o : OpI) (s : State) : Out := alu1 4 (fun a => ofBool (a.slt (sext o.imm))) o.d o.a s
/-- `SLTI`, wide form (R37, R81). -/
def execSltiWide (o : OpIW) (s : State) : Out := alu1 8 (fun a => ofBool (a.slt (sext o.imm))) o.d o.a s
/-- `SLTIU` (R81). -/
def execSltiu (o : OpI) (s : State) : Out := alu1 4 (fun a => ofBool (a.ult (sext o.imm))) o.d o.a s
/-- `SLTIU`, wide form (R37, R81). -/
def execSltiuWide (o : OpIW) (s : State) : Out := alu1 8 (fun a => ofBool (a.ult (sext o.imm))) o.d o.a s
/-- `MULI` (R81). -/
def execMuli (o : OpI) (s : State) : Out := alu1 4 (· * sext o.imm) o.d o.a s
/-- `MULI`, wide form (R37, R81). -/
def execMuliWide (o : OpIW) (s : State) : Out := alu1 8 (· * sext o.imm) o.d o.a s
/-- `SLLI` (R81). -/
def execSlli (o : OpSh) (s : State) : Out := alu1 4 (fun a => sll a (o.sh.setWidth 64)) o.d o.a s
/-- `SRLI` (R81). -/
def execSrli (o : OpSh) (s : State) : Out := alu1 4 (fun a => srl a (o.sh.setWidth 64)) o.d o.a s
/-- `SRAI` (R81). -/
def execSrai (o : OpSh) (s : State) : Out := alu1 4 (fun a => sra a (o.sh.setWidth 64)) o.d o.a s

/-! LUP (R82). -/

/-- `x[d] ← sext(imm) × 2^11`. -/
def lup (len : Nat) (d : BitVec 5) (imm : Word) (s : State) : Out := .next ((s.writeX d (imm <<< 11)).retire len)

/-- `LUP` (R82). -/
def execLup (o : OpU) (s : State) : Out := lup 4 o.d (sext o.imm) s
/-- `LUP`, wide form (R82). -/
def execLupWide (o : OpUW) (s : State) : Out := lup 8 o.d (sext o.imm) s

/-! Compact scalar ops: the first source is `x[XLAST]` (R39, R41). -/

/-- `cAdd` (R41). -/
def execCAdd (o : OpC) (s : State) : Out := alu2 2 (· + ·) o.d s.xlast o.b s
/-- `cSub` (R41). -/
def execCSub (o : OpC) (s : State) : Out := alu2 2 (· - ·) o.d s.xlast o.b s
/-- `cAnd` (R41). -/
def execCAnd (o : OpC) (s : State) : Out := alu2 2 (· &&& ·) o.d s.xlast o.b s
/-- `cOr` (R41). -/
def execCOr (o : OpC) (s : State) : Out := alu2 2 (· ||| ·) o.d s.xlast o.b s
/-- `cXor` (R41). -/
def execCXor (o : OpC) (s : State) : Out := alu2 2 (· ^^^ ·) o.d s.xlast o.b s
/-- `cSll` (R41). -/
def execCSll (o : OpC) (s : State) : Out := alu2 2 sll o.d s.xlast o.b s
/-- `cSrl` (R41). -/
def execCSrl (o : OpC) (s : State) : Out := alu2 2 srl o.d s.xlast o.b s
/-- `cAddi` (R41). -/
def execCAddi (o : OpC) (s : State) : Out := alu1 2 (· + sext o.b) o.d s.xlast s
/-- `cMv` (R41). -/
def execCMv (o : OpC) (s : State) : Out := alu2 2 (· + ·) o.d s.xlast 0 s

end Sys2Proof.Machine
end

