-- ==== Sys2Proof/Machine/VArith.lean ====
section
/-! DEFINITION. The element operations of majors 13 (VV) and 14 (VX) (R108-R111), and the compact vector ops that
stand for them (R41). -/

namespace Sys2Proof.Machine

/-- An operation of R110: which tags of a it accepts, whether it is a shift (whose b may be of any I or X tag of the same width),
its result tag, and its element function on encodings: entry, tag of a, width, a, b. -/
structure BinSpec where
  accept : Tag → Bool
  shift : Bool
  rtag : Tag → Tag
  f : Entry → Tag → Nat → Nat → Nat → Nat × Word

/-! Element functions. -/

/-- An integer function, wrapping modulo 2^W. -/
def onInts (g : Int → Int → Int) (t : Tag) (w a b : Nat) : Nat × Word := (cut w (g (ival t a) (ival t b)), 0)

/-- `round_to(x, tag, 0, 0)` with the flush of the entry (R110, R61). -/
def Entry.rnd0 (e : Entry) (t : Tag) (r : Exact × Word) : Nat × Word :=
  let y := roundTo (fmtOf t) .rne false e.fres r.1
  (y.1, r.2 ||| y.2)

/-- One function on integers and one on float values (R110). -/
def numeric (gi : Int → Int → Int) (gf : Exact → Exact → Exact × Word) (e : Entry) (t : Tag) (w a b : Nat) : Nat × Word :=
  if (tagKind t).isFloat then e.rnd0 t (gf (e.val t a) (e.valB t b)) else onInts gi t w a b

/-- The chosen value of R68 as an exact value. -/
def minMaxVal (wantMax : Bool) (x y : Exact) : Exact × Word :=
  let r := pickMinMax wantMax x y
  (match r.1 with | some true => x | some false => y | none => .nan false, r.2)

/-- A clamped integer result (R48). -/
def saturating (g : Int → Int → Int) (_e : Entry) (t : Tag) (w a b : Nat) : Nat × Word :=
  let c := clampInt t (g (ival t a) (ival t b))
  (cut w c.1, flIf c.2 flSAT)

/-- Integer division of R49 as an integer. -/
def intDiv (a b : Int) : Int := if b = 0 then -1 else a.tdiv b
/-- Integer remainder of R49. -/
def intRem (a b : Int) : Int := if b = 0 then a else a - b * a.tdiv b

/-- A bitwise function on encodings. -/
def bitwise (g : Nat → Nat → Nat) (_e : Entry) (_t : Tag) (w a b : Nat) : Nat × Word := (g a b % 2 ^ w, 0)

/-- `VSGNJ`: the magnitude of a with the sign of b; a binary8 zero or NaN stays (R110, R57). -/
def signJoin (_e : Entry) (t : Tag) (w a b : Nat) : Nat × Word :=
  let mag := a % 2 ^ (w - 1)
  if tagKind t == .b8 && mag == 0 then (a, 0) else (mag + (b % 2 ^ w) / 2 ^ (w - 1) * 2 ^ (w - 1), 0)

/-- A relation (R67), integers by value. -/
def related (r : Rel) (e : Entry) (t : Tag) (a b : Nat) : Bool × Word := relate r (e.val t a) (e.valB t b)

/-! Kinds (R110). -/

def okIXFB (t : Tag) : Bool := (tagKind t).isIXFB
def okIX (t : Tag) : Bool := (tagKind t).isIX
def okI (t : Tag) : Bool := (tagKind t).isInt
def okIFB (t : Tag) : Bool := (tagKind t).isInt || (tagKind t).isFloat
def okNotW (t : Tag) : Bool := tagKind t != .row
def okAll (_t : Tag) : Bool := true
def okSgn (t : Tag) : Bool := (tagKind t).isF || (tagKind t == .b8 && !tagUns t)

/-! The specifications. -/

/-- `VADD` (R110). -/
def specVadd : BinSpec := ⟨okIXFB, false, id, numeric (· + ·) (Exact.add .rne)⟩
/-- `VSUB` (R110). -/
def specVsub : BinSpec := ⟨okIXFB, false, id, numeric (· - ·) fun a b => Exact.add .rne a b.neg⟩
/-- `VRSUB` (R110). -/
def specVrsub : BinSpec := ⟨okIXFB, false, id, numeric (fun a b => b - a) fun a b => Exact.add .rne b a.neg⟩
/-- `VMIN` (R110). -/
def specVmin : BinSpec := ⟨okIXFB, false, id, numeric min (minMaxVal false)⟩
/-- `VMAX` (R110). -/
def specVmax : BinSpec := ⟨okIXFB, false, id, numeric max (minMaxVal true)⟩
/-- `VAND` (R110). -/
def specVand : BinSpec := ⟨okNotW, false, id, bitwise (· &&& ·)⟩
/-- `VOR` (R110). -/
def specVor : BinSpec := ⟨okNotW, false, id, bitwise (· ||| ·)⟩
/-- `VXOR` (R110). -/
def specVxor : BinSpec := ⟨okNotW, false, id, bitwise (· ^^^ ·)⟩
/-- `VANDN` (R110). -/
def specVandn : BinSpec := ⟨okNotW, false, id, fun e t w => bitwise (fun a b => a &&& (2 ^ w - 1 - b % 2 ^ w)) e t w⟩
/-- `VSLL` (R110). -/
def specVsll : BinSpec := ⟨okIX, true, id, fun _ _ w a b => ((a <<< (b % w)) % 2 ^ w, 0)⟩
/-- `VSRL` (R110). -/
def specVsrl : BinSpec := ⟨okIX, true, id, fun _ _ w a b => (a >>> (b % w), 0)⟩
/-- `VSRA` (R110). -/
def specVsra : BinSpec := ⟨okIX, true, id, fun _ _ w a b => (cut w (sval w a / (2 ^ (b % w) : Nat)), 0)⟩
/-- `VSADD` (R110). -/
def specVsadd : BinSpec := ⟨okI, false, id, saturating (· + ·)⟩
/-- `VSSUB` (R110). -/
def specVssub : BinSpec := ⟨okI, false, id, saturating (· - ·)⟩
/-- `VABSD` (R110). -/
def specVabsd : BinSpec := ⟨okIFB, false, (fun t => if (tagKind t).isInt then tagUint (tagWidth t) else t), numeric (fun a b => (a - b).natAbs) fun a b => let r := Exact.add .rne a b.neg; (r.1.abs, r.2)⟩
/-- `VAVG` (R110). -/
def specVavg : BinSpec := ⟨okI, false, id, fun _ => onInts fun a b => (a + b + 1) / 2⟩
/-- `VMULH` (R110). -/
def specVmulh : BinSpec := ⟨okI, false, id, fun _ t w a b => (cut w (ival t a * ival t b / (2 ^ w : Nat)), 0)⟩
/-- `VDIV` (R110). -/
def specVdiv : BinSpec := ⟨okIFB, false, id, numeric intDiv Exact.div⟩
/-- `VREM` (R110). -/
def specVrem : BinSpec := ⟨okI, false, id, fun _ => onInts intRem⟩
/-- `VSGNJ` (R110). -/
def specVsgnj : BinSpec := ⟨okSgn, false, id, signJoin⟩

/-! Operand b. -/

/-- Where b comes from: a register (VV), the low W bits of the captured `x[b]` (VX), or the 32-bit immediate (wide VX). -/
inductive BSrc where
  | reg (b : BitVec 5)
  | scalar
  | imm (w : BitVec 32)
  deriving DecidableEq, Repr

/-- The width that N and W take: whole bytes (R104, R108). -/
def byteWidth (t : Tag) : Nat := if (tagKind t).isNW then 8 else tagWidth t

/-- The encoding of a VX scalar operand under va's tag (R109). `flush` applies to the rounding of a wide float immediate: flush results as for every
rounding of an arithmetic instruction (DEDUCED from R61; log entry 22), never for `VMV` and `VMERGE` (R111). -/
def scalarOperand (e : Entry) (flush : Bool) (t : Tag) (w : Nat) (b : BSrc) : VRes Nat :=
  match b with
  | .imm v =>
    if (tagKind t).isIX then .ok (cut w v.toInt)
    else if (tagKind t).isFloat then .ok (roundTo (fmtOf t) .rne false flush (decodeFloat fmtFp32 v.toNat)).1
    else tagTrap t
  | _ => .ok (e.xb.toNat % 2 ^ w)

/-- The tag of a, its checks and its bits (R47, R104, R108). -/
def readA (e : Entry) (s : State) (accept : Tag → Bool) (a : BitVec 5) : VRes (Tag × Nat × Nat) := do
  let t := s.vtag a
  need (tagOk t && accept t) t
  let w := byteWidth t
  need (w == e.ew) t
  let bits ← readSpan s e a w
  .ok (t, w, bits)

/-- Operand b as a function of the element (R108, R109), with the overlap check of R107 against a vector destination. -/
def readB (e : Entry) (s : State) (flush shift : Bool) (t : Tag) (w : Nat) (b : BSrc) (d : Option (BitVec 5)) :
    VRes (Nat → Nat) :=
  match b with
  | .reg r => do
    let u := s.vtag r
    need (if shift then tagOk u && (tagKind u).isIX && tagWidth u == w else u == t) u
    let bits ← readSpan s e r w
    match d with
    | some d => e.noOverlap d w r w
    | none => .ok ()
    .ok (elem w bits)
  | b => do
    let v ← scalarOperand e flush t w b
    .ok fun _ => v

/-- A destination span (R104) of width w that meets source a as R107 allows. -/
def destOk (e : Entry) (d : BitVec 5) (w : Nat) (a : BitVec 5) (aw : Nat) : VRes Unit := do
  needSpan (e.spanOk d w)
  e.noOverlap d w a aw

/-- An operation of R110 with a vector destination. -/
def runBin (sp : BinSpec) (d a : BitVec 5) (b : BSrc) (mk : BitVec 4) : VRun := fun e hi s =>
  elementwise e s (do
    let (t, w, av) ← readA e s sp.accept a
    destOk e d w a w
    let bv ← readB e s e.fres sp.shift t w b (some d)
    let gov ← govMask s mk
    .ok (emitVec e hi s gov d w (sp.rtag t) fun i => sp.f e t w (elem w av i) (bv i)))

/-- A comparison: a mask destination (R110, R105). -/
def runRel (r : Rel) (d a : BitVec 5) (b : BSrc) (mk : BitVec 4) : VRun := fun e hi s =>
  elementwise e s (do
    let (t, w, av) ← readA e s okIXFB a
    let bv ← readB e s e.fres false t w b none
    let gov ← govMask s mk
    .ok (emitMask e hi s gov d fun i => related r e t (elem w av i) (bv i)))

/-- `VMERGE`: the mask selects (R111). -/
def runMerge (d a : BitVec 5) (b : BSrc) (mk : BitVec 4) : VRun := fun e hi s =>
  elementwise e s (do
    let (t, w, av) ← readA e s okAll a
    destOk e d w a w
    let bv ← readB e s false false t w b (some d)
    let sel ← readMask s mk
    .ok (emitVec e hi s none d w t fun i => (if sel.testBit i then bv i else elem w av i, 0)))

/-- `VMV` of a register (VV, R111). -/
def runMvV (d a : BitVec 5) (mk : BitVec 4) : VRun := fun e hi s =>
  elementwise e s (do
    let (t, w, av) ← readA e s okAll a
    destOk e d w a w
    let gov ← govMask s mk
    .ok (emitVec e hi s gov d w t fun i => (elem w av i, 0)))

/-- `VMV` of a scalar (VX): va supplies only its tag (R111). -/
def runMvX (d a : BitVec 5) (b : BSrc) (mk : BitVec 4) : VRun := fun e hi s =>
  elementwise e s (do
    let t := s.vtag a
    need (tagOk t && okIXFB t) t
    let w := tagWidth t
    need (w == e.ew) t
    needSpan (e.spanOk a w)
    needSpan (e.spanOk d w)
    let v ← scalarOperand e false t w b
    let gov ← govMask s mk
    .ok (emitVec e hi s gov d w t fun _ => (v, 0)))

/-! The instructions. -/

/-- What a push of format VA with a vector destination needs. -/
def infoVV (cls : Cls) (d : BitVec 5) : VInfo := ⟨cls, some d, none, none, none, none⟩
/-- With a captured `x[b]`. -/
def infoVX (cls : Cls) (d b : BitVec 5) : VInfo := ⟨cls, some d, none, none, some b, none⟩
/-- Without a register destination. -/
def infoM (cls : Cls) : VInfo := ⟨cls, none, none, none, none, none⟩
def infoMX (cls : Cls) (b : BitVec 5) : VInfo := ⟨cls, none, none, none, some b, none⟩

/-- The word of a format VA instruction. -/
def codeVa (maj f5 : BitVec 5) (o : OpVa) : Code := .word (std maj o.c (bodyR o.d o.a o.b (o.m ++ f5)))
def codeVaW (maj f5 : BitVec 5) (o : OpVaW) : Code := .wide (wid maj o.c (bodyR o.d o.a o.b (o.m ++ f5))) o.imm

/-- `VADD` (R110), form Vv. -/
def vopVaddVv (o : OpVa) : VOp := ⟨true, infoVV .alu o.d, runBin specVadd o.d o.a (.reg o.b) o.m⟩
/-- `VADD` (R110), form Vv. -/
def execVaddVv (o : OpVa) (s : State) : Out := pushVector (codeVa 13 0 o) 4 o.c (vopVaddVv o) s
/-- `VADD` (R110), form Vx. -/
def vopVaddVx (o : OpVa) : VOp := ⟨true, infoVX .alu o.d o.b, runBin specVadd o.d o.a .scalar o.m⟩
/-- `VADD` (R110), form Vx. -/
def execVaddVx (o : OpVa) (s : State) : Out := pushVector (codeVa 14 0 o) 4 o.c (vopVaddVx o) s
/-- `VADD` (R110), form VxWide. -/
def vopVaddVxWide (o : OpVaW) : VOp := ⟨o.b == 0, infoVV .alu o.d, runBin specVadd o.d o.a (.imm o.imm) o.m⟩
/-- `VADD` (R110), form VxWide. -/
def execVaddVxWide (o : OpVaW) (s : State) : Out := pushVector (codeVaW 14 0 o) 8 o.c (vopVaddVxWide o) s
/-- `VSUB` (R110), form Vv. -/
def vopVsubVv (o : OpVa) : VOp := ⟨true, infoVV .alu o.d, runBin specVsub o.d o.a (.reg o.b) o.m⟩
/-- `VSUB` (R110), form Vv. -/
def execVsubVv (o : OpVa) (s : State) : Out := pushVector (codeVa 13 1 o) 4 o.c (vopVsubVv o) s
/-- `VSUB` (R110), form Vx. -/
def vopVsubVx (o : OpVa) : VOp := ⟨true, infoVX .alu o.d o.b, runBin specVsub o.d o.a .scalar o.m⟩
/-- `VSUB` (R110), form Vx. -/
def execVsubVx (o : OpVa) (s : State) : Out := pushVector (codeVa 14 1 o) 4 o.c (vopVsubVx o) s
/-- `VSUB` (R110), form VxWide. -/
def vopVsubVxWide (o : OpVaW) : VOp := ⟨o.b == 0, infoVV .alu o.d, runBin specVsub o.d o.a (.imm o.imm) o.m⟩
/-- `VSUB` (R110), form VxWide. -/
def execVsubVxWide (o : OpVaW) (s : State) : Out := pushVector (codeVaW 14 1 o) 8 o.c (vopVsubVxWide o) s
/-- `VRSUB` (R110), form Vv. -/
def vopVrsubVv (o : OpVa) : VOp := ⟨true, infoVV .alu o.d, runBin specVrsub o.d o.a (.reg o.b) o.m⟩
/-- `VRSUB` (R110), form Vv. -/
def execVrsubVv (o : OpVa) (s : State) : Out := pushVector (codeVa 13 2 o) 4 o.c (vopVrsubVv o) s
/-- `VRSUB` (R110), form Vx. -/
def vopVrsubVx (o : OpVa) : VOp := ⟨true, infoVX .alu o.d o.b, runBin specVrsub o.d o.a .scalar o.m⟩
/-- `VRSUB` (R110), form Vx. -/
def execVrsubVx (o : OpVa) (s : State) : Out := pushVector (codeVa 14 2 o) 4 o.c (vopVrsubVx o) s
/-- `VRSUB` (R110), form VxWide. -/
def vopVrsubVxWide (o : OpVaW) : VOp := ⟨o.b == 0, infoVV .alu o.d, runBin specVrsub o.d o.a (.imm o.imm) o.m⟩
/-- `VRSUB` (R110), form VxWide. -/
def execVrsubVxWide (o : OpVaW) (s : State) : Out := pushVector (codeVaW 14 2 o) 8 o.c (vopVrsubVxWide o) s
/-- `VMIN` (R110), form Vv. -/
def vopVminVv (o : OpVa) : VOp := ⟨true, infoVV .alu o.d, runBin specVmin o.d o.a (.reg o.b) o.m⟩
/-- `VMIN` (R110), form Vv. -/
def execVminVv (o : OpVa) (s : State) : Out := pushVector (codeVa 13 3 o) 4 o.c (vopVminVv o) s
/-- `VMIN` (R110), form Vx. -/
def vopVminVx (o : OpVa) : VOp := ⟨true, infoVX .alu o.d o.b, runBin specVmin o.d o.a .scalar o.m⟩
/-- `VMIN` (R110), form Vx. -/
def execVminVx (o : OpVa) (s : State) : Out := pushVector (codeVa 14 3 o) 4 o.c (vopVminVx o) s
/-- `VMIN` (R110), form VxWide. -/
def vopVminVxWide (o : OpVaW) : VOp := ⟨o.b == 0, infoVV .alu o.d, runBin specVmin o.d o.a (.imm o.imm) o.m⟩
/-- `VMIN` (R110), form VxWide. -/
def execVminVxWide (o : OpVaW) (s : State) : Out := pushVector (codeVaW 14 3 o) 8 o.c (vopVminVxWide o) s
/-- `VMAX` (R110), form Vv. -/
def vopVmaxVv (o : OpVa) : VOp := ⟨true, infoVV .alu o.d, runBin specVmax o.d o.a (.reg o.b) o.m⟩
/-- `VMAX` (R110), form Vv. -/
def execVmaxVv (o : OpVa) (s : State) : Out := pushVector (codeVa 13 4 o) 4 o.c (vopVmaxVv o) s
/-- `VMAX` (R110), form Vx. -/
def vopVmaxVx (o : OpVa) : VOp := ⟨true, infoVX .alu o.d o.b, runBin specVmax o.d o.a .scalar o.m⟩
/-- `VMAX` (R110), form Vx. -/
def execVmaxVx (o : OpVa) (s : State) : Out := pushVector (codeVa 14 4 o) 4 o.c (vopVmaxVx o) s
/-- `VMAX` (R110), form VxWide. -/
def vopVmaxVxWide (o : OpVaW) : VOp := ⟨o.b == 0, infoVV .alu o.d, runBin specVmax o.d o.a (.imm o.imm) o.m⟩
/-- `VMAX` (R110), form VxWide. -/
def execVmaxVxWide (o : OpVaW) (s : State) : Out := pushVector (codeVaW 14 4 o) 8 o.c (vopVmaxVxWide o) s
/-- `VAND` (R110), form Vv. -/
def vopVandVv (o : OpVa) : VOp := ⟨true, infoVV .alu o.d, runBin specVand o.d o.a (.reg o.b) o.m⟩
/-- `VAND` (R110), form Vv. -/
def execVandVv (o : OpVa) (s : State) : Out := pushVector (codeVa 13 5 o) 4 o.c (vopVandVv o) s
/-- `VAND` (R110), form Vx. -/
def vopVandVx (o : OpVa) : VOp := ⟨true, infoVX .alu o.d o.b, runBin specVand o.d o.a .scalar o.m⟩
/-- `VAND` (R110), form Vx. -/
def execVandVx (o : OpVa) (s : State) : Out := pushVector (codeVa 14 5 o) 4 o.c (vopVandVx o) s
/-- `VAND` (R110), form VxWide. -/
def vopVandVxWide (o : OpVaW) : VOp := ⟨o.b == 0, infoVV .alu o.d, runBin specVand o.d o.a (.imm o.imm) o.m⟩
/-- `VAND` (R110), form VxWide. -/
def execVandVxWide (o : OpVaW) (s : State) : Out := pushVector (codeVaW 14 5 o) 8 o.c (vopVandVxWide o) s
/-- `VOR` (R110), form Vv. -/
def vopVorVv (o : OpVa) : VOp := ⟨true, infoVV .alu o.d, runBin specVor o.d o.a (.reg o.b) o.m⟩
/-- `VOR` (R110), form Vv. -/
def execVorVv (o : OpVa) (s : State) : Out := pushVector (codeVa 13 6 o) 4 o.c (vopVorVv o) s
/-- `VOR` (R110), form Vx. -/
def vopVorVx (o : OpVa) : VOp := ⟨true, infoVX .alu o.d o.b, runBin specVor o.d o.a .scalar o.m⟩
/-- `VOR` (R110), form Vx. -/
def execVorVx (o : OpVa) (s : State) : Out := pushVector (codeVa 14 6 o) 4 o.c (vopVorVx o) s
/-- `VOR` (R110), form VxWide. -/
def vopVorVxWide (o : OpVaW) : VOp := ⟨o.b == 0, infoVV .alu o.d, runBin specVor o.d o.a (.imm o.imm) o.m⟩
/-- `VOR` (R110), form VxWide. -/
def execVorVxWide (o : OpVaW) (s : State) : Out := pushVector (codeVaW 14 6 o) 8 o.c (vopVorVxWide o) s
/-- `VXOR` (R110), form Vv. -/
def vopVxorVv (o : OpVa) : VOp := ⟨true, infoVV .alu o.d, runBin specVxor o.d o.a (.reg o.b) o.m⟩
/-- `VXOR` (R110), form Vv. -/
def execVxorVv (o : OpVa) (s : State) : Out := pushVector (codeVa 13 7 o) 4 o.c (vopVxorVv o) s
/-- `VXOR` (R110), form Vx. -/
def vopVxorVx (o : OpVa) : VOp := ⟨true, infoVX .alu o.d o.b, runBin specVxor o.d o.a .scalar o.m⟩
/-- `VXOR` (R110), form Vx. -/
def execVxorVx (o : OpVa) (s : State) : Out := pushVector (codeVa 14 7 o) 4 o.c (vopVxorVx o) s
/-- `VXOR` (R110), form VxWide. -/
def vopVxorVxWide (o : OpVaW) : VOp := ⟨o.b == 0, infoVV .alu o.d, runBin specVxor o.d o.a (.imm o.imm) o.m⟩
/-- `VXOR` (R110), form VxWide. -/
def execVxorVxWide (o : OpVaW) (s : State) : Out := pushVector (codeVaW 14 7 o) 8 o.c (vopVxorVxWide o) s
/-- `VANDN` (R110), form Vv. -/
def vopVandnVv (o : OpVa) : VOp := ⟨true, infoVV .alu o.d, runBin specVandn o.d o.a (.reg o.b) o.m⟩
/-- `VANDN` (R110), form Vv. -/
def execVandnVv (o : OpVa) (s : State) : Out := pushVector (codeVa 13 8 o) 4 o.c (vopVandnVv o) s
/-- `VANDN` (R110), form Vx. -/
def vopVandnVx (o : OpVa) : VOp := ⟨true, infoVX .alu o.d o.b, runBin specVandn o.d o.a .scalar o.m⟩
/-- `VANDN` (R110), form Vx. -/
def execVandnVx (o : OpVa) (s : State) : Out := pushVector (codeVa 14 8 o) 4 o.c (vopVandnVx o) s
/-- `VANDN` (R110), form VxWide. -/
def vopVandnVxWide (o : OpVaW) : VOp := ⟨o.b == 0, infoVV .alu o.d, runBin specVandn o.d o.a (.imm o.imm) o.m⟩
/-- `VANDN` (R110), form VxWide. -/
def execVandnVxWide (o : OpVaW) (s : State) : Out := pushVector (codeVaW 14 8 o) 8 o.c (vopVandnVxWide o) s
/-- `VSLL` (R110), form Vv. -/
def vopVsllVv (o : OpVa) : VOp := ⟨true, infoVV .alu o.d, runBin specVsll o.d o.a (.reg o.b) o.m⟩
/-- `VSLL` (R110), form Vv. -/
def execVsllVv (o : OpVa) (s : State) : Out := pushVector (codeVa 13 9 o) 4 o.c (vopVsllVv o) s
/-- `VSLL` (R110), form Vx. -/
def vopVsllVx (o : OpVa) : VOp := ⟨true, infoVX .alu o.d o.b, runBin specVsll o.d o.a .scalar o.m⟩
/-- `VSLL` (R110), form Vx. -/
def execVsllVx (o : OpVa) (s : State) : Out := pushVector (codeVa 14 9 o) 4 o.c (vopVsllVx o) s
/-- `VSLL` (R110), form VxWide. -/
def vopVsllVxWide (o : OpVaW) : VOp := ⟨o.b == 0, infoVV .alu o.d, runBin specVsll o.d o.a (.imm o.imm) o.m⟩
/-- `VSLL` (R110), form VxWide. -/
def execVsllVxWide (o : OpVaW) (s : State) : Out := pushVector (codeVaW 14 9 o) 8 o.c (vopVsllVxWide o) s
/-- `VSRL` (R110), form Vv. -/
def vopVsrlVv (o : OpVa) : VOp := ⟨true, infoVV .alu o.d, runBin specVsrl o.d o.a (.reg o.b) o.m⟩
/-- `VSRL` (R110), form Vv. -/
def execVsrlVv (o : OpVa) (s : State) : Out := pushVector (codeVa 13 10 o) 4 o.c (vopVsrlVv o) s
/-- `VSRL` (R110), form Vx. -/
def vopVsrlVx (o : OpVa) : VOp := ⟨true, infoVX .alu o.d o.b, runBin specVsrl o.d o.a .scalar o.m⟩
/-- `VSRL` (R110), form Vx. -/
def execVsrlVx (o : OpVa) (s : State) : Out := pushVector (codeVa 14 10 o) 4 o.c (vopVsrlVx o) s
/-- `VSRL` (R110), form VxWide. -/
def vopVsrlVxWide (o : OpVaW) : VOp := ⟨o.b == 0, infoVV .alu o.d, runBin specVsrl o.d o.a (.imm o.imm) o.m⟩
/-- `VSRL` (R110), form VxWide. -/
def execVsrlVxWide (o : OpVaW) (s : State) : Out := pushVector (codeVaW 14 10 o) 8 o.c (vopVsrlVxWide o) s
/-- `VSRA` (R110), form Vv. -/
def vopVsraVv (o : OpVa) : VOp := ⟨true, infoVV .alu o.d, runBin specVsra o.d o.a (.reg o.b) o.m⟩
/-- `VSRA` (R110), form Vv. -/
def execVsraVv (o : OpVa) (s : State) : Out := pushVector (codeVa 13 11 o) 4 o.c (vopVsraVv o) s
/-- `VSRA` (R110), form Vx. -/
def vopVsraVx (o : OpVa) : VOp := ⟨true, infoVX .alu o.d o.b, runBin specVsra o.d o.a .scalar o.m⟩
/-- `VSRA` (R110), form Vx. -/
def execVsraVx (o : OpVa) (s : State) : Out := pushVector (codeVa 14 11 o) 4 o.c (vopVsraVx o) s
/-- `VSRA` (R110), form VxWide. -/
def vopVsraVxWide (o : OpVaW) : VOp := ⟨o.b == 0, infoVV .alu o.d, runBin specVsra o.d o.a (.imm o.imm) o.m⟩
/-- `VSRA` (R110), form VxWide. -/
def execVsraVxWide (o : OpVaW) (s : State) : Out := pushVector (codeVaW 14 11 o) 8 o.c (vopVsraVxWide o) s
/-- `VSADD` (R110), form Vv. -/
def vopVsaddVv (o : OpVa) : VOp := ⟨true, infoVV .alu o.d, runBin specVsadd o.d o.a (.reg o.b) o.m⟩
/-- `VSADD` (R110), form Vv. -/
def execVsaddVv (o : OpVa) (s : State) : Out := pushVector (codeVa 13 12 o) 4 o.c (vopVsaddVv o) s
/-- `VSADD` (R110), form Vx. -/
def vopVsaddVx (o : OpVa) : VOp := ⟨true, infoVX .alu o.d o.b, runBin specVsadd o.d o.a .scalar o.m⟩
/-- `VSADD` (R110), form Vx. -/
def execVsaddVx (o : OpVa) (s : State) : Out := pushVector (codeVa 14 12 o) 4 o.c (vopVsaddVx o) s
/-- `VSADD` (R110), form VxWide. -/
def vopVsaddVxWide (o : OpVaW) : VOp := ⟨o.b == 0, infoVV .alu o.d, runBin specVsadd o.d o.a (.imm o.imm) o.m⟩
/-- `VSADD` (R110), form VxWide. -/
def execVsaddVxWide (o : OpVaW) (s : State) : Out := pushVector (codeVaW 14 12 o) 8 o.c (vopVsaddVxWide o) s
/-- `VSSUB` (R110), form Vv. -/
def vopVssubVv (o : OpVa) : VOp := ⟨true, infoVV .alu o.d, runBin specVssub o.d o.a (.reg o.b) o.m⟩
/-- `VSSUB` (R110), form Vv. -/
def execVssubVv (o : OpVa) (s : State) : Out := pushVector (codeVa 13 13 o) 4 o.c (vopVssubVv o) s
/-- `VSSUB` (R110), form Vx. -/
def vopVssubVx (o : OpVa) : VOp := ⟨true, infoVX .alu o.d o.b, runBin specVssub o.d o.a .scalar o.m⟩
/-- `VSSUB` (R110), form Vx. -/
def execVssubVx (o : OpVa) (s : State) : Out := pushVector (codeVa 14 13 o) 4 o.c (vopVssubVx o) s
/-- `VSSUB` (R110), form VxWide. -/
def vopVssubVxWide (o : OpVaW) : VOp := ⟨o.b == 0, infoVV .alu o.d, runBin specVssub o.d o.a (.imm o.imm) o.m⟩
/-- `VSSUB` (R110), form VxWide. -/
def execVssubVxWide (o : OpVaW) (s : State) : Out := pushVector (codeVaW 14 13 o) 8 o.c (vopVssubVxWide o) s
/-- `VABSD` (R110), form Vv. -/
def vopVabsdVv (o : OpVa) : VOp := ⟨true, infoVV .alu o.d, runBin specVabsd o.d o.a (.reg o.b) o.m⟩
/-- `VABSD` (R110), form Vv. -/
def execVabsdVv (o : OpVa) (s : State) : Out := pushVector (codeVa 13 14 o) 4 o.c (vopVabsdVv o) s
/-- `VABSD` (R110), form Vx. -/
def vopVabsdVx (o : OpVa) : VOp := ⟨true, infoVX .alu o.d o.b, runBin specVabsd o.d o.a .scalar o.m⟩
/-- `VABSD` (R110), form Vx. -/
def execVabsdVx (o : OpVa) (s : State) : Out := pushVector (codeVa 14 14 o) 4 o.c (vopVabsdVx o) s
/-- `VABSD` (R110), form VxWide. -/
def vopVabsdVxWide (o : OpVaW) : VOp := ⟨o.b == 0, infoVV .alu o.d, runBin specVabsd o.d o.a (.imm o.imm) o.m⟩
/-- `VABSD` (R110), form VxWide. -/
def execVabsdVxWide (o : OpVaW) (s : State) : Out := pushVector (codeVaW 14 14 o) 8 o.c (vopVabsdVxWide o) s
/-- `VAVG` (R110), form Vv. -/
def vopVavgVv (o : OpVa) : VOp := ⟨true, infoVV .alu o.d, runBin specVavg o.d o.a (.reg o.b) o.m⟩
/-- `VAVG` (R110), form Vv. -/
def execVavgVv (o : OpVa) (s : State) : Out := pushVector (codeVa 13 15 o) 4 o.c (vopVavgVv o) s
/-- `VAVG` (R110), form Vx. -/
def vopVavgVx (o : OpVa) : VOp := ⟨true, infoVX .alu o.d o.b, runBin specVavg o.d o.a .scalar o.m⟩
/-- `VAVG` (R110), form Vx. -/
def execVavgVx (o : OpVa) (s : State) : Out := pushVector (codeVa 14 15 o) 4 o.c (vopVavgVx o) s
/-- `VAVG` (R110), form VxWide. -/
def vopVavgVxWide (o : OpVaW) : VOp := ⟨o.b == 0, infoVV .alu o.d, runBin specVavg o.d o.a (.imm o.imm) o.m⟩
/-- `VAVG` (R110), form VxWide. -/
def execVavgVxWide (o : OpVaW) (s : State) : Out := pushVector (codeVaW 14 15 o) 8 o.c (vopVavgVxWide o) s
/-- `VMULH` (R110), form Vv. -/
def vopVmulhVv (o : OpVa) : VOp := ⟨true, infoVV .alu o.d, runBin specVmulh o.d o.a (.reg o.b) o.m⟩
/-- `VMULH` (R110), form Vv. -/
def execVmulhVv (o : OpVa) (s : State) : Out := pushVector (codeVa 13 16 o) 4 o.c (vopVmulhVv o) s
/-- `VMULH` (R110), form Vx. -/
def vopVmulhVx (o : OpVa) : VOp := ⟨true, infoVX .alu o.d o.b, runBin specVmulh o.d o.a .scalar o.m⟩
/-- `VMULH` (R110), form Vx. -/
def execVmulhVx (o : OpVa) (s : State) : Out := pushVector (codeVa 14 16 o) 4 o.c (vopVmulhVx o) s
/-- `VMULH` (R110), form VxWide. -/
def vopVmulhVxWide (o : OpVaW) : VOp := ⟨o.b == 0, infoVV .alu o.d, runBin specVmulh o.d o.a (.imm o.imm) o.m⟩
/-- `VMULH` (R110), form VxWide. -/
def execVmulhVxWide (o : OpVaW) (s : State) : Out := pushVector (codeVaW 14 16 o) 8 o.c (vopVmulhVxWide o) s
/-- `VDIV` (R110), form Vv. -/
def vopVdivVv (o : OpVa) : VOp := ⟨true, infoVV .alu o.d, runBin specVdiv o.d o.a (.reg o.b) o.m⟩
/-- `VDIV` (R110), form Vv. -/
def execVdivVv (o : OpVa) (s : State) : Out := pushVector (codeVa 13 17 o) 4 o.c (vopVdivVv o) s
/-- `VDIV` (R110), form Vx. -/
def vopVdivVx (o : OpVa) : VOp := ⟨true, infoVX .alu o.d o.b, runBin specVdiv o.d o.a .scalar o.m⟩
/-- `VDIV` (R110), form Vx. -/
def execVdivVx (o : OpVa) (s : State) : Out := pushVector (codeVa 14 17 o) 4 o.c (vopVdivVx o) s
/-- `VDIV` (R110), form VxWide. -/
def vopVdivVxWide (o : OpVaW) : VOp := ⟨o.b == 0, infoVV .alu o.d, runBin specVdiv o.d o.a (.imm o.imm) o.m⟩
/-- `VDIV` (R110), form VxWide. -/
def execVdivVxWide (o : OpVaW) (s : State) : Out := pushVector (codeVaW 14 17 o) 8 o.c (vopVdivVxWide o) s
/-- `VREM` (R110), form Vv. -/
def vopVremVv (o : OpVa) : VOp := ⟨true, infoVV .alu o.d, runBin specVrem o.d o.a (.reg o.b) o.m⟩
/-- `VREM` (R110), form Vv. -/
def execVremVv (o : OpVa) (s : State) : Out := pushVector (codeVa 13 18 o) 4 o.c (vopVremVv o) s
/-- `VREM` (R110), form Vx. -/
def vopVremVx (o : OpVa) : VOp := ⟨true, infoVX .alu o.d o.b, runBin specVrem o.d o.a .scalar o.m⟩
/-- `VREM` (R110), form Vx. -/
def execVremVx (o : OpVa) (s : State) : Out := pushVector (codeVa 14 18 o) 4 o.c (vopVremVx o) s
/-- `VREM` (R110), form VxWide. -/
def vopVremVxWide (o : OpVaW) : VOp := ⟨o.b == 0, infoVV .alu o.d, runBin specVrem o.d o.a (.imm o.imm) o.m⟩
/-- `VREM` (R110), form VxWide. -/
def execVremVxWide (o : OpVaW) (s : State) : Out := pushVector (codeVaW 14 18 o) 8 o.c (vopVremVxWide o) s
/-- `VCEQ` (R110), form Vv. -/
def vopVceqVv (o : OpVa) : VOp := ⟨decide (o.d < 16), infoM .alu, runRel .eq o.d o.a (.reg o.b) o.m⟩
/-- `VCEQ` (R110), form Vv. -/
def execVceqVv (o : OpVa) (s : State) : Out := pushVector (codeVa 13 19 o) 4 o.c (vopVceqVv o) s
/-- `VCEQ` (R110), form Vx. -/
def vopVceqVx (o : OpVa) : VOp := ⟨decide (o.d < 16), infoMX .alu o.b, runRel .eq o.d o.a .scalar o.m⟩
/-- `VCEQ` (R110), form Vx. -/
def execVceqVx (o : OpVa) (s : State) : Out := pushVector (codeVa 14 19 o) 4 o.c (vopVceqVx o) s
/-- `VCEQ` (R110), form VxWide. -/
def vopVceqVxWide (o : OpVaW) : VOp := ⟨o.b == 0 && decide (o.d < 16), infoM .alu, runRel .eq o.d o.a (.imm o.imm) o.m⟩
/-- `VCEQ` (R110), form VxWide. -/
def execVceqVxWide (o : OpVaW) (s : State) : Out := pushVector (codeVaW 14 19 o) 8 o.c (vopVceqVxWide o) s
/-- `VCNE` (R110), form Vv. -/
def vopVcneVv (o : OpVa) : VOp := ⟨decide (o.d < 16), infoM .alu, runRel .ne o.d o.a (.reg o.b) o.m⟩
/-- `VCNE` (R110), form Vv. -/
def execVcneVv (o : OpVa) (s : State) : Out := pushVector (codeVa 13 20 o) 4 o.c (vopVcneVv o) s
/-- `VCNE` (R110), form Vx. -/
def vopVcneVx (o : OpVa) : VOp := ⟨decide (o.d < 16), infoMX .alu o.b, runRel .ne o.d o.a .scalar o.m⟩
/-- `VCNE` (R110), form Vx. -/
def execVcneVx (o : OpVa) (s : State) : Out := pushVector (codeVa 14 20 o) 4 o.c (vopVcneVx o) s
/-- `VCNE` (R110), form VxWide. -/
def vopVcneVxWide (o : OpVaW) : VOp := ⟨o.b == 0 && decide (o.d < 16), infoM .alu, runRel .ne o.d o.a (.imm o.imm) o.m⟩
/-- `VCNE` (R110), form VxWide. -/
def execVcneVxWide (o : OpVaW) (s : State) : Out := pushVector (codeVaW 14 20 o) 8 o.c (vopVcneVxWide o) s
/-- `VCLT` (R110), form Vv. -/
def vopVcltVv (o : OpVa) : VOp := ⟨decide (o.d < 16), infoM .alu, runRel .lt o.d o.a (.reg o.b) o.m⟩
/-- `VCLT` (R110), form Vv. -/
def execVcltVv (o : OpVa) (s : State) : Out := pushVector (codeVa 13 21 o) 4 o.c (vopVcltVv o) s
/-- `VCLT` (R110), form Vx. -/
def vopVcltVx (o : OpVa) : VOp := ⟨decide (o.d < 16), infoMX .alu o.b, runRel .lt o.d o.a .scalar o.m⟩
/-- `VCLT` (R110), form Vx. -/
def execVcltVx (o : OpVa) (s : State) : Out := pushVector (codeVa 14 21 o) 4 o.c (vopVcltVx o) s
/-- `VCLT` (R110), form VxWide. -/
def vopVcltVxWide (o : OpVaW) : VOp := ⟨o.b == 0 && decide (o.d < 16), infoM .alu, runRel .lt o.d o.a (.imm o.imm) o.m⟩
/-- `VCLT` (R110), form VxWide. -/
def execVcltVxWide (o : OpVaW) (s : State) : Out := pushVector (codeVaW 14 21 o) 8 o.c (vopVcltVxWide o) s
/-- `VCLE` (R110), form Vv. -/
def vopVcleVv (o : OpVa) : VOp := ⟨decide (o.d < 16), infoM .alu, runRel .le o.d o.a (.reg o.b) o.m⟩
/-- `VCLE` (R110), form Vv. -/
def execVcleVv (o : OpVa) (s : State) : Out := pushVector (codeVa 13 22 o) 4 o.c (vopVcleVv o) s
/-- `VCLE` (R110), form Vx. -/
def vopVcleVx (o : OpVa) : VOp := ⟨decide (o.d < 16), infoMX .alu o.b, runRel .le o.d o.a .scalar o.m⟩
/-- `VCLE` (R110), form Vx. -/
def execVcleVx (o : OpVa) (s : State) : Out := pushVector (codeVa 14 22 o) 4 o.c (vopVcleVx o) s
/-- `VCLE` (R110), form VxWide. -/
def vopVcleVxWide (o : OpVaW) : VOp := ⟨o.b == 0 && decide (o.d < 16), infoM .alu, runRel .le o.d o.a (.imm o.imm) o.m⟩
/-- `VCLE` (R110), form VxWide. -/
def execVcleVxWide (o : OpVaW) (s : State) : Out := pushVector (codeVaW 14 22 o) 8 o.c (vopVcleVxWide o) s
/-- `VCGT` (R110), form Vv. -/
def vopVcgtVv (o : OpVa) : VOp := ⟨decide (o.d < 16), infoM .alu, runRel .gt o.d o.a (.reg o.b) o.m⟩
/-- `VCGT` (R110), form Vv. -/
def execVcgtVv (o : OpVa) (s : State) : Out := pushVector (codeVa 13 23 o) 4 o.c (vopVcgtVv o) s
/-- `VCGT` (R110), form Vx. -/
def vopVcgtVx (o : OpVa) : VOp := ⟨decide (o.d < 16), infoMX .alu o.b, runRel .gt o.d o.a .scalar o.m⟩
/-- `VCGT` (R110), form Vx. -/
def execVcgtVx (o : OpVa) (s : State) : Out := pushVector (codeVa 14 23 o) 4 o.c (vopVcgtVx o) s
/-- `VCGT` (R110), form VxWide. -/
def vopVcgtVxWide (o : OpVaW) : VOp := ⟨o.b == 0 && decide (o.d < 16), infoM .alu, runRel .gt o.d o.a (.imm o.imm) o.m⟩
/-- `VCGT` (R110), form VxWide. -/
def execVcgtVxWide (o : OpVaW) (s : State) : Out := pushVector (codeVaW 14 23 o) 8 o.c (vopVcgtVxWide o) s
/-- `VCGE` (R110), form Vv. -/
def vopVcgeVv (o : OpVa) : VOp := ⟨decide (o.d < 16), infoM .alu, runRel .ge o.d o.a (.reg o.b) o.m⟩
/-- `VCGE` (R110), form Vv. -/
def execVcgeVv (o : OpVa) (s : State) : Out := pushVector (codeVa 13 24 o) 4 o.c (vopVcgeVv o) s
/-- `VCGE` (R110), form Vx. -/
def vopVcgeVx (o : OpVa) : VOp := ⟨decide (o.d < 16), infoMX .alu o.b, runRel .ge o.d o.a .scalar o.m⟩
/-- `VCGE` (R110), form Vx. -/
def execVcgeVx (o : OpVa) (s : State) : Out := pushVector (codeVa 14 24 o) 4 o.c (vopVcgeVx o) s
/-- `VCGE` (R110), form VxWide. -/
def vopVcgeVxWide (o : OpVaW) : VOp := ⟨o.b == 0 && decide (o.d < 16), infoM .alu, runRel .ge o.d o.a (.imm o.imm) o.m⟩
/-- `VCGE` (R110), form VxWide. -/
def execVcgeVxWide (o : OpVaW) (s : State) : Out := pushVector (codeVaW 14 24 o) 8 o.c (vopVcgeVxWide o) s
/-- `VMERGE` (R111), form Vv. -/
def vopVmergeVv (o : OpVa) : VOp := ⟨o.m != 15, infoVV .alu o.d, runMerge o.d o.a (.reg o.b) o.m⟩
/-- `VMERGE` (R111), form Vv. -/
def execVmergeVv (o : OpVa) (s : State) : Out := pushVector (codeVa 13 25 o) 4 o.c (vopVmergeVv o) s
/-- `VMERGE` (R111), form Vx. -/
def vopVmergeVx (o : OpVa) : VOp := ⟨o.m != 15, infoVX .alu o.d o.b, runMerge o.d o.a .scalar o.m⟩
/-- `VMERGE` (R111), form Vx. -/
def execVmergeVx (o : OpVa) (s : State) : Out := pushVector (codeVa 14 25 o) 4 o.c (vopVmergeVx o) s
/-- `VMERGE` (R111), form VxWide. -/
def vopVmergeVxWide (o : OpVaW) : VOp := ⟨o.b == 0 && o.m != 15, infoVV .alu o.d, runMerge o.d o.a (.imm o.imm) o.m⟩
/-- `VMERGE` (R111), form VxWide. -/
def execVmergeVxWide (o : OpVaW) (s : State) : Out := pushVector (codeVaW 14 25 o) 8 o.c (vopVmergeVxWide o) s
/-- `VMV` (R111), form Vv. -/
def vopVmvVv (o : OpVa) : VOp := ⟨o.b == 0, infoVV .alu o.d, runMvV o.d o.a o.m⟩
/-- `VMV` (R111), form Vv. -/
def execVmvVv (o : OpVa) (s : State) : Out := pushVector (codeVa 13 26 o) 4 o.c (vopVmvVv o) s
/-- `VMV` (R111), form Vx. -/
def vopVmvVx (o : OpVa) : VOp := ⟨true, infoVX .alu o.d o.b, runMvX o.d o.a .scalar o.m⟩
/-- `VMV` (R111), form Vx. -/
def execVmvVx (o : OpVa) (s : State) : Out := pushVector (codeVa 14 26 o) 4 o.c (vopVmvVx o) s
/-- `VMV` (R111), form VxWide. -/
def vopVmvVxWide (o : OpVaW) : VOp := ⟨o.b == 0, infoVV .alu o.d, runMvX o.d o.a (.imm o.imm) o.m⟩
/-- `VMV` (R111), form VxWide. -/
def execVmvVxWide (o : OpVaW) (s : State) : Out := pushVector (codeVaW 14 26 o) 8 o.c (vopVmvVxWide o) s
/-- `VSGNJ` (R110), form Vv. -/
def vopVsgnjVv (o : OpVa) : VOp := ⟨true, infoVV .alu o.d, runBin specVsgnj o.d o.a (.reg o.b) o.m⟩
/-- `VSGNJ` (R110), form Vv. -/
def execVsgnjVv (o : OpVa) (s : State) : Out := pushVector (codeVa 13 27 o) 4 o.c (vopVsgnjVv o) s
/-- `VSGNJ` (R110), form Vx. -/
def vopVsgnjVx (o : OpVa) : VOp := ⟨true, infoVX .alu o.d o.b, runBin specVsgnj o.d o.a .scalar o.m⟩
/-- `VSGNJ` (R110), form Vx. -/
def execVsgnjVx (o : OpVa) (s : State) : Out := pushVector (codeVa 14 27 o) 4 o.c (vopVsgnjVx o) s
/-- `VSGNJ` (R110), form VxWide. -/
def vopVsgnjVxWide (o : OpVaW) : VOp := ⟨o.b == 0, infoVV .alu o.d, runBin specVsgnj o.d o.a (.imm o.imm) o.m⟩
/-- `VSGNJ` (R110), form VxWide. -/
def execVsgnjVxWide (o : OpVaW) (s : State) : Out := pushVector (codeVaW 14 27 o) 8 o.c (vopVsgnjVxWide o) s

/-! Compact vector ops: va is the last vector destination, unmasked, C = 0 (R39, R41). -/

/-- The operands of the standard instruction that a compact vector op stands for. -/
def State.compactVa (s : State) (o : OpC) : OpVa := ⟨false, o.d, s.vlast, o.b, 15⟩

/-- The push of a compact op: the entry holds the standard word (R328), the trap of R32 gives the halfword. -/
def pushCompact (cop : BitVec 5) (code : Code) (op : VOp) (o : OpC) (s : State) : Out :=
  if s.user && !(nextConvoy s.cur.convoy false op.info.cls).legal then .next (s.trap cConvoy (Code.half (halfOf cop o)).tval)
  else pushVector code 2 false op s

/-- `cVADD` (R41). -/
def execCVadd (o : OpC) (s : State) : Out :=
  pushCompact 10 (codeVa 13 0 (s.compactVa o)) (vopVaddVv (s.compactVa o)) o s
/-- `cVSUB` (R41). -/
def execCVsub (o : OpC) (s : State) : Out :=
  pushCompact 11 (codeVa 13 1 (s.compactVa o)) (vopVsubVv (s.compactVa o)) o s
/-- `cVMAX` (R41). -/
def execCVmax (o : OpC) (s : State) : Out :=
  pushCompact 14 (codeVa 13 4 (s.compactVa o)) (vopVmaxVv (s.compactVa o)) o s
/-- `cVMIN` (R41). -/
def execCVmin (o : OpC) (s : State) : Out :=
  pushCompact 15 (codeVa 13 3 (s.compactVa o)) (vopVminVv (s.compactVa o)) o s
/-- `cVAND` (R41). -/
def execCVand (o : OpC) (s : State) : Out :=
  pushCompact 16 (codeVa 13 5 (s.compactVa o)) (vopVandVv (s.compactVa o)) o s
/-- `cVOR` (R41). -/
def execCVor (o : OpC) (s : State) : Out :=
  pushCompact 17 (codeVa 13 6 (s.compactVa o)) (vopVorVv (s.compactVa o)) o s
/-- `cVXOR` (R41). -/
def execCVxor (o : OpC) (s : State) : Out :=
  pushCompact 18 (codeVa 13 7 (s.compactVa o)) (vopVxorVv (s.compactVa o)) o s
/-- `cVMV`: b of the standard form is 0 (R41). -/
def execCVmv (o : OpC) (s : State) : Out :=
  let p : OpVa := ⟨false, o.d, s.vlast, 0, 15⟩
  pushCompact 19 (codeVa 13 26 p) (vopVmvVv p) o s

end Sys2Proof.Machine
end

