-- ==== Sys2Proof/Machine/Async.lean ====
section
/-! DEFINITION. The ASYNC major: copies (R253-R264), waits on tags (R260), stream prefetch (R219-R221), `BANKSET` (R203), line flushes
(R265), page migration (R316), and the moves of the engines that carry them out. -/

namespace Sys2Proof.Machine

/-- The word of an ASYNC form. -/
def codeAsync (o : OpR) (f5 : BitVec 5) : Code := .word (std 25 false (bodyR o.d o.a o.b (0#4 ++ f5)))

/-! Tags. -/

/-! An element's accesses. -/

/-- n bytes from va on, cut at lines: address and length. -/
def linePieces (va : Word) (n : Nat) : List (Nat × Nat) :=
  let k := min n (128 - va.toNat % 128)
  if k = n then [(va.toNat, n)] else [(va.toNat, k), ((va.toNat + k) % 2 ^ 64, n - k)]

/-- The place of one piece for a copy: CODE 5 beyond R6 (R261). -/
def copyTr (s : State) (c : CopyJob) (va : Nat) (acc : Acc) : Tr × State :=
  if 2 ^ 52 ≤ va then (.fault 5, s)
  else if c.phys then (physLoc s va, s)
  else translateIn s c.asid c.ptbase va acc (ctlTransit c.src.ctl)

/-- A piece with its place, in the order of its accesses. -/
structure Piece where
  va : Nat
  len : Nat
  acc : Acc
  tr : Tr
  deriving DecidableEq, Repr

/-- The pieces of n bytes with their places. -/
def copyPieces (c : CopyJob) (acc : Acc) : List (Nat × Nat) → State → List Piece × State
  | [], s => ([], s)
  | (va, n) :: ps, s =>
    let r := copyTr s c va acc
    let q := copyPieces c acc ps r.2
    (⟨va, n, acc, r.1⟩ :: q.1, q.2)

/-- What keeps a copy from an element. -/
inductive Obstacle where
  | hold
  /-- STATE 3 with this CODE (R261). -/
  | stop (code : Nat)
  /-- Pages that the service must bring (R261). -/
  | pages
  deriving DecidableEq, Repr

/-- The obstacle of one piece. A source line that has been read is not read again (R233); `unread` are the source lines that earlier copies of
the thread have still to read, which a write waits for (R253). -/
def Piece.obstacle (c : CopyJob) (unread : List Nat) (s : State) (p : Piece) : Option Obstacle :=
  match p.tr with
  | .hold => some .hold
  | .outside => some (.stop 8)
  | .fault code => some (if code = 1 ∨ code = 7 then .pages else .stop code)
  | .at l =>
    let among (k : List Nat) : Bool := l.lineKey.any k.contains
    if p.acc.writes && among unread then some .hold
    else if p.acc != .write && !among c.lines && (locPoison s l p.len).isSome then some (.stop 6)
    else none

/-- The pages that a record lists (R313). -/
def obstaclePages (ps : List Piece) : List RecPage :=
  ps.foldl (fun l p =>
    match p.tr with
    | .fault code =>
      let g : RecPage := ⟨p.va / 2 ^ 16, code, p.acc.code⟩
      if (code = 1 ∨ code = 7) ∧ !l.any (fun q => q.page == g.page) ∧ l.length < 32 then l ++ [g] else l
    | _ => l) []

/-- Reading a source piece: its line is read once, whole (R233). -/
def readPiece (x : CopyJob × State) (p : Piece) : List Byte × (CopyJob × State) :=
  match p.tr with
  | .at l =>
    match l.lineKey with
    | none => let r := locRead x.2 l p.len; (r.1, (x.1, r.2))
    | some k =>
      let base := k * 128
      let c := if x.1.lines.contains k then x.1
        else
          let line := match l with
            | .spad a => x.2.core.spad.readN (a / 128 * 128) 128
            | .mem a _ => x.2.mem.readN (a / 128 * 128) 128
            | .peer a _ => x.2.dev.peerMem.readN (a / 128 * 128) 128
            | _ => []
          { x.1 with lines := k :: x.1.lines, snap := x.1.snap.write base line }
      (c.snap.readN (base + p.va % 128) p.len, (c, if x.1.lines.contains k then x.2 else l.engineTouch false x.2))
  | _ => ([], x)

def readPieces : List Piece → CopyJob × State → List Byte × (CopyJob × State)
  | [], x => ([], x)
  | p :: ps, x =>
    let r := readPiece x p
    let q := readPieces ps r.2
    (r.1 ++ q.1, q.2)

/-- Writing bytes into pieces; a line that the copy has read shows it the new bytes. -/
def writePieces : List Piece → List Byte → CopyJob × State → CopyJob × State
  | [], _, x => x
  | p :: ps, bs, x =>
    match p.tr with
    | .at l =>
      let now := bs.take p.len
      let s := locWrite (l.engineTouch true x.2) l now
      let c := match l.lineKey with
        | some k => if x.1.lines.contains k then { x.1 with snap := x.1.snap.write (k * 128 + p.va % 128) now } else x.1
        | none => x.1
      writePieces ps (bs.drop p.len) (c, s)
    | _ => writePieces ps (bs.drop p.len) x

/-- Bytes at pieces as they stand: the destination of a combination, which the copy owns. -/
def peekPieces : List Piece → State → List Byte × State
  | [], s => ([], s)
  | p :: ps, s =>
    match p.tr with
    | .at l =>
      let r := locRead s l p.len
      let q := peekPieces ps r.2
      (r.1 ++ q.1, q.2)
    | _ => peekPieces ps s

/-! Combinations. -/

/-- An entry that captures no flush and no format. -/
def Entry.plain : Entry :=
  { code := .half 0, addr := 0, conv := false, xa := 0, xb := 0, fmt := 0, vl := 0, vstart := 0, vtype := 0, flags := 0, seq := 0,
    reissue := false, rid := none, fin := false, first := 0, pins := [], upto := 0, seen := [], dead := [] }

/-- `red` on encodings of w bits (R257). -/
def combine (red : Nat) (t : Tag) (w d x : Nat) : Nat × Word :=
  let f := match red with
    | 1 => specVadd.f
    | 2 => specVmin.f
    | 3 => specVmax.f
    | 4 => specVand.f
    | 5 => specVor.f
    | _ => specVxor.f
  f Entry.plain t w d x

/-! Compression (R263). -/

/-- 8-byte words of a block, the last padded with zeros. -/
def blockWords (bs : List Byte) : List Nat :=
  (List.range ((bs.length + 7) / 8)).map fun k => fieldAt bs (8 * k) 8

/-- The encoding of a block: bitmap, then the non-zero words. -/
def encodeBlock (bs : List Byte) : List Byte :=
  let ws := blockWords bs
  leBytes 32 (((List.range ws.length).filter fun k => ws.getD k 0 != 0).foldl (fun m k => m + 2 ^ k) 0)
    ++ ((ws.filter (· != 0)).map (leBytes 8)).flatten

/-! The copy engine. The current context is the one that issued the copy. -/

/-- Every earlier access of the thread has performed (R233). -/
def CopyJob.ready (c : CopyJob) (s : State) : Bool :=
  let viq := if c.drained then ((s.core.drains.find? fun d => d.u.tid == c.tid).map (·.viq)).getD [] else s.cur.viq
  match viq.head? with
  | none => true
  | some e => decide (c.after ≤ e.seq)

/-- The state as a copy sees it: it waits for the lines of copies that were issued before it, and for those that a later copy of another thread owns
and that are not its own (R253). -/
def State.before (s : State) (slot : Nat) : State :=
  let rest := s.core.copies.dropWhile fun k => k.slot != slot
  let later := match rest with
    | [] => []
    | c :: r => (r.filter fun k => k.tid != c.tid).map fun k => { k with own := k.own.filter fun l => !c.own.contains l }
  s.setCore { s.core with copies := (s.core.copies.takeWhile fun k => k.slot != slot) ++ later }

/-- The source lines that copies of the same thread, issued earlier, have still to read (R253). -/
def State.unread (s : State) (c : CopyJob) : List Nat :=
  ((((s.core.copies.takeWhile fun k => k.slot != c.slot)).filter fun k => k.tid == c.tid).map (·.toRead s)).flatten

/-- The copies of `s0` again. -/
def State.withCopies (s : State) (l : List CopyJob) : State := s.setCore { s.core with copies := l }

/-- Ownership by the pages as they are mapped now: a page of a destination that the service has mapped is owned from then on (R233, R253). -/
def State.reown (s : State) : State :=
  let cs := s.core.copies.map fun c => c.ownFrom s
  (s.flushLines (cs.flatMap (·.own))).withCopies cs

/-- The copy's record replaced. -/
def State.putCopy (s : State) (c : CopyJob) : State :=
  s.withCopies (s.core.copies.map fun k => if k.slot = c.slot then c else k)

/-- The record of a copy (R261, R313). -/
def State.copyRec (s : State) (c : CopyJob) (pages : List RecPage) : State :=
  let r := s.fileRec
    { rid := 0, slot := none, tid := c.tid, iaddr := c.iaddr.setWidth 64, seq := 2 ^ 32 - 1, ctx := s.cur.id, place := s.place,
      ctxByte := s.cur.id.toNat, source := 3, pages := pages, firstel := c.cur, more := false, asid := BitVec.ofNat 64 c.asid,
      tag := c.tag, pline := 0, half := 0 }
  r.2.putCopy { c with rid := some r.1 }

/-- What an obstacle makes of a copy (R261). -/
def State.obstruct (s : State) (c : CopyJob) (ps : List Piece) : Obstacle → State
  | .hold => s
  | .stop code => s.endCopy c (tagStatus 3 code c.flags c.cur) true
  | .pages => s.copyRec c (obstaclePages ps)

/-- One element: read, combine, write (R256, R257). -/
def copyElement (c : CopyJob) (s : State) : State :=
  let n := c.src.esz
  let all := s.core.copies
  let sp := copyPieces c .read (linePieces (c.src.addr c.cur) n) (s.before c.slot)
  let dp := copyPieces c (if c.red then .amo else .write) (linePieces (c.dst.addr c.cur) n) sp.2
  let ps := sp.1 ++ dp.1
  let s1 := dp.2.withCopies all
  match ps.filterMap (Piece.obstacle c (s.unread c) s1) with
  | o :: _ => s1.obstruct c ps o
  | [] =>
    let r := readPieces sp.1 (c, s1)
    let x := if c.red then
        let d := peekPieces dp.1 r.2.2
        let y := combine (ctlRed c.dst.ctl) (ctlFmt c.dst.ctl) (8 * n) (Memory.leVal d.1) (Memory.leVal r.1)
        (leBytes n y.1, y.2, d.2)
      else (r.1, 0, r.2.2)
    let w := writePieces dp.1 x.1 (r.2.1, x.2.2)
    let c2 := { w.1 with cur := c.cur + 1, flags := c.flags ||| x.2.1 }
    w.2.putCopy (c2.ownFrom w.2)

/-- The source bytes of k elements from e on, with all pieces. -/
def blockPieces (c : CopyJob) : Nat → Nat → State → List Piece × State
  | _, 0, s => ([], s)
  | e, k + 1, s =>
    let p := copyPieces c .read (linePieces (c.src.addr e) c.src.esz) s
    let q := blockPieces c (e + 1) k p.2
    (p.1 ++ q.1, q.2)

/-- Contiguous bytes cut at lines. -/
def rangePieces (va : Word) (n : Nat) : List (Nat × Nat) :=
  let a := va.toNat
  let l := a / 128
  (List.range ((a + n + 127) / 128 - l)).map fun k =>
    let lo := max a ((l + k) * 128)
    let hi := min (a + n) ((l + k + 1) * 128)
    (lo % 2 ^ 64, hi - lo)

/-- One block of a compressed copy (R263, R264). -/
def copyBlock (c : CopyJob) (s : State) : State :=
  let k := min (2048 / c.src.esz) (c.src.elems - c.cur)
  let all := s.core.copies
  let sp := blockPieces c c.cur k (s.before c.slot)
  let s0 := sp.2.withCopies all
  match sp.1.filterMap (Piece.obstacle c [] s0) with
  | o :: _ => s0.obstruct c sp.1 o
  | [] =>
    let r := readPieces sp.1 (c, s0)
    let enc := encodeBlock r.1
    let cap := c.dst.elems * c.dst.esz
    let c1 := { r.2.1 with cur := c.cur + k, out := c.out + enc.length }
    if c.spill || decide (cap < c.out + enc.length) then r.2.2.putCopy { c1 with spill := true }
    else
      let dp := copyPieces c .write (rangePieces (c.dst.base + BitVec.ofNat 64 c.out) enc.length) (r.2.2.before c.slot)
      let s1 := dp.2.withCopies all
      match dp.1.filterMap (Piece.obstacle c (s.unread c) s1) with
      | o :: _ => s1.obstruct c dp.1 o
      | [] =>
        let w := writePieces dp.1 enc (c1, s1)
        w.2.putCopy (w.1.ownFrom w.2)

/-- One move of a copy: an element, a block, or its end. -/
def copyMove (slot : Nat) (s : State) : State :=
  match s.core.copies.find? (·.slot == slot) with
  | none => s
  | some c =>
    if c.rid.isSome then s
    else s.onCtx c.ctx fun s =>
      if !c.ready s then s
      else if c.cur < c.src.elems then (if ctlComp c.dst.ctl then copyBlock c s else copyElement c s)
      else if c.spill then s.endCopy c (tagStatus 4 0 c.flags c.out) true
      else s.endCopy c (tagStatus 2 0 c.flags (if ctlComp c.dst.ctl then c.out else c.cur * c.src.esz)) false

/-- n moves. -/
def copyMoves (slot : Nat) : Nat → State → State
  | 0, s => s
  | n + 1, s => copyMoves slot n (copyMove slot s)

/-! Issue. -/

/-- A format in which `CPYRED` combines elements of n bytes (R256, R257). -/
def redFormat (red : Nat) (t : Tag) (n : Nat) : Bool :=
  decide (1 ≤ red ∧ red ≤ 6) && tagOk t && (tagKind t).isIXFB && tagWidth t == 8 * n

/-- The rules of R255 on a copy block; `sys` is system mode. -/
def blockOk (red sys : Bool) (bs : List Byte) : Bool :=
  let a := Stream.ofBytes bs 0
  let d := Stream.ofBytes bs 128
  let dim (x : Stream) : Bool := decide (1 ≤ ctlNdim x.ctl ∧ ctlNdim x.ctl ≤ 7) && ctlZero x.ctl && !x.dirty && !ctlFifo x.ctl
    && (sys || !ctlTransit x.ctl)
  let fmt := ctlFmt a.ctl
  dim a && dim d && a.esz == d.esz && ctlRed a.ctl == 0 && !ctlComp a.ctl
    && (if red then
          redFormat (ctlRed d.ctl) fmt a.esz && !ctlComp d.ctl && fmt == ctlFmt d.ctl
        else ctlRed d.ctl == 0)
    && (if ctlComp d.ctl then
          ctlNdim d.ctl == 1 && (match d.dims with
            | [(st, _)] => st == BitVec.ofNat 64 d.esz
            | _ => false)
        else a.elems == d.elems)

/-- The issue of a copy (R256). It stalls, runnable, while its tag is outstanding or no engine slot is free. Its destination lines leave the
caches of the core (R253). -/
def issueCopy (red : Bool) (o : OpR) (s : State) : Out :=
  .next (withX [o.a, o.b] s (
    let ea := s.x o.a
    match checkDesc s ea 128 with
    | some r => r.scalar .read fun _ s => s
    | none => if 2 ^ 52 < ea.toNat + 256 then s.trap cRange (ea + 128) else (readDwords s ea 32).scalar .read fun bs s1 =>
      let t := (s.x o.b).toNat
      if !blockOk red (!s.user) bs ∨ 64 ≤ t then s1.trap cStreamDesc ea
      else if !s.cur.u.tdone.getLsbD t then s
      else
        match lowestFree 64 (s1.core.copies.map (·.slot)) with
        | none => s
        | some k =>
          let after := if s.user then s.cur.u.vcommit.toNat + s.cur.viq.length else 0
          let c : CopyJob :=
            { slot := k, tid := s.cur.u.tid, ctx := s.cur.id, drained := false, tag := t, asid := s.cur.sys.asid.toNat,
              ptbase := s.cur.sys.ptbase.toNat, phys := !s.user, red := red, block := bs, cur := 0, out := 0, spill := false,
              flags := 0, own := [], lines := [], snap := [], iaddr := s.cur.pc, after := after, rid := none }
          let s2 := s1.setTag t (tagStatus 1 0 0 0) false false
          let c1 := c.ownFrom s2
          ((s2.flushLines c1.own).withCopies (s2.core.copies ++ [c1])).retire 4))

/-- `CPY` (R256). -/
def execCpy (o : OpR) (s : State) : Out := issueCopy false o s
/-- `CPYRED` (R256, R257). -/
def execCpyred (o : OpR) (s : State) : Out := issueCopy true o s

/-! Waits on tags (R260). -/

/-- `TWANY` (R260). -/
def execTwany (o : OpR) (s : State) : Out :=
  .next (withX [o.a] s (
    let k := s.x o.a
    if k ≠ 0 ∧ s.cur.u.tdone &&& k = 0 then s.park else (s.writeX o.d (s.cur.u.tdone &&& k)).retire 4))

/-- `TWALL` (R260). -/
def execTwall (o : OpR) (s : State) : Out :=
  .next (withX [o.a] s (
    let k := s.x o.a
    if s.cur.u.tdone &&& k = k then (s.writeX o.d (s.cur.u.terr &&& k)).retire 4 else s.park))

/-- `TFIRST` (R260). -/
def execTfirst (o : OpR) (s : State) : Out :=
  .next (withX [o.a] s (
    let k := s.x o.a &&& s.cur.u.tdone
    let v := match (List.range 64).find? fun t => k.getLsbD t with
      | some t => BitVec.ofNat 64 t
      | none => allOnes
    (s.writeX o.d v).retire 4))

/-- `TCLR` (R260). -/
def execTclr (o : OpR) (s : State) : Out :=
  .next (withX [o.a] s (
    let old := s.cur.u.terr
    ((s.setU { s.cur.u with terr := old &&& ~~~(s.x o.a) }).writeX o.d old).retire 4))

/-- `TSTAT` (R260). -/
def execTstat (o : OpR) (s : State) : Out :=
  .next (withX [o.a] s ((s.writeX o.d (vget (n := 6) s.cur.tags ((s.x o.a).setWidth 6))).retire 4))

/-! Stream prefetch. -/

/-- A slot's record replaced. -/
def State.putSlot (s : State) (p : PfSlot) : State :=
  s.setCore { s.core with slots := s.core.slots.map fun q => if q.slot = p.slot then p else q }
/-- A slot becomes free; the lines that it has issued still arrive (R221). -/
def State.freeSlot (s : State) (n : Nat) : State :=
  let s1 := (s.core.slots.filter fun q => q.slot == n).foldl (fun s q => s.land q) s
  s1.setCore { s1.core with slots := s1.core.slots.filter fun q => q.slot != n }

/-- A slot's place of an access. -/
def slotTr (s : State) (p : PfSlot) (va : Nat) (acc : Acc) : Tr × State :=
  if 2 ^ 52 ≤ va then (.fault 5, s)
  else if p.phys then (physLoc s va, s)
  else translateIn s p.asid p.ptbase va acc false

/-- The control doubleword that an ending slot writes (R216, R220). -/
def PfSlot.word (p : PfSlot) (state code : Nat) : Nat :=
  fieldAt p.desc 8 4 + (p.pos % 2 ^ 24) * 2 ^ 32 + code * 2 ^ 56 + state * 2 ^ 60

/-- The record of a descriptor write that cannot perform (R220). The current context is the slot's. -/
def State.slotRec (s : State) (p : PfSlot) (va code pline : Nat) : State :=
  let r := s.fileRec
    { rid := 0, slot := none, tid := p.tid, iaddr := p.iaddr.setWidth 64, seq := 2 ^ 32 - 1, ctx := s.cur.id, place := s.place,
      ctxByte := s.cur.id.toNat, source := 8, pages := [⟨va / 2 ^ 16, code, 1⟩], firstel := 0, more := false,
      asid := BitVec.ofNat 64 p.asid, tag := 0, pline := pline, half := 0 }
  r.2.putSlot { p with rid := some r.1 }

/-- The ending write of a slot: a store of the thread; with it the slot is free (R220). -/
def slotEnd (p : PfSlot) (s : State) : State :=
  match p.ending, p.rid with
  | some (state, code), none =>
    let va := p.addr.toNat + 8
    let r := slotTr s p va .write
    match r.1 with
    | .at l =>
      (match locPoison r.2 l 8 with
      | some _ => r.2.slotRec p va 6 (va / 128 * 128)
      | none => (locWrite r.2 l (leBytes 8 (p.word state code))).freeSlot p.slot)
    | .fault c => r.2.slotRec p va c (if c = 6 then va / 128 * 128 else 0)
    | .outside => r.2.slotRec p va 1 0
    | .hold => r.2
  | _, _ => s

/-- Lines of the core that are outstanding. -/
def State.linesOut (s : State) : Nat := s.core.slots.foldl (fun n p => n + (p.pos - p.arrived)) 0

/-- The ending of a slot with its write. -/
def State.endSlot (s : State) (p : PfSlot) (state code : Nat) : State :=
  let q := { p with ending := some (state, code) }
  slotEnd q (s.putSlot q)

/-- The line that a prefetch of a place puts into caches: memory of type 0 alone. -/
def Loc.prefetched : Loc → Option Nat
  | .mem pa m => if m.dev then none else some (pa / 128)
  | _ => none

/-- A slot issues its next position, or ends (R220). -/
def slotIssue (p : PfSlot) (s : State) : State :=
  if p.ending.isSome then slotEnd p s
  else
    match (Stream.ofBytes p.desc 0).find fun q _ => q == p.pos with
    | none => if p.arrived = p.pos then s.endSlot p 2 0 else s
    | some (_, line) =>
      if p.cons + p.lead ≤ p.pos ∨ 4096 ≤ s.linesOut then s
      else
        let r := slotTr s p (line * 128) .read
        match r.1 with
        | .fault c => r.2.endSlot p 4 c
        | .hold => r.2
        | .at l => r.2.putSlot { p with pos := p.pos + 1, flight := p.flight ++ [l.prefetched] }
        | .outside => r.2.putSlot { p with pos := p.pos + 1, flight := p.flight ++ [none] }

/-- The next issued line of a slot arrives; after the last one the slot ends (R220). -/
def slotArrive (p : PfSlot) (s : State) : State :=
  if p.pos ≤ p.arrived then slotIssue p s
  else
    let q := { p with arrived := p.arrived + 1, flight := p.flight.drop 1 }
    let s1 := (s.land { p with flight := p.flight.take 1 }).putSlot q
    if q.arrived = q.pos ∧ q.ending.isNone ∧ ((Stream.ofBytes p.desc 0).find fun k _ => k == p.pos).isNone then s1.endSlot q 2 0
    else s1

/-- A move of a slot, in its context. -/
def slotMove (n : Nat) (f : PfSlot → State → State) (s : State) : State :=
  match s.core.slots.find? (·.slot == n) with
  | none => s
  | some p => s.onCtx p.ctx (f p)

/-- `PFS` (R219). -/
def execPfs (o : OpR) (s : State) : Out :=
  .next (withX [o.a, o.b] s (
    let ea := s.x o.a
    match checkDesc s ea 128 with
    | some r => r.scalar .read fun _ s => s
    | none => (readDwords s ea 16).scalar .read fun bs s1 =>
      let d := Stream.ofBytes bs 0
      let b := s.x o.b
      if ctlNdim d.ctl = 0 ∨ ctlComp d.ctl ∨ ctlRed d.ctl ≠ 0 ∨ !ctlZero d.ctl ∨ d.dirty ∨ b >>> 13 ≠ 0 then
        s1.trap cStreamDesc ea
      else
        match lowestFree 16 (s1.core.slots.map (·.slot)) with
        | none => (s1.writeX o.d allOnes).retire 4
        | some k =>
          let p : PfSlot :=
            { slot := k, tid := s.cur.u.tid, ctx := s.cur.id, drained := false, asid := s.cur.sys.asid.toNat,
              ptbase := s.cur.sys.ptbase.toNat, phys := !s.user, addr := ea, desc := bs,
              lead := if b = 0 then 4096 else b.toNat, cons := 0, pos := 0, arrived := 0, flight := [], ending := none, iaddr := s.cur.pc,
              rid := none }
          let s2 := s1.setCore { s1.core with slots := s1.core.slots ++ [p] }
          (s2.writeX o.d (BitVec.ofNat 64 k)).retire 4))

/-- `PFSTOP` (R221). -/
def execPfstop (o : OpR) (s : State) : Out :=
  .next (withX [o.a] s (
    let n := s.x o.a
    let hit := s.core.slots.filter fun p =>
      p.ctx == s.cur.id && !p.drained && p.ending.isNone && (n == allOnes || n == BitVec.ofNat 64 p.slot)
    let s1 := hit.foldl (fun s p => s.endSlot p 3 0) s
    (s1.writeX o.d (ofBool !hit.isEmpty)).retire 4))

/-! `BANKSET`. -/

/-- A copy of the core whose tag is outstanding has its destination in the scratchpad. -/
def State.copyToSpad (s : State) : Bool :=
  s.core.copies.any fun c => (copyLines s c.asid c.ptbase c.phys false .write c.dst 0 c.dst.elems).any fun k => decide (2 ^ 45 ≤ k)

/-- An entry of either context, or of a thread before it, is queued. -/
def State.anyQueued (s : State) : Bool := !s.cur.viq.isEmpty || !s.oth.viq.isEmpty || s.core.drains.any fun d => !d.viq.isEmpty

/-- `BANKSET` (R203). -/
def execBankset (o : OpR) (s : State) : Out :=
  .next (withX [o.a, o.b] s (
    let sel := s.x o.a
    let role := (s.x o.b).toNat
    let chosen := (List.range 40).filter fun b => sel.getLsbD b
    if sel >>> 40 ≠ 0 ∨ 2 < role then s.trap cBankRole sel
    else if chosen.any fun b => s.core.banks.getD b 0 == 3 then s.trap cBankRole sel
    else if (s.core.setRole chosen role).cacheBanks.isEmpty then s.trap cBankRole sel
    else if s.anyQueued || s.copyToSpad then s
    else
      let moved := chosen.filter fun b => s.core.banks.getD b 0 != role
      let s1 := (s.emptyBanks moved).setCore ((s.core.wipe moved).setRole moved role)
      (s1.writeX o.d (wordOf 40 fun b => s1.core.banks.getD b 0 == 1)).retire 4))

/-! Line flushes. -/

/-- Lines that n bytes from a on overlap. -/
def rangeLines (a n : Nat) : Nat := if n = 0 then 0 else (a + n - 1) / 128 - a / 128 + 1
def rangePages (a n : Nat) : Nat := if n = 0 then 0 else (a + n - 1) / 2 ^ 16 - a / 2 ^ 16 + 1

/-- The lines of page p that overlap the n bytes from a on. -/
def pageLines (a n p : Nat) : List Nat :=
  ((List.range (rangeLines a n)).map (a / 128 + ·)).filter fun l => l / 512 == p

/-- Lines at virtual line numbers leave caches: those of memory type 0 that `has` finds go by `drop` and are counted; a line counts once,
however many caches hold it (DEDUCED, log entry 41). -/
def sweepLines (has : Caches → Nat → Bool) (drop : State → Nat → State) : List Nat → Nat → State → Nat × State
  | [], k, s => (k, s)
  | l :: ls, k, s =>
    match (translate s (l * 128) .read).1 with
    | .at (.mem pa m) =>
      if !m.dev && has s.cache (pa / 128) then sweepLines has drop ls (k + 1) (drop s (pa / 128)) else sweepLines has drop ls k s
    | _ => sweepLines has drop ls k s

/-- The pages of a range in ascending order, n of them from page p on (R265): each is translated for reading, and its lines go. The count of
lines so far is k. -/
def sweep (has : Caches → Nat → Bool) (drop : State → Nat → State) (a len : Nat) : Nat → Nat → Nat → State → Res Nat
  | _, 0, k, s => .ok k s
  | p, n + 1, k, s =>
    let va := max a (p * 2 ^ 16)
    if 2 ^ 52 ≤ va then .trap cRange (BitVec.ofNat 64 va) s
    else
      match translate s va .read with
      | (.fault c, s') => .svc c va (if c = 6 then va / 128 * 128 else 0) s'
      | (.outside, s') => .trap cOutside (BitVec.ofNat 64 va) s'
      | (_, s') =>
        let r := sweepLines has drop (pageLines a len p) k s'
        sweep has drop a len (p + 1) n r.1 r.2

/-- The range of `CFLUSH` and `CINVAL`, and the count of lines removed. -/
def sweepRange (has : Caches → Nat → Bool) (drop : State → Nat → State) (o : OpR) (s : State) : State :=
  let a := (s.x o.a).toNat
  let n := (s.x o.b).toNat
  (sweep has drop a n (a / 2 ^ 16) (rangePages a n) 0 s).scalar .read fun k s1 => (s1.writeX o.d (BitVec.ofNat 64 k)).retire 4

/-- `CFLUSH` (R265). -/
def execCflush (o : OpR) (s : State) : Out :=
  .next (withX [o.a, o.b] s (sweepRange Caches.inCore (fun s l => s.flushLines [l]) o s))

/-- `CINVAL` (R265): system-only; addresses are physical. Dirty lines are discarded. -/
def execCinval (o : OpR) (s : State) : Out :=
  .next (systemOnly (codeAsync o 11) s (withX [o.a, o.b] s (sweepRange Caches.onDie State.discardLine o s)))

/-! Migration (R316). -/

/-- Entries of the device's migration table. -/
def migRoom : Nat := 16

/-- A new frame that R356 allows with memory type 0: HBM, the far tier, or a peer that is not this device. -/
def newFrameOk (s : State) (frame : Nat) : Bool :=
  match regionOf frame with
  | .hbm _ | .far => true
  | .peer p => s.dev.ualId != some p
  | _ => false

/-- `PGMIG` (R316). A descriptor whose new frame R356 assigns to nothing is malformed, as is a leaf that R316 does not allow: the tag ends with
STATE 3, CODE 2. It stalls, runnable, while its tag is outstanding or the table is full. The TLBs lose the page when its T bit is set, so that no access
misses the transit (R317). -/
def execPgmig (o : OpR) (s : State) : Out :=
  .next (systemOnly (codeAsync o 12) s (withX [o.a, o.b] s (
    let ea := s.x o.a
    let t := (s.x o.b).toNat
    match checkDesc s ea 32 with
    | some r => r.scalar .read fun _ s => s
    | none => (readDwords s ea 4).scalar .read fun bs s1 =>
      if 64 ≤ t then s1.trap cStreamDesc ea
      else if !s.cur.u.tdone.getLsbD t then s
      else
        let va := fieldAt bs 0 8 % 2 ^ 52 / 2 ^ 16 * 2 ^ 16
        let frame := fieldAt bs 16 8 % 2 ^ 52 / 2 ^ 16 * 2 ^ 16
        let asid := fieldAt bs 24 8 % 2 ^ 16
        let bad (s : State) : State := (s.setTag t (tagStatus 3 2 0 0) true true).retire 4
        match walk s1 (fieldAt bs 8 8) va with
        | .error _ => bad s1
        | .ok (at_, e, lvl) =>
          if lvl ≠ 3 ∨ pteMt e ≠ 0 ∨ pteT e ∨ !newFrameOk s1 frame then bad s1
          else if migRoom ≤ s1.dev.mig.length then s
          else
            let g : MigEntry :=
              { page := va / 2 ^ 16, asid := asid, leafAddr := at_, oldFrame := pteFrame e, newFrame := frame, prog := 0,
                tid := s.cur.u.tid, tag := t }
            let s2 := (s1.putPte at_ (e ||| 0x80)).dropTlb fun k => k.hits asid va
            let s3 := s2.setDev { s2.dev with mig := s2.dev.mig ++ [g] }
            (s3.setTag t (tagStatus 1 0 0 0) false false).retire 4)))

/-- A tag of a thread that the mover has saved ends in its area. -/
def State.setSavedTag (s : State) (c : Ctx) (t : Nat) (status : Word) : State :=
  let s1 := s.putAreaWord (c.area + areaCopies + 320 * t + 264) status.toNat
  s1.putAreaWord (c.area + 0x40) ((BitVec.ofNat 64 (s1.areaWord (c.area + 0x40))) ||| (1#64 <<< t)).toNat

/-- Tag t of the thread `tid` is done, wherever the thread is: on a context, or saved. A thread that has ended has no tag. -/
def State.endTag (s : State) (tid : Word) (t : Nat) (status : Word) : State :=
  let here (c : Ctx) : Bool := c.thr.live && c.u.tid == tid
  if here s.cur then (if s.cur.thr.saved then s.setSavedTag s.cur t status else s.setTag t status true false)
  else if here s.oth then (if s.oth.thr.saved then s.setSavedTag s.oth t status else (s.swap.setTag t status true false).swap)
  else
    match s.core.saved.find? fun c => c.u.tid == tid with
    | some c => s.setSavedTag c t status
    | none => s

/-- A block compressed or raw (R374). -/
def Caches.setForm (c : Caches) (block : Nat) (packed : Bool) : Caches :=
  { c with packed := (if packed then [block] else []) ++ c.packed.filter (· != block) }

/-- The form of the new frame's block after a line of it has been moved, for a page whose leaf has Z set (R316, R374): from its first line on that of
the old frame's block; what a write in transit stores raw stays raw, and so does what needs more than 15 lines at the end. `before` is the state
before the line. -/
def State.moveForm (s before : State) (g : MigEntry) : State :=
  let old := (g.oldFrame + 128 * g.prog) / 2048
  let new := (g.newFrame + 128 * g.prog) / 2048
  if !(pteZ (BitVec.ofNat 64 (before.mem.readVal g.leafAddr 8)) && (regionOf g.newFrame matches .hbm _)) then s
  else
    let was := if g.prog % 16 = 0 then before.cache.packed.contains old else before.cache.packed.contains new
    let fits := g.prog % 16 ≠ 15 || (before.cache.packed.contains old && decide (s.cache.blockWords s new ≤ 236))
    s.setCache (s.cache.setForm new (was && fits))

/-- The last step of a migration: the leaf names the new frame, T is clear, the TLBs lose the page, the tag is done. -/
def migEnd (g : MigEntry) (s : State) : State :=
  let e := BitVec.ofNat 64 (s.mem.readVal g.leafAddr 8)
  let e' := (e &&& ~~~0x000FFFFFFFFF0080#64) ||| BitVec.ofNat 64 g.newFrame
  let s1 := (s.putPte g.leafAddr e').dropTlb fun k => k.hits g.asid (g.page * 2 ^ 16)
  let s2 := s1.setDev { s1.dev with mig := s1.dev.mig.filter fun k => !(k.page == g.page && k.asid == g.asid) }
  s2.endTag g.tid g.tag (tagStatus 2 0 0 (2 ^ 16))

/-- The line of a frame cannot be read: it is poisoned (R321), or homed on a lost die (R376). -/
def State.frameBad (s : State) (pa : Nat) : Bool :=
  s.lineBad false (pa / 128) || (match regionOf pa with
    | .hbm d => s.dev.dieLost d
    | _ => false)

/-- One move of a migration: line PROG, unless a copy owns it, or the end. What the old frame has lost is poisoned in the new one (R373, R376). -/
def migMove (i : Nat) (s : State) : State :=
  match s.dev.mig[i]? with
  | none => s
  | some g =>
    if 512 ≤ g.prog then migEnd g s
    else
      let a := g.oldFrame + 128 * g.prog
      let b := g.newFrame + 128 * g.prog
      if s.core.copies.any fun c => c.own.contains (a / 128) || c.own.contains (b / 128) then s
      else
        let s0 := s.recall [a / 128, b / 128]
        let s1 := (s0.putPhys b (s0.physBytes a 128)).moveForm s0 g
        let s2 := if s0.frameBad a then s1.poisonPhys (b / 128) else s1
        s2.setDev { s2.dev with mig := s2.dev.mig.set i { g with prog := g.prog + 1 } }

/-- The moves of a migration up to its end; `fuel` bounds them. -/
def migFinish (i : Nat) : Nat → State → State
  | 0, s => s
  | fuel + 1, s =>
    match s.dev.mig[i]? with
    | none => s
    | some g => if 512 ≤ g.prog then migEnd g s else migFinish i fuel (migMove i s)

end Sys2Proof.Machine
end

