-- ==== Sys2Proof/Machine/Branch.lean ====
section
/-! DEFINITION. Branches (R85-R88), jumps (R89, R90) and `LOOP` (R91, R176). -/

namespace Sys2Proof.Machine

/-! BRX. -/

/-- A conditional branch on `x[a]` (R86). -/
def brx (len : Nat) (c : Word → Bool) (a : BitVec 5) (off : Word) (s : State) : Out :=
  .next (withX [a] s (if c (s.x a) then s.jump (s.target off) id else s.retireBranch len))

/-- `BDNZ`: `x[a] − 1` is written, and the branch is taken when it is not zero (R86). -/
def bdnz (len : Nat) (a : BitVec 5) (off : Word) (s : State) : Out :=
  .next (withX [a] s (
    let t := s.x a - 1
    if t ≠ 0 then s.jump (s.target off) (·.writeX a t) else (s.writeX a t).retireBranch len))

/-- `BEQZ` (R86). -/
def execBeqz (o : OpB) (s : State) : Out := brx 4 (· == 0) o.a (sext o.off) s
/-- `BEQZ`, wide form (R37, R86). -/
def execBeqzWide (o : OpBW) (s : State) : Out := brx 8 (· == 0) o.a (sext o.off) s
/-- `BNEZ` (R86). -/
def execBnez (o : OpB) (s : State) : Out := brx 4 (· != 0) o.a (sext o.off) s
/-- `BNEZ`, wide form (R37, R86). -/
def execBnezWide (o : OpBW) (s : State) : Out := brx 8 (· != 0) o.a (sext o.off) s
/-- `BLTZ` (R86). -/
def execBltz (o : OpB) (s : State) : Out := brx 4 (·.slt 0) o.a (sext o.off) s
/-- `BLTZ`, wide form (R37, R86). -/
def execBltzWide (o : OpBW) (s : State) : Out := brx 8 (·.slt 0) o.a (sext o.off) s
/-- `BGEZ` (R86). -/
def execBgez (o : OpB) (s : State) : Out := brx 4 (fun v => !v.slt 0) o.a (sext o.off) s
/-- `BGEZ`, wide form (R37, R86). -/
def execBgezWide (o : OpBW) (s : State) : Out := brx 8 (fun v => !v.slt 0) o.a (sext o.off) s
/-- `BGTZ` (R86). -/
def execBgtz (o : OpB) (s : State) : Out := brx 4 (BitVec.slt 0) o.a (sext o.off) s
/-- `BGTZ`, wide form (R37, R86). -/
def execBgtzWide (o : OpBW) (s : State) : Out := brx 8 (BitVec.slt 0) o.a (sext o.off) s
/-- `BLEZ` (R86). -/
def execBlez (o : OpB) (s : State) : Out := brx 4 (fun v => !(BitVec.slt 0 v)) o.a (sext o.off) s
/-- `BLEZ`, wide form (R37, R86). -/
def execBlezWide (o : OpBW) (s : State) : Out := brx 8 (fun v => !(BitVec.slt 0 v)) o.a (sext o.off) s
/-- `BDNZ` (R86). -/
def execBdnz (o : OpB) (s : State) : Out := bdnz 4 o.a (sext o.off) s
/-- `BDNZ`, wide form (R37, R86). -/
def execBdnzWide (o : OpBW) (s : State) : Out := bdnz 8 o.a (sext o.off) s

/-! BRM. -/

/-- Set bits of a mask among elements 0 to n − 1. -/
def countMask (m : Nat) : Nat → Nat
  | 0 => 0
  | n + 1 => (m.testBit n).toNat + countMask m n

/-- A branch on mask k waits: for the latest entry that writes the mask until it has finished, for `m15` until every entry has
completed (R18, R88). -/
def State.maskWaits (s : State) (k : BitVec 4) : Bool :=
  if k = 15 then !s.cur.viq.isEmpty
  else
    match s.cur.viq.reverse.find? fun e => e.writesMask s k.toNat with
    | some e => !e.fin
    | none => false

/-- A branch on a mask: the condition sees the count c and n, the `vl` in force (R87). It stalls while the mask is not ready (R88). -/
def brm (len : Nat) (c : Nat → Nat → Bool) (k : BitVec 4) (off : Word) (s : State) : Out :=
  .next (
    if s.maskWaits k then s
    else if s.cur.poison.m.getLsbD k.toNat then s.trap cPoison 0
    else
      let n := s.cur.u.vl.toNat
      if c (countMask (vget (n := 4) s.cur.m k) n) n then s.jump (s.target off) id else s.retireBranch len)

/-- `BANY` (R87). -/
def execBany (o : OpM) (s : State) : Out := brm 4 (fun c _ => decide (0 < c)) o.k (sext o.off) s
/-- `BANY`, wide form (R37, R87). -/
def execBanyWide (o : OpMW) (s : State) : Out := brm 8 (fun c _ => decide (0 < c)) o.k (sext o.off) s
/-- `BALL` (R87). -/
def execBall (o : OpM) (s : State) : Out := brm 4 (fun c n => c == n) o.k (sext o.off) s
/-- `BALL`, wide form (R37, R87). -/
def execBallWide (o : OpMW) (s : State) : Out := brm 8 (fun c n => c == n) o.k (sext o.off) s
/-- `BNONE` (R87). -/
def execBnone (o : OpM) (s : State) : Out := brm 4 (fun c _ => c == 0) o.k (sext o.off) s
/-- `BNONE`, wide form (R37, R87). -/
def execBnoneWide (o : OpMW) (s : State) : Out := brm 8 (fun c _ => c == 0) o.k (sext o.off) s
/-- `BNALL` (R87). -/
def execBnall (o : OpM) (s : State) : Out := brm 4 (fun c n => decide (c < n)) o.k (sext o.off) s
/-- `BNALL`, wide form (R37, R87). -/
def execBnallWide (o : OpMW) (s : State) : Out := brm 8 (fun c n => decide (c < n)) o.k (sext o.off) s

/-! Jumps. -/

/-- `JAL` (R89). -/
def jal (len : Nat) (d : BitVec 5) (off : Word) (s : State) : Out :=
  .next (s.jump (s.target off) (·.writeX d ((s.nextPc len).setWidth 64)))

/-- `JALR`: bit 0 of the target is cleared (R90). -/
def jalr (len : Nat) (d a : BitVec 5) (imm : Word) (s : State) : Out :=
  .next (withX [a] s (s.jump ((s.x a + imm) &&& ~~~1#64) (·.writeX d ((s.nextPc len).setWidth 64))))

/-- `JAL` (R89). -/
def execJal (o : OpU) (s : State) : Out := jal 4 o.d (sext o.imm) s
/-- `JAL`, wide form (R37, R89). -/
def execJalWide (o : OpUW) (s : State) : Out := jal 8 o.d (sext o.imm) s
/-- `JALR` (R90). -/
def execJalr (o : OpI) (s : State) : Out := jalr 4 o.d o.a (sext o.imm) s
/-- `JALR`, wide form (R37, R90). -/
def execJalrWide (o : OpIW) (s : State) : Out := jalr 8 o.d o.a (sext o.imm) s

/-! LOOP. -/

/-- The lot range of a level; a temporal level runs from 0 without bound (R91, R176). -/
def State.lotRange (s : State) (v : Nat) : Nat × Option Nat :=
  match s.cur.thr.ranges.find? (·.1 == v) with
  | some (_, lo, hi) => (lo, some hi)
  | none => (0, none)

/-- `LOOP` on a temporal level (R91) and on a spatial one (R176). `n` is the body length in halfwords. It retires without being a transfer: the
loop check sees the first instruction of the body, or the end when the body is skipped (R92). -/
def loopOp (len : Nat) (d a : BitVec 5) (v : BitVec 3) (n : Nat) (s : State) : Out :=
  .next (withX [a] s (
    let start := s.cur.pc.toNat + len
    let stop := start + 2 * n
    let r := s.lotRange v.toNat
    let bound := match r.2 with
      | some hi => min hi (s.x a).toNat
      | none => (s.x a).toNat
    let next := if bound ≤ r.1 ∨ n = 0 then stop else start
    if next % 2 ^ 64 ≥ 2 ^ 52 then s.trap cRange (BitVec.ofNat 64 next)
    else if bound ≤ r.1 ∨ n = 0 then s.retireTo (BitVec.ofNat 52 stop)
    else
      let l : LoopLevel :=
        { idx := BitVec.ofNat 64 r.1, trip := BitVec.ofNat 64 bound,
          start := BitVec.ofNat 64 (start % 2 ^ 52) ||| (1#64 <<< 63) ||| (d.setWidth 64 <<< 56),
          stop := BitVec.ofNat 64 (stop % 2 ^ 52) }
      ((s.setLp (vset (n := 3) s.cur.lp v l)).writeX d (BitVec.ofNat 64 r.1)).retireTo (BitVec.ofNat 52 start)))

/-- `LOOP` (R91, R176). -/
def execLoop (o : OpL) (s : State) : Out := loopOp 4 o.d o.a o.v o.len.toNat s
/-- `LOOP`, wide form (R37, R91). -/
def execLoopWide (o : OpLW) (s : State) : Out := loopOp 8 o.d o.a o.v o.len.toNat s

end Sys2Proof.Machine
end

