-- ==== Sys2Proof/Machine/VMem.lean ====
section
/-! DEFINITION. Vector memory: VLD, VST and VAMO (R121-R132, R186-R188), in batches of at most 32 pages (R214), with the faulting
elements in `m15` and one fault record (R124, R312). -/

namespace Sys2Proof.Machine

/-- The address modes of R121 and R128: unit stride, strided, indexed. -/
inductive VMode where
  | unit | strided | indexed
  deriving DecidableEq, Repr

/-- What a vector memory instruction does with its elements. -/
inductive VKind where
  /-- R123; `ff` for `VLDFF` (R126). -/
  | load (ff : Bool)
  /-- R129, R130. -/
  | store (ordered : Bool)
  /-- R187: the operation, and whether any tag is allowed (`VAMOSWAP`). -/
  | amo (f : Bool → Nat → Nat → Nat → Nat) (anyTag : Bool)

def VKind.acc : VKind → Acc
  | .load _ => .read
  | .store _ => .write
  | .amo _ _ => .amo

/-- No element at or above the lowest faulting one performs (R131, R188). -/
def VKind.ordered : VKind → Bool
  | .load _ => false
  | .store b => b
  | .amo _ _ => true

def VKind.isLoad : VKind → Bool
  | .load _ => true
  | _ => false

def VKind.isStore : VKind → Bool
  | .store _ => true
  | _ => false

def VKind.firstFault : VKind → Bool
  | .load b => b
  | _ => false

/-! Operands. -/

/-- The tag of a load's result (R122). -/
def loadTag (ew : Nat) (t : Tag) : Tag := if tagOk t && byteWidth t == ew then t else tagUint ew

/-- The tag rule of the register in the d field: the tag that it has after the instruction (R122, R128, R186). A VAMO with EW 8 or 16 raises
the tag trap with `tval` 0 (DESIGN CHOICE: R186 names no trap for it; log entry 19). -/
def vmTag (k : VKind) (ew : Nat) (t : Tag) : VRes Tag :=
  match k with
  | .load _ => .ok (loadTag ew t)
  | .store _ => if tagOk t && byteWidth t == ew then .ok t else tagTrap t
  | .amo _ any =>
    if ew < 32 then spanTrap
    else if tagOk t && (if any then okNotNW t else (tagKind t).isIX) && tagWidth t == ew then .ok t else tagTrap t
where
  okNotNW (t : Tag) : Bool := !(tagKind t).isNW

/-- The offsets of R121 as a function of the element, with the checks on an index vector. `d` is the vector register that the
instruction writes, if any. -/
def offsets (e : Entry) (s : State) (m : VMode) (b : BitVec 5) (d : Option (BitVec 5)) : VRes (Nat → Word) :=
  match m with
  | .unit => .ok fun i => BitVec.ofNat 64 (i * (e.ew / 8))
  | .strided => .ok fun i => BitVec.ofNat 64 i * e.xb
  | .indexed => do
    let t := s.vtag b
    need (tagOk t && (tagKind t).isIX && (tagWidth t == 32 || tagWidth t == 64)) t
    let bits ← readSpan s e b (tagWidth t)
    match d with
    | some d => e.noOverlap d e.ew b (tagWidth t)
    | none => .ok ()
    .ok fun i => indexOf t (elem (tagWidth t) bits i)

/-! Elements, batches and their performance. -/

/-- An active element: its index and its address. -/
abbrev El := Nat × Nat

/-- The lowest element that fails the address check or the alignment check of R123. -/
def badEa (n : Nat) (ea : Nat → Word) (on : List Nat) : Option (BitVec 8 × Word) :=
  match on.find? fun i => decide (2 ^ 52 ≤ (ea i).toNat) || (ea i).toNat % n != 0 with
  | none => none
  | some i => some (if 2 ^ 52 ≤ (ea i).toNat then cRange else cAlign, ea i)

/-- A batch and what is left: the longest run that touches at most 32 pages (R214). -/
def takeBatch : List Nat → List El → List El × List El
  | _, [] => ([], [])
  | ps, x :: xs =>
    let p := x.2 / 2 ^ 16
    if ps.contains p then let r := takeBatch ps xs; (x :: r.1, r.2)
    else if ps.length < 32 then let r := takeBatch (p :: ps) xs; (x :: r.1, r.2)
    else ([], x :: xs)

/-- Pinning the pages of some elements (R214): each page is translated once, in the order of the elements. `held` are the pins that other batches of
the entry hold. -/
def pinAll (acc : Acc) (held : List (Nat × Pin)) : State → List El → List (Nat × Pin) → List (Nat × Pin) × State
  | s, [], ps => (ps, s)
  | s, x :: xs, ps =>
    let p := x.2 / 2 ^ 16
    if ps.any (·.1 == p) then pinAll acc held s xs ps
    else
      let r := findLeaf s s.cur.sys.asid.toNat s.cur.sys.ptbase.toNat x.2 acc
      let qs := ps ++ [(p, match r.1 with | .ok (e, b) => .leaf e b | .error c => .fault c)]
      pinAll acc held (r.2.setHead fun h => { h with pins := held ++ qs }) xs qs

/-- The place of an element under the pins of its batch. -/
def pinned (s : State) (ps : List (Nat × Pin)) (va : Nat) : Tr :=
  match ps.find? (·.1 == va / 2 ^ 16) with
  | some (_, .leaf e block) => leafLoc s s.cur.sys.asid.toNat va e block false
  | some (_, .fault c) => .fault c
  | none => .fault 1

/-- An element that faults: its index, its address, the page CODE, the poisoned line. -/
structure BadEl where
  i : Nat
  va : Nat
  code : Nat
  pline : Nat
  deriving DecidableEq, Repr

/-- The performance of elements so far: results by element, elements that have performed, faulting elements in ascending order, elements
left out, a refused element with its address (R186, R370), the batch in progress (R214), and the element at which a `VLDFF` trims,
unless it has become a `VLD` (R126). -/
structure Perf where
  s : State
  out : List (Nat × Nat)
  did : List Nat
  bad : List BadEl
  rest : List Nat
  stop : Option (Nat × Nat)
  pins : List (Nat × Pin)
  upto : Nat
  cut : Option Nat
  plain : Bool
  place : Placing
  /-- Lines that the instruction has read (R207). -/
  seen : List Nat

/-- Homed outside the device (R186). -/
def Loc.outsideDevice : Loc → Bool
  | .mem pa _ => match regionOf pa with
    | .far => true
    | _ => false
  | .peer _ _ => true
  | _ => false

/-- How an entry's accesses place lines (R208): by its hint and, without one, by its footprint against `fthresh`: `vl` × |stride| for `VLDS` and
`VSTS`, `vl` × EW / 8 for every other mode. A VAMO places lines as a scalar AMO does (DEDUCED, log entry 41). -/
def VKind.placing (k : VKind) (md : VMode) (e : Entry) (s : State) : Placing :=
  let foot := match md, k with
    | .strided, .store false => e.vl * (e.ew / 8)
    | .strided, _ => e.vl * e.xb.toInt.natAbs
    | _, _ => e.vl * (e.ew / 8)
  let small := decide (foot ≤ s.cur.u.fthresh.toNat)
  match k, e.mid with
  | .load _, 0 => if small then .high else .none
  | .load _, 2 => .high
  | .store _, 0 => if small then .normal else .none
  | .store _, 2 => .high
  | .amo _ _, _ => .normal
  | _, _ => .none

/-- One element at a place (R123, R130, R187): the state and the value that the d register receives. `again` says that the instruction has read
the line before. -/
def VKind.element (k : VKind) (place : Placing) (again sgn : Bool) (n : Nat) (s : State) (l : Loc) (d : Nat) : Nat × State :=
  match k with
  | .load _ => let r := locRead (if again then l.againTouch s else l.vectorTouch place false s) l n; (Memory.leVal r.1, r.2)
  | .store _ => (0, locWrite (l.vectorTouch place true s) l (leBytes n d))
  | .amo f _ =>
    let r := locRead (l.amoTouch true s) l n
    let w := Memory.leVal r.1
    (w, locWrite r.2 l (leBytes n (f sgn (8 * n) w d)))

/-- One translated element: after a refusal nothing performs, and in an ordered instruction nothing after a fault, whose batch
still names its faulting pages (R131). A VAMO's element that meets poison outside the device is reported for its poison (DESIGN CHOICE: R186 and
R321 give no order; log entry 21). -/
def performEl (k : VKind) (sgn : Bool) (n : Nat) (data : Nat → Nat) (p : Perf) (x : El) : Perf :=
  let i := x.1
  let a := x.2
  let blocked := p.stop.isSome || (k.ordered && !p.bad.isEmpty)
  match pinned p.s p.pins a with
  | .fault c => if p.stop.isSome then { p with rest := i :: p.rest }
      else { p with bad := p.bad ++ [⟨i, a, c, if c = 6 then a / 128 * 128 else 0⟩] }
  | .hold => { p with rest := i :: p.rest }
  | .outside => if blocked || !p.bad.isEmpty then { p with rest := i :: p.rest } else { p with stop := some (i, a) }
  | .at l =>
    if blocked then { p with rest := i :: p.rest }
    else
      match k with
      | .store _ => { p with s := (k.element p.place false sgn n p.s l (data i)).2, did := i :: p.did }
      | _ =>
        match locPoison p.s l n with
        | some off => { p with bad := p.bad ++ [⟨i, a, 6, (a + off) / 128 * 128⟩] }
        | none =>
          if !k.isLoad && l.outsideDevice then
            (if p.bad.isEmpty then { p with stop := some (i, a) } else { p with rest := i :: p.rest })
          else
            let again := l.lineKey.any p.seen.contains
            let r := k.element p.place again sgn n p.s l (data i)
            { p with s := r.2.noteRead a n, out := (i, r.1) :: p.out, did := i :: p.did
                     seen := if again then p.seen else l.lineKey.toList ++ p.seen }

/-- The batch that element x begins or goes on with: its elements, what is left, its pins, and the state after their translation. -/
def batchOf (k : VKind) (held : List (Nat × Pin)) (p : Perf) (els : List El) : List El × List El × List (Nat × Pin) × State :=
  match els with
  | [] => ([], [], [], p.s)
  | x :: _ =>
    if !p.pins.isEmpty && decide (x.1 < p.upto) then
      (els.takeWhile fun y => decide (y.1 < p.upto), els.dropWhile fun y => decide (y.1 < p.upto), p.pins, p.s)
    else
      let b := takeBatch [] els
      let q := pinAll k.acc held p.s b.1 []
      (b.1, b.2, q.1, q.2)

/-- A page CODE that trims a `VLDFF` (R126, R212): poison in a table and a page in transit go to the service (R317, R321). -/
def trims : Tr → Bool
  | .fault c => c != 6 && c != 7
  | _ => false

/-- The lowest element of a batch whose translation faults (R126). -/
def batchCut (s : State) (pins : List (Nat × Pin)) (b : List El) : Option Nat :=
  (b.find? fun x => trims (pinned s pins x.2)).map (·.1)

/-- The batches of R214 in turn, for the elements below hi. `fuel` bounds their number. In an ordered instruction a batch above a fault
performs nothing. A `VLDFF` trims at the lowest element of a batch that faults, unless that is the lowest of all, `low` (R126). -/
def perform (k : VKind) (sgn : Bool) (n : Nat) (data : Nat → Nat) (hi low : Nat) : Nat → List El → Perf → Perf
  | 0, _, p => p
  | fuel + 1, els, p =>
    match els with
    | [] => { p with pins := [], upto := 0 }
    | x :: _ =>
      if hi ≤ x.1 then p
      else if p.stop.isSome || (k.ordered && !p.bad.isEmpty) then { p with rest := els.map (·.1) ++ p.rest, pins := [], upto := 0 }
      else
        let b := batchOf k [] p els
        let cut := if k.firstFault && !p.plain then batchCut b.2.2.2 b.2.2.1 b.1 else none
        let p1 := { p with s := b.2.2.2, pins := b.2.2.1, upto := ((b.1.getLast?).map (·.1 + 1)).getD 0,
                           plain := p.plain || cut == some low }
        match cut with
        | some c =>
          if c = low then
            let p2 := (b.1.filter fun y => decide (y.1 < hi)).foldl (performEl k sgn n data) p1
            if b.1.all fun y => decide (y.1 < hi) then perform k sgn n data hi low fuel b.2.1 { p2 with pins := [], upto := 0 } else p2
          else
            let now := b.1.filter fun y => decide (y.1 < c ∧ y.1 < hi)
            { now.foldl (performEl k sgn n data) p1 with cut := some c }
        | none =>
          let p2 := (b.1.filter fun y => decide (y.1 < hi)).foldl (performEl k sgn n data) p1
          if b.1.all fun y => decide (y.1 < hi) then perform k sgn n data hi low fuel b.2.1 { p2 with pins := [], upto := 0 } else p2

/-- An unordered store at work (R130): the performance, the batches that are pinned, each with its elements below the bound that have still to
perform, the elements of no batch yet, and elements at addresses of no peer that answers. -/
structure Flight where
  p : Perf
  fly : List (List (Nat × Pin) × List El)
  left : List El
  away : List El

/-- Pages that a list of elements touches. -/
def pagesOf (els : List El) : Nat := ((els.map fun x => x.2 / 2 ^ 16).eraseDups).length

/-- Pin slots of a context (R214). -/
def pinSlots : Nat := 96

/-- Pins that the batches of an unordered store in flight hold. -/
def Flight.held (f : Flight) : Nat := (f.fly.map fun b => b.1.length).foldl (· + ·) 0

/-- The next batch can be pinned: it begins below hi and `room` slots take it. -/
def Flight.canPin (f : Flight) (hi room : Nat) : Bool :=
  match f.left with
  | [] => false
  | x :: _ => decide (x.1 < hi) && (f.fly.isEmpty || decide (f.held + pagesOf (takeBatch [] f.left).1 ≤ room))

/-- The next batch is translated and pinned: its faulting elements below hi are known, the others can perform. -/
def Flight.pin (k : VKind) (n : Nat) (data : Nat → Nat) (hi : Nat) (f : Flight) : Flight :=
  let b := batchOf k (f.fly.map (·.1)).flatten f.p f.left
  let s := b.2.2.2
  let now := b.1.filter fun x => decide (x.1 < hi)
  let place (x : El) : Tr := pinned s b.2.2.1 x.2
  let good := now.filter fun x => match place x with | .at _ => true | _ => false
  let away := now.filter fun x => match place x with | .outside => true | _ => false
  let rest := now.filter fun x => match place x with | .fault _ | .hold => true | _ => false
  let p1 := rest.foldl (performEl k false n data) { f.p with s := s, pins := b.2.2.1 }
  let whole := b.1.all fun x => decide (x.1 < hi)
  { p := if whole then { p1 with pins := [], upto := 0 } else { p1 with upto := ((b.1.getLast?).map (·.1 + 1)).getD 0 }
    fly := if good.isEmpty then f.fly else f.fly ++ [(b.2.2.1, good)]
    left := if whole then b.2.1 else []
    away := f.away ++ away }

/-- The batches without element i; one that has performed gives up its pins. -/
def dropFlown (i : Nat) (l : List (List (Nat × Pin) × List El)) : List (List (Nat × Pin) × List El) :=
  (l.map fun b => (b.1, b.2.filter fun x => x.1 != i)).filter fun b => !b.2.isEmpty

/-- One element in flight performs, by a free choice (R73, R130). -/
def Flight.perform (k : VKind) (n : Nat) (data : Nat → Nat) (f : Flight) : Flight :=
  let all := (f.fly.map fun b => b.2.map fun x => (b.1, x)).flatten
  let c := if all.length = 1 then (0, f.p.s) else f.p.s.pick all.length
  match all[c.1]? with
  | none => f
  | some (pins, x) =>
    let keep := f.p.pins
    let p := performEl k false n data { f.p with s := c.2, pins := pins } x
    { f with p := { p with pins := keep }, fly := dropFlown x.1 f.fly }

/-- The steps of an unordered store in a free order: a further batch is pinned, or an element in flight performs. -/
def flight (k : VKind) (n : Nat) (data : Nat → Nat) (hi room : Nat) : Nat → Flight → Flight
  | 0, f => f
  | fuel + 1, f =>
    if f.canPin hi room then
      if f.fly.isEmpty then flight k n data hi room fuel (f.pin k n data hi)
      else
        let c := f.p.s.pick 2
        let f1 := { f with p := { f.p with s := c.2 } }
        flight k n data hi room fuel (if c.1 = 0 then f1.pin k n data hi else f1.perform k n data)
    else if f.fly.isEmpty then f
    else flight k n data hi room fuel (f.perform k n data)

/-- An unordered store (R130, R131): every element below hi that translates performs, in a free order; `room` pin slots are there for it. Below an
element that no peer answers exactly the lower ones perform, where none faults. -/
def performUnordered (k : VKind) (n : Nat) (data : Nat → Nat) (hi room : Nat) (els : List El) (p : Perf) : Perf :=
  let run (hi : Nat) : Flight := flight k n data hi room (2 * els.length + 1) ⟨p, [], els, []⟩
  let f := run hi
  match f.away with
  | [] => f.p
  | x :: _ => if f.p.bad.isEmpty then { (run x.1).p with stop := some x } else { f.p with rest := f.away.map (·.1) ++ f.p.rest }

/-! Records and results. -/

/-- The pages of the faulting elements by first faulting element (R312, R313). -/
def badPages (acc : Acc) : List BadEl → List RecPage → List RecPage
  | [], ps => ps
  | b :: bs, ps =>
    if ps.any fun p => p.page == b.va / 2 ^ 16 then badPages acc bs ps
    else badPages acc bs (ps ++ [⟨b.va / 2 ^ 16, b.code, acc.code⟩])

/-- PLINE of a record with the given pages: the first poisoned line of its first page of CODE 6, 0 without one (R313). -/
def plineOf (bad : List BadEl) (pages : List RecPage) : Nat :=
  match pages.find? (·.code == 6) with
  | some p => ((bad.find? fun b => b.code == 6 && b.va / 2 ^ 16 == p.page).map (·.pline)).getD 0
  | none => 0

/-- Bits of a set of elements. -/
def bitsOf (l : List Nat) : Nat := l.foldl (fun m i => m ||| 1 <<< i) 0

/-- The bits of a that b does not have. -/
def clearBits (a b : Nat) : Nat := a ^^^ (a &&& b)

/-- The elements of a register after some of them have been performed (R106): `res` gives the new bits of an active element, `cover` what the
instruction writes in all its parts. -/
def Entry.putElems (e : Entry) (hi : Nat) (act cover : Nat → Bool) (d : BitVec 5) (w : Nat) (tag : Tag) (res : Nat → Option Nat)
    (s : State) : State :=
  let old := s.regBits e.rlen d.toNat (e.spanLen w)
  let r := e.merge w old hi act fun i => ((res i).getD (elem w old i), 0)
  s.putSpanTo e hi cover d w tag r.1

/-- A record for the faulting elements of an entry, with `m15` naming the elements of the reissue (R124, R312). -/
def faultWait (e : Entry) (acc : Acc) (source : Nat) (bad : List BadEl) (rest : List Nat) (s : State) : EntryOut :=
  let ps := badPages acc bad []
  let s1 := s.putMask 15 (bitsOf (bad.map (·.i) ++ rest))
  let first := (bad.map (·.i)).foldl min (2 ^ 32 - 1)
  let r := s1.newRec source (e.addr.setWidth 64) (e.seq % 2 ^ 32) (ps.take 32) first (decide (32 < ps.length)) 0
    (plineOf bad (ps.take 32)) 0
  .wait r.2 r.1 0

/-- A trap at element i after those below it have performed: `vstart`, or `m15` in a reissue, names what is left. -/
def resumeAt (e : Entry) (i : Nat) (on : List Nat) (s : State) : State :=
  if e.reissue then s.putMask 15 (bitsOf (on.filter fun j => decide (i ≤ j)))
  else s.setHead fun h => { h with vstart := i }

/-- A line that some element needs is owned by an engine (R253, R317): nothing performs yet. -/
def anyHold (s : State) (acc : Acc) (pins : List (Nat × Pin)) (els : List El) : Bool :=
  let q := pinAll acc [] s els pins
  els.any fun x => match pinned q.2 q.1 x.2 with | .hold => true | _ => false

/-- The entries of the context beside the one at the head that runs: those of its queue and of its old threads. -/
def State.beside (s : State) : List Entry :=
  s.cur.viq.drop 1 ++ ((s.core.drains.filter fun d => d.id == s.cur.id && d.thr.born != s.cur.thr.born).map (·.viq)).flatten

/-- Pin slots that are there for an entry (R214): all that the others leave for the oldest uncompleted memory entry of the context, else so many that
32 stay free. -/
def State.pinRoom (s : State) (e : Entry) : Nat :=
  let oldest := s.beside.all fun o => !o.accesses || decide (e.seq < o.seq)
  (if oldest then pinSlots else pinSlots - 32) - (s.beside.map (·.pins.length)).foldl (· + ·) 0

/-- The entry cannot go on below hi: a line is owned by an engine, or its next batch finds no pin slots (R214). -/
def State.memHolds (s : State) (acc : Acc) (e : Entry) (els : List El) (hi : Nat) : Bool :=
  let now := els.filter fun x => decide (x.1 < hi)
  anyHold s acc e.pins now || decide (s.pinRoom e < min 32 (pagesOf now))

/-- The elements that meet a watchpoint (R339), with their addresses and the watchpoints. -/
def watchHits (s : State) (n : Nat) (reads writes : Bool) (els : List El) : List (Nat × Nat × Nat) :=
  els.filterMap fun x => (s.watch x.2 n reads writes).map fun slot => (x.1, x.2, slot)

/-- SKIPW: the next element that matches performs without a stop (R335, R339). -/
def State.skipsWatch (s : State) : Bool := s.cur.dbg.ctl.getLsbD 2

/-- The element at which watchpoints stop the entry. -/
def watchStopAt (s : State) (hits : List (Nat × Nat × Nat)) : Option (Nat × Nat × Nat) := if s.skipsWatch then hits[1]? else hits.head?

/-- SKIPW is spent once the first element that matches has performed. -/
def Perf.spend (p : Perf) (hits : List (Nat × Nat × Nat)) : Perf :=
  match hits with
  | h :: _ =>
    if p.s.skipsWatch && p.did.contains h.1 then { p with s := p.s.setDbg { p.s.cur.dbg with ctl := p.s.cur.dbg.ctl &&& ~~~4#64 } } else p
  | [] => p

/-- What a vector memory instruction works on: its address function, the element bytes, the data and the result. -/
structure MemOp where
  k : VKind
  n : Nat
  tag : Tag
  d : BitVec 5
  gm : BitVec 4
  data : Nat → Nat
  ea : Nat → Word
  place : Placing
  /-- The number of elements: `vl`, or the bytes of `LTFILL`. -/
  count : Nat
  /-- The results of a performance below an element into registers or tables; the first argument is the element of a trim. -/
  put : Option Nat → Perf → Nat → State → State

/-- The performance of the elements below hi from a state on. -/
def MemOp.run (m : MemOp) (e : Entry) (els : List El) (low hi : Nat) (s : State) : Perf :=
  let p0 : Perf := { s := s, out := [], did := [], bad := [], rest := [], stop := none, pins := e.pins, upto := e.upto, cut := none,
                     plain := false, place := m.place, seen := e.seen }
  match m.k with
  | .store false => performUnordered m.k m.n m.data hi (s.pinRoom e) els p0
  | _ => perform m.k (!tagUns m.tag && tagKind m.tag == .sint) m.n m.data hi low (els.length + 1) els p0

/-- The trim of R126 at element c: the governing mask loses every bit from c on below `vl`, and in a reissue `m15` does too. In a reissue that takes
in elements which have performed, so that every cleared element lies above every one that stayed, as R158 says; the steps of R126 clear those of
`m15` alone (DESIGN CHOICE, log entry 19). -/
def MemOp.trim (m : MemOp) (e : Entry) (c : Nat) (s : State) : State :=
  let gone := bitsOf ((List.range e.vl).filter fun i => decide (c ≤ i))
  let s1 := s.putMask m.gm (clearBits (s.mask m.gm) gone)
  if e.reissue then s1.putMask 15 (clearBits (s1.mask 15) gone) else s1

/-- Below a trim. -/
def belowCut (cut : Option Nat) (i : Nat) : Bool :=
  match cut with
  | some c => decide (i < c)
  | none => true

/-- The results of elements that have performed, and of those that a trim at c has made inactive, in register d (R106, R126). -/
def Entry.putMemElems (e : Entry) (k : VKind) (d : BitVec 5) (tag : Tag) (gov : Option Nat) (act : Nat → Bool) (cut : Option Nat) (p : Perf)
    (hi : Nat) (s : State) : State :=
  if k.isStore then s
  else
    let res (i : Nat) : Option Nat :=
      match cut with
      | some c => if c ≤ i then (if e.mp then some 0 else none) else (p.out.find? (·.1 == i)).map (·.2)
      | none => (p.out.find? (·.1 == i)).map (·.2)
    let cover := e.covers (fun i => governed gov i && belowCut cut i) fun i => !act i || (res i).isSome
    e.putElems hi act cover d e.ew tag res s

/-- The element at which a performance trims: one that does not translate, or `cut0`, the first one that the address range stops, unless the
instruction has become a `VLD` (R126). -/
def Perf.trimAt (p : Perf) (cut0 : Option Nat) : Option Nat :=
  match p.cut with
  | some c => some c
  | none => if p.plain then none else cut0

/-- What follows the performance p of the elements below hi: a refusal, a watch stop, a record, the next group, or the end. A trim is made whole when
it is found; in a reissue, whose later groups no longer name the trimmed elements, these follow the mask policy at once. `on` are the active
elements. -/
def MemOp.close (m : MemOp) (e : Entry) (on : List Nat) (cut : Option Nat) (hi : Nat) (w : Option (Nat × Nat × Nat)) (p : Perf) :
    EntryOut :=
  let on := on.filter (belowCut cut)
  let put (hi : Nat) : State :=
    let s := m.put cut p (if e.reissue && cut.isSome then m.count else hi) p.s
    let s1 := match cut with
      | some c => m.trim e c s
      | none => s
    s1.setHead fun h => { h with pins := p.pins, upto := p.upto, seen := p.seen }
  match p.stop, w with
  | some (i, a), _ => .trap (resumeAt e i on (put i)) cOutside (BitVec.ofNat 64 a)
  | none, some (i, va, slot) =>
    if p.bad.isEmpty then .watch (resumeAt e i on (put i)) i slot va
    else faultWait e m.k.acc 2 p.bad (p.rest ++ on.filter fun j => decide (i ≤ j)) (put i)
  | none, none =>
    if p.bad.isEmpty then (if hi < m.count then EntryOut.part else EntryOut.done) (put hi) 0
    else faultWait e m.k.acc 2 p.bad p.rest (put hi)

/-- The active elements below hi that an entry reaches: up to its refused element, of an ordered one up to its lowest faulting element, and below
its trim. -/
def MemOp.reach (m : MemOp) (p : Perf) (cut : Option Nat) (hi : Nat) (els : List El) : List El :=
  let top := match p.stop, p.bad with
    | some (i, _), _ => i + 1
    | none, b :: _ => if m.k.ordered then b.i + 1 else hi
    | none, [] => hi
  els.filter fun x => decide (x.1 < hi ∧ x.1 < top) && belowCut cut x.1

/-- The elements below hi, or, where one of them faults, all of them: the record names every faulting element (R214), and a line that an engine owns
makes the entry wait first. A watchpoint that an element meets, whether or not it translates, stops the run below it (R339). -/
def MemOp.go (m : MemOp) (e : Entry) (on : List Nat) (els : List El) (low : Nat) (cut0 : Option Nat) (hi : Nat)
    (s : State) : EntryOut :=
  let p1 := m.run e els low hi s
  let hi := if p1.bad.isEmpty then hi else m.count
  let p := if p1.bad.isEmpty then p1 else m.run e els low hi s
  let cut := p.trimAt cut0
  if !p1.bad.isEmpty && !m.k.ordered && anyHold s m.k.acc e.pins (els.filter fun x => belowCut cut x.1) then .hold s
  else
    let hits := watchHits s m.n (!m.k.isStore) (!m.k.isLoad) (m.reach p cut hi els)
    match watchStopAt s hits with
    | none => m.close e on cut hi none (p.spend hits)
    | some w => m.close e on cut hi (some w) ((m.run e els low w.1 s).spend hits)

/-- More flags. -/
def EntryOut.flag (fl : Word) : EntryOut → EntryOut
  | .done s f => .done s (f ||| fl)
  | .part s f => .part s (f ||| fl)
  | .wait s r f => .wait s r (f ||| fl)
  | o => o

/-- The lowest element of a `VLDFF` at which the steps of R126 trim when its addresses are misaligned, so that nothing performs: the first
that the address range stops or that does not translate. -/
def misalignedCut (s : State) (els : List El) (cut0 : Option Nat) : Option Nat :=
  let q := pinAll .read [] s els []
  match batchCut q.2 q.1 els with
  | some c => some c
  | none => cut0

/-- The execution of a vector memory instruction (R123, R126, R128-R131, R187, R188). -/
def runMem (k : VKind) (md : VMode) (off : Word) (d b : BitVec 5) (mk : BitVec 4) : VRun := fun e hi s =>
  elementwise e s (do
    let w := e.ew
    let n := w / 8
    let tag ← vmTag k w (s.vtag d)
    needSpan (e.spanOk d w)
    let offs ← offsets e s md b (if k.isStore then none else some d)
    let dv ← if k.isLoad then (.ok 0 : VRes Nat) else readSpan s e d w
    let gov ← govMask s mk
    let act := e.active s gov
    let on := (List.range e.vl).filter act
    let ea (i : Nat) : Word := e.xa + off + offs i
    let far (i : Nat) : Bool := decide (2 ^ 52 ≤ (ea i).toNat)
    let m : MemOp := ⟨k, n, tag, d, mk, elem w dv, ea, k.placing md e s, e.vl, e.putMemElems k d tag gov act⟩
    -- the lowest active element of the instruction, done or not
    let whole : Entry := { e with vstart := if e.reissue then 0 else e.first }
    let low := ((List.range e.vl).find? (whole.active s gov)).getD 0
    -- R126: elements from the lowest one that the address range stops are trimmed, not faulted
    let cut0 := if k.firstFault then on.find? far else none
    let cut0 := if cut0 == some low then none else cut0
    let kept := match cut0 with
      | some c => on.filter fun i => decide (i < c)
      | none => on
    let els : List El := kept.map fun i => (i, (ea i).toNat)
    match badEa n ea kept with
    | some (c, t) =>
      if k.firstFault && !kept.any far then
        match misalignedCut s els cut0 with
        | some x => if x = low then .error (c, t) else .ok (.trap (m.trim e x s) c t)
        | none => .error (c, t)
      else .error (c, t)
    | none =>
      -- a `VLDFF` whose lowest element faults is a `VLD`, whose address range is checked whole
      let first := pinAll k.acc [] s (els.take 1) []
      if cut0.isSome && (batchCut first.2 first.1 (els.take 1)).isSome then .error (cRange, ea (cut0.getD 0))
      else if s.memHolds k.acc e els hi then .ok (.hold s)
      else .ok (m.go e on els low cut0 hi s))

/-! The atomic operations of R187, on the width, the word and the operand. -/

def amoAdd (_ : Bool) (w x b : Nat) : Nat := (x + b) % 2 ^ w
def amoBinc (_ : Bool) (_ x b : Nat) : Nat := if x < b then x + 1 else x
def amoMin (sgn : Bool) (w x b : Nat) : Nat := if sgn then (if sval w x ≤ sval w b then x else b) else Nat.min x b
def amoMax (sgn : Bool) (w x b : Nat) : Nat := if sgn then (if sval w b ≤ sval w x then x else b) else Nat.max x b
def amoSwap (_ : Bool) (_ _ b : Nat) : Nat := b

/-! The instructions. -/

def codeVm (maj : BitVec 5) (mode : BitVec 3) (o : OpVm) : Code := .word (std maj o.c (bodyR o.d o.a o.b (o.m ++ o.h ++ mode)))
def codeVmW (maj : BitVec 5) (mode : BitVec 3) (o : OpVmW) : Code :=
  .wide (wid maj o.c (bodyR o.d o.a o.b (o.m ++ o.h ++ mode))) o.off

/-- What a push of format VM needs (R31, R40, R16). -/
def infoVm (k : VKind) (m : VMode) (d a b : BitVec 5) : VInfo :=
  ⟨if k.isLoad then .ld else .st, if k.isStore then none else some d, none, some a,
   match m with | .strided => some b | _ => none, none⟩

def vmOp (k : VKind) (m : VMode) (ok : Bool) (o : OpVm) : VOp := ⟨ok, infoVm k m o.d o.a o.b, runMem k m 0 o.d o.b o.m⟩
def vmOpW (k : VKind) (m : VMode) (ok : Bool) (o : OpVmW) : VOp :=
  ⟨ok, infoVm k m o.d o.a o.b, runMem k m (sext o.off) o.d o.b o.m⟩

/-- `VLD` (R123). -/
def vopVld (o : OpVm) : VOp := vmOp (.load false) .unit (o.b == 0 && decide (o.h < 3)) o
/-- `VLD` (R123). -/
def execVld (o : OpVm) (s : State) : Out := pushVector (codeVm 19 0 o) 4 o.c (vopVld o) s
/-- `VLD`, wide form (R37, R123). -/
def vopVldWide (o : OpVmW) : VOp := vmOpW (.load false) .unit (o.b == 0 && decide (o.h < 3)) o
/-- `VLD`, wide form (R37, R123). -/
def execVldWide (o : OpVmW) (s : State) : Out := pushVector (codeVmW 19 0 o) 8 o.c (vopVldWide o) s

/-- `VLDS` (R123). -/
def vopVlds (o : OpVm) : VOp := vmOp (.load false) .strided (decide (o.h < 3)) o
/-- `VLDS` (R123). -/
def execVlds (o : OpVm) (s : State) : Out := pushVector (codeVm 19 1 o) 4 o.c (vopVlds o) s
/-- `VLDS`, wide form (R37, R123). -/
def vopVldsWide (o : OpVmW) : VOp := vmOpW (.load false) .strided (decide (o.h < 3)) o
/-- `VLDS`, wide form (R37, R123). -/
def execVldsWide (o : OpVmW) (s : State) : Out := pushVector (codeVmW 19 1 o) 8 o.c (vopVldsWide o) s

/-- `VLDX` (R123). -/
def vopVldx (o : OpVm) : VOp := vmOp (.load false) .indexed (decide (o.h < 3)) o
/-- `VLDX` (R123). -/
def execVldx (o : OpVm) (s : State) : Out := pushVector (codeVm 19 2 o) 4 o.c (vopVldx o) s
/-- `VLDX`, wide form (R37, R123). -/
def vopVldxWide (o : OpVmW) : VOp := vmOpW (.load false) .indexed (decide (o.h < 3)) o
/-- `VLDX`, wide form (R37, R123). -/
def execVldxWide (o : OpVmW) (s : State) : Out := pushVector (codeVmW 19 2 o) 8 o.c (vopVldxWide o) s

/-- `VLDFF` (R126). -/
def vopVldff (o : OpVm) : VOp := vmOp (.load true) .unit (o.b == 0 && decide (o.h < 3) && o.m != 15) o
/-- `VLDFF` (R126). -/
def execVldff (o : OpVm) (s : State) : Out := pushVector (codeVm 19 3 o) 4 o.c (vopVldff o) s
/-- `VLDFF`, wide form (R37, R126). -/
def vopVldffWide (o : OpVmW) : VOp := vmOpW (.load true) .unit (o.b == 0 && decide (o.h < 3) && o.m != 15) o
/-- `VLDFF`, wide form (R37, R126). -/
def execVldffWide (o : OpVmW) (s : State) : Out := pushVector (codeVmW 19 3 o) 8 o.c (vopVldffWide o) s

/-- `VST` (R129). -/
def vopVst (o : OpVm) : VOp := vmOp (.store true) .unit (o.b == 0 && decide (o.h < 3)) o
/-- `VST` (R129). -/
def execVst (o : OpVm) (s : State) : Out := pushVector (codeVm 20 0 o) 4 o.c (vopVst o) s
/-- `VST`, wide form (R37, R129). -/
def vopVstWide (o : OpVmW) : VOp := vmOpW (.store true) .unit (o.b == 0 && decide (o.h < 3)) o
/-- `VST`, wide form (R37, R129). -/
def execVstWide (o : OpVmW) (s : State) : Out := pushVector (codeVmW 20 0 o) 8 o.c (vopVstWide o) s

/-- `VSTS` (R129). -/
def vopVsts (o : OpVm) : VOp := vmOp (.store true) .strided (decide (o.h < 3)) o
/-- `VSTS` (R129). -/
def execVsts (o : OpVm) (s : State) : Out := pushVector (codeVm 20 1 o) 4 o.c (vopVsts o) s
/-- `VSTS`, wide form (R37, R129). -/
def vopVstsWide (o : OpVmW) : VOp := vmOpW (.store true) .strided (decide (o.h < 3)) o
/-- `VSTS`, wide form (R37, R129). -/
def execVstsWide (o : OpVmW) (s : State) : Out := pushVector (codeVmW 20 1 o) 8 o.c (vopVstsWide o) s

/-- `VSTX` (R129). -/
def vopVstx (o : OpVm) : VOp := vmOp (.store true) .indexed (decide (o.h < 3)) o
/-- `VSTX` (R129). -/
def execVstx (o : OpVm) (s : State) : Out := pushVector (codeVm 20 2 o) 4 o.c (vopVstx o) s
/-- `VSTX`, wide form (R37, R129). -/
def vopVstxWide (o : OpVmW) : VOp := vmOpW (.store true) .indexed (decide (o.h < 3)) o
/-- `VSTX`, wide form (R37, R129). -/
def execVstxWide (o : OpVmW) (s : State) : Out := pushVector (codeVmW 20 2 o) 8 o.c (vopVstxWide o) s

/-- `VSTU` (R130). -/
def vopVstu (o : OpVm) : VOp := vmOp (.store false) .unit (o.b == 0 && decide (o.h < 3)) o
/-- `VSTU` (R130). -/
def execVstu (o : OpVm) (s : State) : Out := pushVector (codeVm 20 3 o) 4 o.c (vopVstu o) s
/-- `VSTU`, wide form (R37, R130). -/
def vopVstuWide (o : OpVmW) : VOp := vmOpW (.store false) .unit (o.b == 0 && decide (o.h < 3)) o
/-- `VSTU`, wide form (R37, R130). -/
def execVstuWide (o : OpVmW) (s : State) : Out := pushVector (codeVmW 20 3 o) 8 o.c (vopVstuWide o) s

/-- `VSTSU` (R130). -/
def vopVstsu (o : OpVm) : VOp := vmOp (.store false) .strided (decide (o.h < 3)) o
/-- `VSTSU` (R130). -/
def execVstsu (o : OpVm) (s : State) : Out := pushVector (codeVm 20 4 o) 4 o.c (vopVstsu o) s
/-- `VSTSU`, wide form (R37, R130). -/
def vopVstsuWide (o : OpVmW) : VOp := vmOpW (.store false) .strided (decide (o.h < 3)) o
/-- `VSTSU`, wide form (R37, R130). -/
def execVstsuWide (o : OpVmW) (s : State) : Out := pushVector (codeVmW 20 4 o) 8 o.c (vopVstsuWide o) s

/-- `VSTXU` (R130). -/
def vopVstxu (o : OpVm) : VOp := vmOp (.store false) .indexed (decide (o.h < 3)) o
/-- `VSTXU` (R130). -/
def execVstxu (o : OpVm) (s : State) : Out := pushVector (codeVm 20 5 o) 4 o.c (vopVstxu o) s
/-- `VSTXU`, wide form (R37, R130). -/
def vopVstxuWide (o : OpVmW) : VOp := vmOpW (.store false) .indexed (decide (o.h < 3)) o
/-- `VSTXU`, wide form (R37, R130). -/
def execVstxuWide (o : OpVmW) (s : State) : Out := pushVector (codeVmW 20 5 o) 8 o.c (vopVstxuWide o) s

/-- `VAMOADD` (R187). -/
def vopVamoadd (o : OpVm) : VOp := vmOp (.amo amoAdd false) .indexed (true) o
/-- `VAMOADD` (R187). -/
def execVamoadd (o : OpVm) (s : State) : Out := pushVector (codeVm 21 0 o) 4 o.c (vopVamoadd o) s
/-- `VAMOADD`, wide form (R37, R187). -/
def vopVamoaddWide (o : OpVmW) : VOp := vmOpW (.amo amoAdd false) .indexed (true) o
/-- `VAMOADD`, wide form (R37, R187). -/
def execVamoaddWide (o : OpVmW) (s : State) : Out := pushVector (codeVmW 21 0 o) 8 o.c (vopVamoaddWide o) s

/-- `VAMOBINC` (R187). -/
def vopVamobinc (o : OpVm) : VOp := vmOp (.amo amoBinc false) .indexed (true) o
/-- `VAMOBINC` (R187). -/
def execVamobinc (o : OpVm) (s : State) : Out := pushVector (codeVm 21 1 o) 4 o.c (vopVamobinc o) s
/-- `VAMOBINC`, wide form (R37, R187). -/
def vopVamobincWide (o : OpVmW) : VOp := vmOpW (.amo amoBinc false) .indexed (true) o
/-- `VAMOBINC`, wide form (R37, R187). -/
def execVamobincWide (o : OpVmW) (s : State) : Out := pushVector (codeVmW 21 1 o) 8 o.c (vopVamobincWide o) s

/-- `VAMOMIN` (R187). -/
def vopVamomin (o : OpVm) : VOp := vmOp (.amo amoMin false) .indexed (true) o
/-- `VAMOMIN` (R187). -/
def execVamomin (o : OpVm) (s : State) : Out := pushVector (codeVm 21 2 o) 4 o.c (vopVamomin o) s
/-- `VAMOMIN`, wide form (R37, R187). -/
def vopVamominWide (o : OpVmW) : VOp := vmOpW (.amo amoMin false) .indexed (true) o
/-- `VAMOMIN`, wide form (R37, R187). -/
def execVamominWide (o : OpVmW) (s : State) : Out := pushVector (codeVmW 21 2 o) 8 o.c (vopVamominWide o) s

/-- `VAMOMAX` (R187). -/
def vopVamomax (o : OpVm) : VOp := vmOp (.amo amoMax false) .indexed (true) o
/-- `VAMOMAX` (R187). -/
def execVamomax (o : OpVm) (s : State) : Out := pushVector (codeVm 21 3 o) 4 o.c (vopVamomax o) s
/-- `VAMOMAX`, wide form (R37, R187). -/
def vopVamomaxWide (o : OpVmW) : VOp := vmOpW (.amo amoMax false) .indexed (true) o
/-- `VAMOMAX`, wide form (R37, R187). -/
def execVamomaxWide (o : OpVmW) (s : State) : Out := pushVector (codeVmW 21 3 o) 8 o.c (vopVamomaxWide o) s

/-- `VAMOSWAP` (R187). -/
def vopVamoswap (o : OpVm) : VOp := vmOp (.amo amoSwap true) .indexed (true) o
/-- `VAMOSWAP` (R187). -/
def execVamoswap (o : OpVm) (s : State) : Out := pushVector (codeVm 21 4 o) 4 o.c (vopVamoswap o) s
/-- `VAMOSWAP`, wide form (R37, R187). -/
def vopVamoswapWide (o : OpVmW) : VOp := vmOpW (.amo amoSwap true) .indexed (true) o
/-- `VAMOSWAP`, wide form (R37, R187). -/
def execVamoswapWide (o : OpVmW) (s : State) : Out := pushVector (codeVmW 21 4 o) 8 o.c (vopVamoswapWide o) s

end Sys2Proof.Machine
end

