-- ==== Sys2Proof/Machine/VMask.lean ====
section
/-! DEFINITION. Masks (R133-R135) and run partitioning (R149-R154). -/

namespace Sys2Proof.Machine

/-- A mask number. -/
def mnum (r : BitVec 5) : BitVec 4 := r.setWidth 4

/-- An entry that delivers v to `x[d]`: the empty entry gives `v0` (R12). -/
def xResult (e : Entry) (s : State) (d : BitVec 5) (v0 : Word) (r : VRes (Word × Word)) : EntryOut :=
  if e.empty then .done (s.putX d v0) 0
  else
    match r with
    | .ok (v, fl) => .done (s.putX d v) fl
    | .error (c, t) => .trap s c t

/-- The active elements in ascending order (R70). -/
def Entry.actives (e : Entry) (act : Nat → Bool) : List Nat := (List.range e.vl).filter act

/-- A vector operand of any tag but `nib`, `unib` and `row`, of width EW (R134, R137, R141, R152). -/
def readData (e : Entry) (s : State) (r : BitVec 5) : VRes (Tag × Nat) := do
  let t := s.vtag r
  need (tagOk t && okIXFB t && tagWidth t == e.ew) t
  let bits ← readSpan s e r e.ew
  .ok (t, bits)

/-- Mask logic (R133). -/
def runMaskLogic (f : Bool → Bool → Bool) (one : Bool) (o : OpVa) : VRun := fun e hi s =>
  elementwise e s (do
    let a ← readMask s (mnum o.a)
    let b ← if one then (.ok 0 : VRes Nat) else readMask s (mnum o.b)
    let gov ← govMask s o.m
    .ok (emitMask e hi s gov o.d fun i => (f (a.testBit i) (b.testBit i), 0)))

/-- `MSBF`, `MSIF` (R133): `incl` counts element i itself. -/
def runMaskFirst (incl : Bool) (o : OpVa) : VRun := fun e _ s =>
  elementwise e s (do
    let a ← readMask s (mnum o.a)
    let gov ← govMask s o.m
    let act := e.active s gov
    let first := (e.actives act).find? a.testBit
    .ok (emitMask e e.vl s gov o.d fun i =>
      (match first with
        | none => true
        | some j => if incl then decide (i < j) else decide (i ≤ j), 0)))

/-- `MCNT`, `MANY`, `MFIRST` (R135): a function of the active elements with ma set. -/
def runMaskX (v0 : Word) (f : List Nat → Word) (o : OpVa) : VRun := fun e _ s =>
  xResult e s o.d v0 (do
    let a ← readMask s (mnum o.a)
    let gov ← govMask s o.m
    .ok (f ((e.actives (e.active s gov)).filter a.testBit), 0))

/-- `MWHILE` (R151). -/
def runWhile (o : OpVa) : VRun := fun e hi s =>
  elementwise e s (do
    let gov ← govMask s o.m
    .ok (emitMask e hi s gov o.d fun i => (decide (e.xa.toNat + i < e.xb.toNat), 0)))

/-- `MFROMV` (R134). -/
def runFromV (o : OpVa) : VRun := fun e hi s =>
  elementwise e s (do
    let (_, bits) ← readData e s o.a
    let gov ← govMask s o.m
    .ok (emitMask e hi s gov o.d fun i => (elem e.ew bits i != 0, 0)))

/-- `MTOV` (R134). -/
def runToV (o : OpVa) : VRun := fun e hi s =>
  elementwise e s (do
    needSpan (e.spanOk o.d e.ew)
    let a ← readMask s (mnum o.a)
    let gov ← govMask s o.m
    .ok (emitVec e hi s gov o.d e.ew (tagUint e.ew) fun i => ((a.testBit i).toNat, 0)))

/-- Two spans share no register (R141, R152). -/
def Entry.apart (e : Entry) (d : BitVec 5) (dw : Nat) (r : BitVec 5) (rw : Nat) : VRes Unit :=
  needSpan (!(decide (d.toNat < r.toNat + e.spanLen rw ∧ r.toNat < d.toNat + e.spanLen dw)))

/-- `VCONF` (R152). -/
def runConf (o : OpVa) : VRun := fun e _ s =>
  elementwise e s (do
    let e := e.whole
    let (ta, av) ← readData e s o.a
    let (tb, bv) ← readData e s o.b
    need (tagWidth ta == tagWidth tb) tb
    needSpan (e.spanOk o.d 32)
    e.apart o.d 32 o.a e.ew
    e.apart o.d 32 o.b e.ew
    let gov ← govMask s o.m
    let act := e.active s gov
    .ok (emitVec e e.vl s gov o.d 32 0x015 fun i =>
      (match ((e.actives act).filter fun j => decide (j < i) && elem e.ew av j == elem e.ew bv i).getLast? with
        | some j => j + 1
        | none => 0, 0)))

/-- The run of R153: `dep` and `brk` by element, the elements in order, and the run so far, latest first. -/
def buildRun (dep : Nat → Nat) (brk : Nat → Bool) : List Nat → List Nat → List Nat
  | [], run => run
  | i :: is, run =>
    if decide (1 ≤ dep i) && run.contains (dep i - 1) then run
    else if brk i then i :: run
    else buildRun dep brk is (i :: run)

/-- `VPART`, `VPARTB` (R153). -/
def runPart (breaks : Bool) (o : OpVa) : VRun := fun e _ s =>
  elementwise e s (do
    let e := e.whole
    let t := s.vtag o.a
    need (t == 0x011 || t == 0x019 || t == 0x015 || t == 0x01D) t
    let w := tagWidth t
    let bits ← readSpan s e o.a w
    let b ← if breaks then readMask s (mnum o.b) else (.ok 0 : VRes Nat)
    let gov ← govMask s o.m
    let run := buildRun (elem w bits) b.testBit (e.actives (e.active s gov)) []
    .ok (emitMask e e.vl s gov o.d fun i => (run.contains i, 0)))



/-- A mask destination, or a vector one. -/
def infoMask : VInfo := ⟨.alu, none, none, none, none, none⟩
def okMaskD (o : OpVa) : Bool := decide (o.d < 16)
def okMaskA (o : OpVa) : Bool := decide (o.a < 16)
def okMaskB (o : OpVa) : Bool := decide (o.b < 16)

/-- `MAND` (R133). -/
def vopMand (o : OpVa) : VOp := ⟨okMaskD o && okMaskA o && okMaskB o, infoMask, runMaskLogic (· && ·) false o⟩
/-- `MAND` (R133). -/
def execMand (o : OpVa) (s : State) : Out := pushVector (codeVa 22 0 o) 4 o.c (vopMand o) s

/-- `MOR` (R133). -/
def vopMor (o : OpVa) : VOp := ⟨okMaskD o && okMaskA o && okMaskB o, infoMask, runMaskLogic (· || ·) false o⟩
/-- `MOR` (R133). -/
def execMor (o : OpVa) (s : State) : Out := pushVector (codeVa 22 1 o) 4 o.c (vopMor o) s

/-- `MXOR` (R133). -/
def vopMxor (o : OpVa) : VOp := ⟨okMaskD o && okMaskA o && okMaskB o, infoMask, runMaskLogic (· != ·) false o⟩
/-- `MXOR` (R133). -/
def execMxor (o : OpVa) (s : State) : Out := pushVector (codeVa 22 2 o) 4 o.c (vopMxor o) s

/-- `MANDN` (R133). -/
def vopMandn (o : OpVa) : VOp := ⟨okMaskD o && okMaskA o && okMaskB o, infoMask, runMaskLogic (fun a b => a && !b) false o⟩
/-- `MANDN` (R133). -/
def execMandn (o : OpVa) (s : State) : Out := pushVector (codeVa 22 3 o) 4 o.c (vopMandn o) s

/-- `MNOT` (R133). -/
def vopMnot (o : OpVa) : VOp := ⟨o.b == 0 && okMaskD o && okMaskA o, infoMask, runMaskLogic (fun a _ => !a) true o⟩
/-- `MNOT` (R133). -/
def execMnot (o : OpVa) (s : State) : Out := pushVector (codeVa 22 4 o) 4 o.c (vopMnot o) s

/-- `MCNT` (R135). -/
def vopMcnt (o : OpVa) : VOp := ⟨o.b == 0 && okMaskA o, ⟨.alu, none, some o.d, none, none, none⟩, runMaskX 0 (fun l => BitVec.ofNat 64 l.length) o⟩
/-- `MCNT` (R135). -/
def execMcnt (o : OpVa) (s : State) : Out := pushVector (codeVa 22 5 o) 4 o.c (vopMcnt o) s

/-- `MANY` (R135). -/
def vopMany (o : OpVa) : VOp := ⟨o.b == 0 && okMaskA o, ⟨.alu, none, some o.d, none, none, none⟩, runMaskX 0 (fun l => if l.isEmpty then 0 else 1) o⟩
/-- `MANY` (R135). -/
def execMany (o : OpVa) (s : State) : Out := pushVector (codeVa 22 6 o) 4 o.c (vopMany o) s

/-- `MFIRST` (R135). -/
def vopMfirst (o : OpVa) : VOp := ⟨o.b == 0 && okMaskA o, ⟨.alu, none, some o.d, none, none, none⟩, runMaskX allOnes (fun l => match l with | [] => allOnes | i :: _ => BitVec.ofNat 64 i) o⟩
/-- `MFIRST` (R135). -/
def execMfirst (o : OpVa) (s : State) : Out := pushVector (codeVa 22 7 o) 4 o.c (vopMfirst o) s

/-- `MSBF` (R133). -/
def vopMsbf (o : OpVa) : VOp := ⟨o.b == 0 && okMaskD o && okMaskA o, infoMask, runMaskFirst true o⟩
/-- `MSBF` (R133). -/
def execMsbf (o : OpVa) (s : State) : Out := pushVector (codeVa 22 8 o) 4 o.c (vopMsbf o) s

/-- `MSIF` (R133). -/
def vopMsif (o : OpVa) : VOp := ⟨o.b == 0 && okMaskD o && okMaskA o, infoMask, runMaskFirst false o⟩
/-- `MSIF` (R133). -/
def execMsif (o : OpVa) (s : State) : Out := pushVector (codeVa 22 9 o) 4 o.c (vopMsif o) s

/-- `MWHILE` (R151). -/
def vopMwhile (o : OpVa) : VOp := ⟨okMaskD o, ⟨.alu, none, none, some o.a, some o.b, none⟩, runWhile o⟩
/-- `MWHILE` (R151). -/
def execMwhile (o : OpVa) (s : State) : Out := pushVector (codeVa 22 10 o) 4 o.c (vopMwhile o) s

/-- `MFROMV` (R134). -/
def vopMfromv (o : OpVa) : VOp := ⟨o.b == 0 && okMaskD o, infoMask, runFromV o⟩
/-- `MFROMV` (R134). -/
def execMfromv (o : OpVa) (s : State) : Out := pushVector (codeVa 22 11 o) 4 o.c (vopMfromv o) s

/-- `MTOV` (R134). -/
def vopMtov (o : OpVa) : VOp := ⟨o.b == 0 && okMaskA o, ⟨.alu, some o.d, none, none, none, none⟩, runToV o⟩
/-- `MTOV` (R134). -/
def execMtov (o : OpVa) (s : State) : Out := pushVector (codeVa 22 12 o) 4 o.c (vopMtov o) s

/-- `VCONF` (R152). -/
def vopVconf (o : OpVa) : VOp := ⟨true, ⟨.alu, some o.d, none, none, none, none⟩, runConf o⟩
/-- `VCONF` (R152). -/
def execVconf (o : OpVa) (s : State) : Out := pushVector (codeVa 22 13 o) 4 o.c (vopVconf o) s

/-- `VPART` (R153). -/
def vopVpart (o : OpVa) : VOp := ⟨o.b == 0 && okMaskD o, infoMask, runPart false o⟩
/-- `VPART` (R153). -/
def execVpart (o : OpVa) (s : State) : Out := pushVector (codeVa 22 14 o) 4 o.c (vopVpart o) s

/-- `VPARTB` (R153). -/
def vopVpartb (o : OpVa) : VOp := ⟨okMaskD o && okMaskB o, infoMask, runPart true o⟩
/-- `VPARTB` (R153). -/
def execVpartb (o : OpVa) (s : State) : Out := pushVector (codeVa 22 15 o) 4 o.c (vopVpartb o) s

end Sys2Proof.Machine
end

