-- ==== Sys2Proof/Machine/VPerm.lean ====
section
/-! DEFINITION. Major 23 but for the top-k unit: reductions (R137, R138), scans (R140), whole-vector moves (R141-R145),
single-element forms (R146), tags (R147). -/

namespace Sys2Proof.Machine

/-! Reductions. -/

/-- The accumulation format of R137. -/
def accFmt (t : Tag) : Fmt := if t = tagFp64 then fmtFp64 else fmtFp32
def accTag (t : Tag) : Tag := if t = tagFp64 then tagFp64 else tagFp32

/-- A partial sum: absent, or a value (R70), with the flags raised on the way. -/
abbrev Term := Option Exact × Word

/-- One rounded addition in the accumulation format (R70). -/
def Entry.accAdd (e : Entry) (f : Fmt) (x y : Exact) : Exact × Word :=
  let t := Exact.add .rne x y
  let r := roundTo f .rne false e.fres t.1
  (decodeFloat f r.1, t.2 ||| r.2)

/-- `comb` of R70. -/
def Entry.comb (e : Entry) (f : Fmt) (p q : Term) : Term :=
  match p.1, q.1 with
  | none, _ => (q.1, p.2 ||| q.2)
  | some _, none => (p.1, p.2 ||| q.2)
  | some x, some y => let r := e.accAdd f x y; (some r.1, p.2 ||| q.2 ||| r.2)

/-- One level of the tree: neighbours combine. -/
def Entry.treeLevel (e : Entry) (f : Fmt) : List Term → List Term
  | p :: q :: r => e.comb f p q :: treeLevel e f r
  | l => l

/-- The pairwise tree of R70 over 64 terms, in six levels. -/
def Entry.tree (e : Entry) (f : Fmt) : Nat → List Term → List Term
  | 0, l => l
  | n + 1, l => tree e f n (e.treeLevel f l)

/-- The blocks of R70 in turn: the encoding and the value of the sum, and the flags. -/
def Entry.sumBlocks (e : Entry) (f : Fmt) (term : Nat → Option Exact) : Nat → Nat → Nat × Exact × Word → Nat × Exact × Word
  | 0, _, acc => acc
  | n + 1, blk, acc =>
    let t := (e.tree f 6 ((List.range 64).map fun j => (term (64 * blk + j), 0))).headD (none, 0)
    let acc' := match t.1 with
      | none => (acc.1, acc.2.1, acc.2.2 ||| t.2)
      | some x =>
        let a := Exact.add .rne acc.2.1 x
        let r := roundTo f .rne false e.fres a.1
        (r.1, decodeFloat f r.1, acc.2.2 ||| t.2 ||| a.2 ||| r.2)
    sumBlocks e f term n (blk + 1) acc'

/-- An element of a list by a free choice, and the rest. -/
def pickOne {α : Type} (s : State) (l : List α) : Option (α × List α) × State :=
  match l with
  | [] => (none, s)
  | x :: xs =>
    let p := s.pick (xs.length + 1)
    match (x :: xs)[p.1]? with
    | some y => (some (y, (x :: xs).eraseIdx p.1), p.2)
    | none => (some (x, xs), p.2)

/-- A sum of terms in some order (R73): as long as there are two, two of them, chosen freely, give way to their rounded sum. Every tree of
roundings over the terms can be drawn, that of R70 among them. -/
def Entry.sumFree (e : Entry) (f : Fmt) : Nat → State → List (Exact × Word) → (Exact × Word) × State
  | 0, s, l => (l.headD (.zero false, 0), s)
  | n + 1, s, l =>
    match pickOne s l with
    | (some (x, y :: ys), s1) =>
      match pickOne s1 (y :: ys) with
      | (some (z, zs), s2) =>
        let r := e.accAdd f x.1 z.1
        sumFree e f n s2 ((r.1, x.2 ||| z.2 ||| r.2) :: zs)
      | (none, s2) => (x, s2)
    | (some (x, []), s1) => (x, s1)
    | (none, s1) => ((.zero false, 0), s1)

/-- The encoding of a value of a format, which no rounding changes. -/
def encodeIn (f : Fmt) (x : Exact) : Nat := (roundTo f .rne false false x).1

/-- The initial value `x[b]` in the accumulation format (R137). -/
def Entry.init (e : Entry) (t : Tag) : Nat × Exact × Word :=
  let b := e.xb.toNat % 2 ^ tagWidth (accTag t)
  (b, e.val (accTag t) b, 0)

/-- Integer and index sums: modulo 2^64 over the scalar forms (R137). -/
def Entry.sumInt (e : Entry) (t : Tag) (bits : Nat) (on : List Nat) : Word :=
  on.foldl (fun v i => v + BitVec.ofNat 64 (scalarForm t (elem e.ew bits i))) e.xb

/-- `RSUM`, `RSUMU` (R70, R73, R137). -/
def runSum (unordered : Bool) (o : OpVa) : VRun := fun e _ s =>
  if e.empty then .done (s.putX o.d e.xb) 0
  else checked s (do
    let (t, bits) ← readData e s o.a
    let gov ← govMask s o.m
    let act := e.active s gov
    let on := e.actives act
    let v (i : Nat) : Exact := e.val t (elem e.ew bits i)
    let ini := e.init t
    if on.isEmpty then .ok (.done (s.putX o.d e.xb) 0)
    else if !(tagKind t).isFloat then .ok (.done (s.putX o.d (e.sumInt t bits on)) 0)
    else if unordered then
      let r := e.sumFree (accFmt t) on.length s ((ini.2.1, ini.2.2) :: on.map fun i => (v i, 0))
      .ok (.done (r.2.putX o.d (BitVec.ofNat 64 (encodeIn (accFmt t) r.1.1))) r.1.2)
    else
      let r := e.sumBlocks (accFmt t) (fun i => if act i then some (v i) else none) ((e.vl + 63) / 64) 0 ini
      .ok (.done (s.putX o.d (BitVec.ofNat 64 r.1)) r.2.2))

/-- `RMAX`, `RMIN` (R68, R137). -/
def runExtreme (wantMax : Bool) (o : OpVa) : VRun := fun e _ s =>
  xResult e s o.d e.xb (do
    let (t, bits) ← readData e s o.a
    let gov ← govMask s o.m
    let on := e.actives (e.active s gov)
    if on.isEmpty then .ok (e.xb, 0)
    else if (tagKind t).isFloat then
      let r := on.foldl (fun (a : Exact × Word) i =>
        let m := minMaxVal wantMax a.1 (e.val t (elem e.ew bits i))
        (m.1, a.2 ||| m.2)) ((e.init t).2.1, 0)
      .ok (BitVec.ofNat 64 (roundTo (accFmt t) .rne false false r.1).1, r.2)
    else
      let b0 : Int := if tagKind t == .sint then e.xb.toInt else e.xb.toNat
      let r := on.foldl (fun (a : Int) i =>
        let v := ival t (elem e.ew bits i)
        if wantMax then max a v else min a v) b0
      .ok (BitVec.ofInt 64 r, 0))

/-- `RAND`, `ROR`, `RXOR` (R137). -/
def runBits (f : Word → Word → Word) (o : OpVa) : VRun := fun e _ s =>
  xResult e s o.d e.xb (do
    let (_, bits) ← readData e s o.a
    let gov ← govMask s o.m
    .ok ((e.actives (e.active s gov)).foldl (fun v i => f v (BitVec.ofNat 64 (elem e.ew bits i))) e.xb, 0))

/-- y is chosen over x under R69: the order of R68, numbers before NaN. -/
def beats (wantMax : Bool) (x y : Exact) : Bool :=
  if y.isNan then false
  else if x.isNan then true
  else if wantMax then x.below y else y.below x

/-- The index that `RMAXI` and `RMINI` choose: the lowest of the best (R69). -/
def bestIndex (wantMax : Bool) (v : Nat → Exact) : List Nat → Option Nat
  | [] => none
  | i :: is => some (is.foldl (fun b j => if beats wantMax (v b) (v j) then j else b) i)

/-- `RMAXI`, `RMINI` (R138): the index in `x[d]`, the element in `x[b]` unless d = b. A signalling NaN among the active elements sets NV as
in every floating-point operation (R58). Under flush inputs the flushed values are ranked and the element is delivered as it stands in
the register (DESIGN CHOICE: R61 and R69 do not say whether ranking is arithmetic; log entry 22). -/
def runIndex (wantMax : Bool) (o : OpVa) : VRun := fun e _ s =>
  let put (i v : Word) : State := (if o.d = o.b then s else s.putX o.b v).putX o.d i
  if e.empty then .done (put allOnes 0) 0
  else checked s (do
    let (t, bits) ← readData e s o.a
    let gov ← govMask s o.m
    let on := e.actives (e.active s gov)
    let v (i : Nat) : Exact := e.val t (elem e.ew bits i)
    match bestIndex wantMax v on with
    | none => .ok (.done (put allOnes 0) 0)
    | some i => .ok (.done (put (BitVec.ofNat 64 i) (BitVec.ofNat 64 (scalarForm t (elem e.ew bits i))))
        (flIf (on.any fun j => (v j).isSig) flNV)))

/-! Scans and moves. -/

/-- One step of R140. The running sum is flushed only where it comes from a register (R61). -/
def Entry.scanStep (e : Entry) (t : Tag) (fromReg : Bool) (acc x : Nat) : Nat × Word :=
  if (tagKind t).isFloat then
    e.rnd0 t (Exact.add .rne (if fromReg then e.val t acc else decodeFloat (fmtOf t) acc) (e.val t x))
  else onInts (· + ·) t e.ew acc x

/-- The running sums of R140: the accumulated encoding over ascending active elements, with flags. -/
def Entry.scan (e : Entry) (t : Tag) (bits : Nat) : Bool → List Nat → Nat → List (Nat × Nat × Word)
  | _, [], _ => []
  | fromReg, i :: is, acc =>
    let r := e.scanStep t fromReg acc (elem e.ew bits i)
    (i, r.1, r.2) :: scan e t bits false is r.1

/-- `VSCAN` (R140). The flags of the conversion of `x[b]` accrue whether or not an element is active (DESIGN CHOICE: R62 speaks of the flags of
active elements, and the conversion belongs to none; log entry 22). -/
def runScan (o : OpVa) : VRun := fun e _ s =>
  elementwise e s (do
    let (t, bits) ← readData e s o.a
    destOk e o.d e.ew o.a e.ew
    let gov ← govMask s o.m
    let act := e.active s gov
    let below := ({ e with vl := min e.vl e.vstart, vstart := 0 } : Entry).actives
      (({ e with vstart := 0 } : Entry).active s gov)
    let old := s.regBits e.rlen o.d.toNat (e.spanLen e.ew)
    let init := match below.getLast? with
      | some j => (elem e.ew old j, 0)
      | none => elementForm e.flin e.fres t e.xb.toNat
    -- an `fp64` initial value is the encoding in `x[b]`, an operand that the first sum flushes (R61)
    let l := e.scan t bits (below.getLast?.isSome || tagWidth t == 64) (e.actives act) init.1
    match emitVec e e.vl s gov o.d e.ew t (fun i => ((l.find? (·.1 == i)).map (·.2)).getD (0, 0)) with
    | .done s' fl => .ok (.done s' (fl ||| init.2))
    | r => .ok r)

/-- The data operand of a whole-vector instruction, apart from the destination (R141). -/
def wholeData (e : Entry) (s : State) (o : OpVa) : VRes (Tag × Nat) := do
  let r ← readData e s o.a
  needSpan (e.spanOk o.d e.ew)
  e.apart o.d e.ew o.a e.ew
  .ok r

/-- `VCMPR` (R142). -/
def runCompress (o : OpVa) : VRun := fun e _ s =>
  elementwise e s (do
    let e := e.whole
    let (t, bits) ← wholeData e s o
    let gov ← govMask s o.m
    let on := e.actives (e.active s gov)
    let e' : Entry := { e with vl := on.length }
    let r := e'.merge e.ew (s.regBits e.rlen o.d.toNat (e.spanLen e.ew)) on.length (fun _ => true)
      fun i => (elem e.ew bits (on.getD i 0), 0)
    .ok (.done (s.putSpanTo e e.vl (e'.covers (fun _ => true) fun _ => true) o.d e.ew t r.1) 0))

/-- A whole-vector move: what active element i receives, if anything (R141-R144). -/
def runMove (f : Entry → Nat → List Nat → Nat → Option Nat) (o : OpVa) : VRun := fun e _ s =>
  elementwise e s (do
    let e := e.whole
    let (t, bits) ← wholeData e s o
    let gov ← govMask s o.m
    let on := e.actives (e.active s gov)
    let old := s.regBits e.rlen o.d.toNat (e.spanLen e.ew)
    .ok (emitVecOn (fun i => (f e bits on i).isSome) e e.vl s gov o.d e.ew t fun i => ((f e bits on i).getD (elem e.ew old i), 0)))

/-- `VEXPD` (R142). -/
def moveExpand (e : Entry) (bits : Nat) (on : List Nat) (i : Nat) : Option Nat :=
  some (elem e.ew bits (on.filter fun j => decide (j < i)).length)
/-- `VSLUP` (R143). -/
def moveUp (e : Entry) (bits : Nat) (_ : List Nat) (i : Nat) : Option Nat :=
  if e.xb.toNat ≤ i then some (elem e.ew bits (i - e.xb.toNat)) else none
/-- `VSLDN` (R143). -/
def moveDown (e : Entry) (bits : Nat) (_ : List Nat) (i : Nat) : Option Nat :=
  some (if i + e.xb.toNat < e.vl then elem e.ew bits (i + e.xb.toNat) else 0)

/-- An index vector of kind I or X of any width, read as unsigned, apart from the destination (R144, R145). -/
def readIndices (e : Entry) (s : State) (o : OpVa) : VRes (Nat → Nat) := do
  let t := s.vtag o.b
  need (tagOk t && (tagKind t).isIX) t
  let bits ← readSpan s e o.b (tagWidth t)
  e.apart o.d e.ew o.b (tagWidth t)
  .ok (elem (tagWidth t) bits)

/-- `VPERM` (R144). -/
def runPerm (o : OpVa) : VRun := fun e _ s =>
  elementwise e s (do
    let e := e.whole
    let (t, bits) ← wholeData e s o
    let idx ← readIndices e s o
    let gov ← govMask s o.m
    .ok (emitVec e e.vl s gov o.d e.ew t fun i => (if idx i < e.vl then elem e.ew bits (idx i) else 0, 0)))

/-- `VPUSH` (R145). -/
def runPush (o : OpVa) : VRun := fun e _ s =>
  elementwise e s (do
    let e := e.whole
    let (t, bits) ← wholeData e s o
    let idx ← readIndices e s o
    let gov ← govMask s o.m
    let on := (e.actives (e.active s gov)).reverse
    let old := s.regBits e.rlen o.d.toNat (e.spanLen e.ew)
    let r := e.merge e.ew old e.vl (fun _ => true) fun j =>
      (match on.find? fun i => idx i == j with
        | some i => elem e.ew bits i
        | none => elem e.ew old j, 0)
    .ok (.done (s.putSpanTo e e.vl (e.covers (fun _ => true) fun j => on.any fun i => idx i == j) o.d e.ew t r.1) 0))

/-! Single elements. -/

/-- `VLAST` (R146). -/
def runLast (o : OpVa) : VRun := fun e _ s =>
  xResult e s o.d e.xb (do
    let (t, bits) ← readData e s o.a
    let gov ← govMask s o.m
    match (e.actives (e.active s gov)).getLast? with
    | some i => .ok (BitVec.ofNat 64 (scalarForm t (elem e.ew bits i)), 0)
    | none => .ok (e.xb, 0))

/-- `VGET` (R146): `vstart` is ignored (R12). -/
def runGet (o : OpVa) : VRun := fun e _ s =>
  checked s (do
    let (t, bits) ← readData e s o.a
    let i := e.xb.toNat
    .ok (.done (s.putX o.d (if i < e.vl then BitVec.ofNat 64 (scalarForm t (elem e.ew bits i)) else 0)) 0))

/-- One element of a register replaced. -/
def setElem (w bits i v : Nat) : Nat := bits - (elem w bits i) <<< (w * i) + (v % 2 ^ w) <<< (w * i)

/-- `VPUT` (R146): only the register that holds the element is written. Its conversion is a rounding, so flushing applies to it (DESIGN CHOICE:
R61 does not say whether `VPUT` counts as a move; log entry 22). -/
def runPut (o : OpVa) : VRun := fun e _ s =>
  checked s (do
    let t := s.vtag o.d
    need (tagOk t && okIXFB t && tagWidth t == e.ew) t
    needSpan (e.spanOk o.d e.ew)
    let i := e.xb.toNat
    if e.vl ≤ i then .ok (.done s 0)
    else
      let per := 8 * e.rlen / e.ew
      let r : BitVec 5 := o.d + BitVec.ofNat 5 (i / per)
      let v := elementForm e.flin e.fres t e.xa.toNat
      let old := (vget (n := 5) s.cur.v r)
      .ok (.done ((s.putRegs e.rlen old.tag r.toNat 1 (setElem e.ew old.bits (i % per) v.1)).keepBad s r.toNat 1 fun _ => per == 1) v.2))

/-! Tags (R147). -/

/-- The tag of n registers from r on; no element bit moves. -/
def State.retag (s : State) (t : Tag) : Nat → Nat → State
  | _, 0 => s
  | r, n + 1 =>
    let s' := retag s t (r + 1) n
    s'.setCur { s'.cur with
      v := vset (n := 5) s'.cur.v (BitVec.ofNat 5 r) ⟨t, (vget (n := 5) s'.cur.v (BitVec.ofNat 5 r)).bits⟩
      u := { s'.cur.u with vdirty := s'.cur.u.vdirty ||| (1#64 <<< r) } }

/-- A retag to a tag given as 64 bits. -/
def runRetag (v : Entry → Word) (o : OpVa) : VRun := fun e _ s =>
  let t : Tag := (v e).setWidth 10
  if (v e).toNat ≥ 1024 || !tagOk t then .trap s cTag (v e)
  else if !e.spanOk o.d (tagWidth t) then .trap s cTag 0
  else .done (s.retag t o.d.toNat (e.spanLen (tagWidth t))) 0

/-- `VTAGR` (R147). -/
def runTagRead (o : OpVa) : VRun := fun _ _ s => .done (s.putX o.d ((s.vtag o.a).setWidth 64)) 0

/-- `RSUM` (R137). -/
def vopRsum (o : OpVa) : VOp := ⟨true, ⟨.xl, none, some o.d, none, some o.b, none⟩, runSum false o⟩
/-- `RSUM` (R137). -/
def execRsum (o : OpVa) (s : State) : Out := pushVector (codeVa 23 0 o) 4 o.c (vopRsum o) s

/-- `RSUMU` (R137). -/
def vopRsumu (o : OpVa) : VOp := ⟨true, ⟨.xl, none, some o.d, none, some o.b, none⟩, runSum true o⟩
/-- `RSUMU` (R137). -/
def execRsumu (o : OpVa) (s : State) : Out := pushVector (codeVa 23 1 o) 4 o.c (vopRsumu o) s

/-- `RMAX` (R137). -/
def vopRmax (o : OpVa) : VOp := ⟨true, ⟨.xl, none, some o.d, none, some o.b, none⟩, runExtreme true o⟩
/-- `RMAX` (R137). -/
def execRmax (o : OpVa) (s : State) : Out := pushVector (codeVa 23 2 o) 4 o.c (vopRmax o) s

/-- `RMIN` (R137). -/
def vopRmin (o : OpVa) : VOp := ⟨true, ⟨.xl, none, some o.d, none, some o.b, none⟩, runExtreme false o⟩
/-- `RMIN` (R137). -/
def execRmin (o : OpVa) (s : State) : Out := pushVector (codeVa 23 3 o) 4 o.c (vopRmin o) s

/-- `RMAXI` (R138). -/
def vopRmaxi (o : OpVa) : VOp := ⟨true, ⟨.xl, none, some o.d, none, none, none⟩, runIndex true o⟩
/-- `RMAXI` (R138). -/
def execRmaxi (o : OpVa) (s : State) : Out := pushVector (codeVa 23 4 o) 4 o.c (vopRmaxi o) s

/-- `RMINI` (R138). -/
def vopRmini (o : OpVa) : VOp := ⟨true, ⟨.xl, none, some o.d, none, none, none⟩, runIndex false o⟩
/-- `RMINI` (R138). -/
def execRmini (o : OpVa) (s : State) : Out := pushVector (codeVa 23 5 o) 4 o.c (vopRmini o) s

/-- `RAND` (R137). -/
def vopRand (o : OpVa) : VOp := ⟨true, ⟨.xl, none, some o.d, none, some o.b, none⟩, runBits (· &&& ·) o⟩
/-- `RAND` (R137). -/
def execRand (o : OpVa) (s : State) : Out := pushVector (codeVa 23 6 o) 4 o.c (vopRand o) s

/-- `ROR` (R137). -/
def vopRor (o : OpVa) : VOp := ⟨true, ⟨.xl, none, some o.d, none, some o.b, none⟩, runBits (· ||| ·) o⟩
/-- `ROR` (R137). -/
def execRor (o : OpVa) (s : State) : Out := pushVector (codeVa 23 7 o) 4 o.c (vopRor o) s

/-- `RXOR` (R137). -/
def vopRxor (o : OpVa) : VOp := ⟨true, ⟨.xl, none, some o.d, none, some o.b, none⟩, runBits (· ^^^ ·) o⟩
/-- `RXOR` (R137). -/
def execRxor (o : OpVa) (s : State) : Out := pushVector (codeVa 23 8 o) 4 o.c (vopRxor o) s

/-- `VSCAN` (R140). -/
def vopVscan (o : OpVa) : VOp := ⟨true, ⟨.xl, some o.d, none, none, some o.b, none⟩, runScan o⟩
/-- `VSCAN` (R140). -/
def execVscan (o : OpVa) (s : State) : Out := pushVector (codeVa 23 9 o) 4 o.c (vopVscan o) s

/-- `VCMPR` (R142). -/
def vopVcmpr (o : OpVa) : VOp := ⟨o.b == 0, ⟨.xl, some o.d, none, none, none, none⟩, runCompress o⟩
/-- `VCMPR` (R142). -/
def execVcmpr (o : OpVa) (s : State) : Out := pushVector (codeVa 23 10 o) 4 o.c (vopVcmpr o) s

/-- `VEXPD` (R142). -/
def vopVexpd (o : OpVa) : VOp := ⟨o.b == 0, ⟨.xl, some o.d, none, none, none, none⟩, runMove moveExpand o⟩
/-- `VEXPD` (R142). -/
def execVexpd (o : OpVa) (s : State) : Out := pushVector (codeVa 23 11 o) 4 o.c (vopVexpd o) s

/-- `VSLUP` (R143). -/
def vopVslup (o : OpVa) : VOp := ⟨true, ⟨.xl, some o.d, none, none, some o.b, none⟩, runMove moveUp o⟩
/-- `VSLUP` (R143). -/
def execVslup (o : OpVa) (s : State) : Out := pushVector (codeVa 23 12 o) 4 o.c (vopVslup o) s

/-- `VSLDN` (R143). -/
def vopVsldn (o : OpVa) : VOp := ⟨true, ⟨.xl, some o.d, none, none, some o.b, none⟩, runMove moveDown o⟩
/-- `VSLDN` (R143). -/
def execVsldn (o : OpVa) (s : State) : Out := pushVector (codeVa 23 13 o) 4 o.c (vopVsldn o) s

/-- `VPERM` (R144). -/
def vopVperm (o : OpVa) : VOp := ⟨true, ⟨.xl, some o.d, none, none, none, none⟩, runPerm o⟩
/-- `VPERM` (R144). -/
def execVperm (o : OpVa) (s : State) : Out := pushVector (codeVa 23 14 o) 4 o.c (vopVperm o) s

/-- `VPUSH` (R145). -/
def vopVpush (o : OpVa) : VOp := ⟨true, ⟨.xl, some o.d, none, none, none, none⟩, runPush o⟩
/-- `VPUSH` (R145). -/
def execVpush (o : OpVa) (s : State) : Out := pushVector (codeVa 23 15 o) 4 o.c (vopVpush o) s

/-- `VLAST` (R146). -/
def vopVlast (o : OpVa) : VOp := ⟨true, ⟨.xl, none, some o.d, none, some o.b, none⟩, runLast o⟩
/-- `VLAST` (R146). -/
def execVlast (o : OpVa) (s : State) : Out := pushVector (codeVa 23 16 o) 4 o.c (vopVlast o) s

/-- `VGET` (R146). -/
def vopVget (o : OpVa) : VOp := ⟨o.m == 15, ⟨.xl, none, some o.d, none, some o.b, none⟩, runGet o⟩
/-- `VGET` (R146). -/
def execVget (o : OpVa) (s : State) : Out := pushVector (codeVa 23 17 o) 4 o.c (vopVget o) s

/-- `VPUT` (R146). -/
def vopVput (o : OpVa) : VOp := ⟨o.m == 15, ⟨.xl, some o.d, none, some o.a, some o.b, none⟩, runPut o⟩
/-- `VPUT` (R146). -/
def execVput (o : OpVa) (s : State) : Out := pushVector (codeVa 23 18 o) 4 o.c (vopVput o) s

/-- `VTAG` (R147). -/
def vopVtag (o : OpVa) : VOp := ⟨o.m == 15, ⟨.xl, some o.d, none, none, none, none⟩, runRetag (fun _ => (o.b ++ o.a).setWidth 64) o⟩
/-- `VTAG` (R147). -/
def execVtag (o : OpVa) (s : State) : Out := pushVector (codeVa 23 19 o) 4 o.c (vopVtag o) s

/-- `VTAGX` (R147). -/
def vopVtagx (o : OpVa) : VOp := ⟨o.b == 0 && o.m == 15, ⟨.xl, some o.d, none, some o.a, none, none⟩, runRetag (·.xa) o⟩
/-- `VTAGX` (R147). -/
def execVtagx (o : OpVa) (s : State) : Out := pushVector (codeVa 23 20 o) 4 o.c (vopVtagx o) s

/-- `VTAGR` (R147). -/
def vopVtagr (o : OpVa) : VOp := ⟨o.b == 0 && o.m == 15, ⟨.xl, none, some o.d, none, none, none⟩, runTagRead o⟩
/-- `VTAGR` (R147). -/
def execVtagr (o : OpVa) (s : State) : Out := pushVector (codeVa 23 21 o) 4 o.c (vopVtagr o) s

end Sys2Proof.Machine
end

