-- ==== Sys2Proof/Machine/Stores.lean ====
section
/-! DEFINITION. The keyed store (R240-R245), the lane tables (R246, R247) and the top-k unit (R248-R251). Each operation claims its
unit first (R236). -/

namespace Sys2Proof.Machine

/-! The keyed store. -/

/-- The set of a key (R240). -/
def setOf (k : Nat) : Nat := (k ^^^ (k >>> 11) ^^^ (k >>> 22) ^^^ (k >>> 33) ^^^ (k >>> 44) ^^^ (k >>> 55)) % 2048

/-- The valid entry that holds a key. -/
def keyFind (l : List KeyEnt) (k : Nat) : Option KeyEnt := l.find? fun e => e.slot / 8 == setOf k && e.key == k

/-- The lowest free way of a set, as a slot. -/
def freeSlot (l : List KeyEnt) (set : Nat) : Option Nat :=
  ((List.range 8).map (8 * set + ·)).find? fun n => !(l.any fun e => e.slot == n)

/-- A new entry in slot order. -/
def keyInsert (x : KeyEnt) : List KeyEnt → List KeyEnt
  | [] => [x]
  | e :: l => if x.slot < e.slot then x :: e :: l else e :: keyInsert x l

/-- The value of an entry replaced. -/
def keyPut (l : List KeyEnt) (slot v : Nat) : List KeyEnt := l.map fun e => if e.slot = slot then { e with val := v } else e

/-- Elements of `KSINS` and `KSACC` in turn (R242): the store, the elements that fail, the flags. `acc` combines the old value and
the new one. -/
def keyRun (acc : Nat → Nat → Nat × Word) (key val : Nat → Nat) :
    List Nat → List KeyEnt → List Nat → Word → List KeyEnt × List Nat × Word
  | [], l, fails, fl => (l, fails, fl)
  | i :: is, l, fails, fl =>
    match keyFind l (key i) with
    | some e => let r := acc e.val (val i); keyRun acc key val is (keyPut l e.slot r.1) fails (fl ||| r.2)
    | none =>
      match freeSlot l (setOf (key i)) with
      | some n => keyRun acc key val is (keyInsert ⟨n, key i, val i⟩ l) fails fl
      | none => keyRun acc key val is l (i :: fails) fl

def State.setKeyed (s : State) (l : List KeyEnt) : State := s.setCore { s.core with keyed := l }

/-- A poisoned slot in the set of a key (R321). -/
def keyPoison (s : State) (keys : List Nat) : VRes Unit :=
  if keys.any fun k => s.core.keyedBad.any fun n => n / 8 == setOf k then poisonTrap else .ok ()

/-- Keys (R241). -/
def readKeys (e : Entry) (s : State) (r : BitVec 5) : VRes (Nat → Nat) := do
  needSpan (decide (32 ≤ e.ew))
  let t := s.vtag r
  need (tagOk t && (tagKind t).isIX && tagWidth t == e.ew) t
  let bits ← readSpan s e r e.ew
  .ok (elem e.ew bits)

/-- `acc` of R242: the stored value is no operand read from a register, so only the new one is flushed (R61). -/
def Entry.accValue (e : Entry) (t : Tag) (old new : Nat) : Nat × Word :=
  if (tagKind t).isFloat then e.rnd0 t (Exact.add .rne (decodeFloat (fmtOf t) old) (e.val t new))
  else onInts (· + ·) t e.ew old new

/-- `KSINS` (`add` false) and `KSACC` (R242). -/
def runKeyWrite (add : Bool) (o : OpVa) : VRun := fun e _ s0 =>
  let s := s0.claim .keyed
  elementwise e s (do
    let e := e.whole
    let key ← readKeys e s o.a
    let (t, bits) ← readData e s o.b
    let gov ← govMask s o.m
    let on := e.actives (e.active s gov)
    keyPoison s (on.map key)
    let acc (old new : Nat) : Nat × Word :=
      if add then e.accValue t (old % 2 ^ e.ew) new else (new, 0)
    let r := keyRun acc key (elem e.ew bits) on s.core.keyed [] 0
    let s1 := if on.isEmpty then s else (s.setKeyed r.1).dirtyUnit 20
    match emitMask e e.vl s1 gov o.d fun i => (r.2.1.contains i, 0) with
    | .done s2 _ => .ok (.done s2 r.2.2)
    | x => .ok x)

/-- `KSLKP` (R243). -/
def runKeyLookup (o : OpVa) : VRun := fun e _ s0 =>
  let s := s0.claim .keyed
  elementwise e s (do
    let e := e.whole
    let key ← readKeys e s o.a
    destOk e o.d e.ew o.a e.ew
    let gov ← govMask s o.m
    keyPoison s ((e.actives (e.active s gov)).map key)
    let t := loadTag e.ew (s.vtag o.d)
    match emitVec e e.vl s gov o.d e.ew t fun i => (((keyFind s.core.keyed (key i)).map (·.val)).getD 0 % 2 ^ e.ew, 0) with
    | .done s1 _ => .ok (emitMask e e.vl s1 gov o.b fun i => ((keyFind s.core.keyed (key i)).isSome, 0))
    | x => .ok x)

/-- Destinations of the active elements that `got` names. -/
def emitDests (e : Entry) (s : State) (got : Nat → Bool) (dests : List (BitVec 5 × Tag × (Nat → Nat))) : State :=
  dests.foldl (fun s d => e.putElems e.vl got (e.covers got fun _ => true) d.1 e.ew d.2.1 (fun i => some (d.2.2 i)) s) s

/-- Two destinations and a trimmed governing mask (R244, R251, R294): `res` lists the results of the elements that got one, by
element; `gone` the active elements that are trimmed. The governing mask is written whether or not an element is trimmed (R294). -/
def emitTrim (e : Entry) (s : State) (mk : BitVec 4) (act : Nat → Bool) (gone : List Nat)
    (dests : List (BitVec 5 × Tag × (Nat → Nat))) : State :=
  emitDests e (if mk = 15 then s else s.putMask mk (clearBits (s.mask mk) (bitsOf gone))) (fun i => act i && !gone.contains i) dests

/-- `KSDRAIN` (R244). -/
def runKeyDrain (o : OpVa) : VRun := fun e _ s0 =>
  let s := s0.claim .keyed
  elementwise e s (do
    let e := e.whole
    needSpan (decide (32 ≤ e.ew))
    needSpan (e.spanOk o.d e.ew && e.spanOk o.b e.ew)
    e.apart o.d e.ew o.b e.ew
    let gov ← govMask s o.m
    let act := e.active s gov
    let on := e.actives act
    let out := s.core.keyed.take on.length
    if out.any fun k => s.core.keyedBad.contains k.slot then poisonTrap
    else
      let s1 := if out.isEmpty then s else (s.setKeyed (s.core.keyed.drop on.length)).dirtyUnit 20
      let at' (i : Nat) : KeyEnt := ((on.zip out).find? (·.1 == i)).map (·.2) |>.getD ⟨0, 0, 0⟩
      .ok (.done (emitTrim e s1 o.m act (on.drop out.length)
        [(o.d, loadTag e.ew (s.vtag o.d), fun i => (at' i).key % 2 ^ e.ew),
         (o.b, loadTag e.ew (s.vtag o.b), fun i => (at' i).val % 2 ^ e.ew)]) 0))

/-- `KSCLR` (R245). -/
def runKeyClear (_o : OpVa) : VRun := fun _ _ s0 =>
  let s := s0.claim .keyed
  .done ((s.setCore { s.core with keyed := [], keyedBad := [] }).dirtyUnit 20) 0

/-- `KSCNT` (R245). -/
def runKeyCount (o : OpVa) : VRun := fun _ _ s0 =>
  let s := s0.claim .keyed
  .done (s.putX o.d (BitVec.ofNat 64 s.core.keyed.length)) 0

/-! Lane tables. -/

/-- The place of entry j of width w in the table of element i; none past the table (R246). -/
def lanePlace (w i j : Nat) : Option Nat :=
  if j * (w / 8) + w / 8 ≤ 4096 then some (i % 64 * 4096 + j * (w / 8)) else none

/-- The index vector of R246. -/
def readLaneIdx (e : Entry) (s : State) (r : BitVec 5) : VRes (Tag × (Nat → Nat)) := do
  let t := s.vtag r
  need (tagOk t && (tagKind t).isIX && decide (16 ≤ tagWidth t)) t
  let bits ← readSpan s e r (tagWidth t)
  .ok (t, elem (tagWidth t) bits)

/-- A table that an active element reads is poisoned (R321). -/
def lanePoison (s : State) (on : List Nat) : VRes Unit :=
  if on.any fun i => s.core.lanesBad.getLsbD (i % 64) then poisonTrap else .ok ()

/-- `LTLD` (R246). -/
def runLaneLoad (o : OpVa) : VRun := fun e _ s0 =>
  let s := s0.claim .lanes
  elementwise e s (do
    let e := e.whole
    let (ta, idx) ← readLaneIdx e s o.a
    destOk e o.d e.ew o.a (tagWidth ta)
    let gov ← govMask s o.m
    lanePoison s (e.actives (e.active s gov))
    .ok (emitVec e e.vl s gov o.d e.ew (loadTag e.ew (s.vtag o.d)) fun i =>
      match lanePlace e.ew i (idx i) with
      | some p => (s.core.lanes.readVal p (e.ew / 8), 0)
      | none => (0, flLT)))

/-- `LTST` (R246). -/
def runLaneStore (o : OpVa) : VRun := fun e _ s0 =>
  let s := s0.claim .lanes
  elementwise e s (do
    let e := e.whole
    let t := s.vtag o.d
    need (tagOk t && tagKind t != .row && byteWidth t == e.ew) t
    let bits ← readSpan s e o.d e.ew
    let (_, idx) ← readLaneIdx e s o.a
    let gov ← govMask s o.m
    let on := e.actives (e.active s gov)
    let put := on.filter fun i => (lanePlace e.ew i (idx i)).isSome
    let lanes := put.foldl (fun (m : Memory) i =>
      match lanePlace e.ew i (idx i) with
      | some p => m.write p (leBytes (e.ew / 8) (elem e.ew bits i))
      | none => m) s.core.lanes
    let s1 := if put.isEmpty then s else (s.setCore { s.core with lanes := lanes }).dirtyUnit 21
    .ok (.done s1 (flIf (put.length != on.length) flLT)))

/-- Bytes written into all 64 tables (R247). -/
def fillLanes (m : Memory) (bytes : List (Nat × Nat)) : Memory :=
  (List.range 64).foldl (fun m l => bytes.foldl (fun (m : Memory) b => m.write (l * 4096 + b.1) [BitVec.ofNat 8 b.2]) m) m

/-- The bytes that `LTFILL` has read, in all tables. -/
def putLanes (_ : Option Nat) (p : Perf) (_ : Nat) (s : State) : State :=
  if p.out.isEmpty then s
  else (s.setCore { s.core with
    lanes := fillLanes s.core.lanes p.out
    lanesBad := if decide (p.out.length = 4096) then 0 else s.core.lanesBad }).dirtyUnit 21

/-- `LTFILL` (R247): a load of one-byte elements, counted without reference to `vl`. -/
def runLaneFill (_o : OpVa) : VRun := fun e hi s0 =>
  let s := s0.claim .lanes
  let n := e.xb.toNat
  let cnt := e.total
  let on := (List.range cnt).filter fun i => decide (e.vstart ≤ i) && (!e.reissue || (s.mask 15).testBit i)
  let ea (i : Nat) : Word := e.xa + BitVec.ofNat 64 i
  match badEa 1 ea on with
  | some (c, t) => .trap s c t
  | none =>
    let els : List El := on.map fun i => (i, (ea i).toNat)
    let place : Placing := if cnt ≤ s.cur.u.fthresh.toNat then .high else .none
    let m : MemOp := ⟨.load false, 1, 0, 0, 15, fun _ => 0, ea, place, cnt, putLanes⟩
    if s.memHolds .read e els hi then .hold s
    else (m.go e on els 0 none hi s).flag (flIf (decide (4096 < n)) flLT)

/-! The top-k unit. -/

/-- The order of R69 on FP32 encodings that are no NaN. -/
def fpOrd (b : Nat) : Int := if b < 2 ^ 31 then b else -((b : Int) - 2 ^ 31) - 1

/-- Candidate x ranks above candidate y (R248). -/
def ranksAbove (x y : Nat × Nat) : Bool := decide (fpOrd y.1 < fpOrd x.1) || (x.1 == y.1 && decide (x.2 < y.2))

/-- A candidate put into its rank, after those that arrived before it. -/
def rankInsert (x : Nat × Nat) : List (Nat × Nat) → List (Nat × Nat)
  | [] => [x]
  | y :: l => if ranksAbove x y then x :: y :: l else y :: rankInsert x l

/-- A candidate presented to the unit (R248). -/
def TopK.present (t : TopK) (x : Nat × Nat) : TopK := { t with cands := (rankInsert x t.cands).take t.k }

def State.setTopk (s : State) (t : TopK) : State := s.setCore { s.core with topk := t }

/-- `TKINIT` (R249). -/
def runTopInit (_o : OpVa) : VRun := fun e _ s0 =>
  let s := s0.claim .topk
  let k := e.xa.toNat
  if k = 0 ∨ 1024 < k then .trap s cTopk e.xa else .done (s.setTopk ⟨k, e.xb, []⟩) 0

/-- A score operand: kind F or B of at most 32 bits and width EW (R250). -/
def readScores (e : Entry) (s : State) (r : BitVec 5) : VRes (Tag × (Nat → Nat)) := do
  let t := s.vtag r
  need (tagOk t && (tagKind t).isFloat && decide (tagWidth t ≤ 32) && tagWidth t == e.ew) t
  let bits ← readSpan s e r e.ew
  .ok (t, elem e.ew bits)

/-- Candidates presented in turn, NaN left out. -/
def presentAll (t : TopK) (l : List (Nat × Nat)) : TopK :=
  l.foldl (fun t x => if (decodeFloat fmtFp32 x.1).isNan then t else t.present x) t

/-- The running base moves on by `vl` (R250). -/
def TopK.advance (t : TopK) (vl : Nat) : TopK := { t with base := t.base + BitVec.ofNat 64 vl }

/-- `TKPUSH` (R250). -/
def runTopPush (o : OpVa) : VRun := fun e _ s0 =>
  let s := s0.claim .topk
  let move (s : State) : State := if o.b = 0 then s.setTopk (s.core.topk.advance e.vl) else s
  if e.empty then .done (move s) 0
  else checked s (do
    let e := e.whole
    let (t, a) ← readScores e s o.a
    let ids ← if o.b = 0 then (.ok fun i => (s.core.topk.base + BitVec.ofNat 64 i).toNat : VRes (Nat → Nat)) else (do
      let u := s.vtag o.b
      need (tagOk u && (tagKind u).isIX && decide (32 ≤ tagWidth u)) u
      let bits ← readSpan s e o.b (tagWidth u)
      .ok (elem (tagWidth u) bits) : VRes (Nat → Nat))
    let gov ← govMask s o.m
    let on := e.actives (e.active s gov)
    let cs := on.map fun i => ((roundTo fmtFp32 .rne false false (decodeFloat (fmtOf t) (a i))).1, ids i)
    .ok (.done (move (s.setTopk (presentAll s.core.topk cs))) 0))

/-- `TKSAL` (R250). -/
def runTopSal (o : OpVa) : VRun := fun e _ s0 =>
  let s := s0.claim .topk
  let move (s : State) : State := s.setTopk (s.core.topk.advance e.vl)
  if e.empty then .done (move s) 0
  else checked s (do
    let e := e.whole
    let (ta, a) ← readScores e s o.a
    let (tb, b) ← readScores e s o.b
    let gov ← govMask s o.m
    let on := e.actives (e.active s gov)
    let rs := on.map fun i =>
      let p := Exact.mul (e.val ta (a i)) (e.val tb (b i))
      let r := roundTo fmtFp32 .rne false e.fres p.1
      ((r.1 % 2 ^ 31, (s.core.topk.base + BitVec.ofNat 64 i).toNat), p.2 ||| r.2)
    .ok (.done (move (s.setTopk (presentAll s.core.topk (rs.map (·.1)))))
      ((rs.map (·.2)).foldl (· ||| ·) 0)))

/-- `TKPOP` (R251). -/
def runTopPop (o : OpVa) : VRun := fun e _ s0 =>
  let s := s0.claim .topk
  elementwise e s (do
    let e := e.whole
    needSpan (decide (32 ≤ e.ew))
    needSpan (e.spanOk o.d e.ew && e.spanOk o.b e.ew)
    e.apart o.d e.ew o.b e.ew
    let gov ← govMask s o.m
    let act := e.active s gov
    let on := e.actives act
    let out := s.core.topk.cands.take on.length
    let s1 := s.setTopk { s.core.topk with cands := s.core.topk.cands.drop on.length }
    let at' (i : Nat) : Nat × Nat := ((on.zip out).find? (·.1 == i)).map (·.2) |>.getD (0, 0)
    let wide := e.ew == 64
    .ok (.done (emitTrim e s1 o.m act (on.drop out.length)
      [(o.d, if wide then tagFp64 else tagFp32, fun i =>
          if wide then (roundTo fmtFp64 .rne false false (decodeFloat fmtFp32 (at' i).1)).1 else (at' i).1),
       (o.b, if wide then 0x01D else 0x015, fun i => (at' i).2 % 2 ^ e.ew)]) 0))

/-- `KSINS` (R242). -/
def vopKsins (o : OpVa) : VOp := ⟨okMaskD o, ⟨.ld, none, none, none, none, none⟩, runKeyWrite false o⟩
/-- `KSINS` (R242). -/
def execKsins (o : OpVa) (s : State) : Out := pushVector (codeVa 26 0 o) 4 o.c (vopKsins o) s

/-- `KSLKP` (R243). -/
def vopKslkp (o : OpVa) : VOp := ⟨okMaskB o, ⟨.ld, some o.d, none, none, none, none⟩, runKeyLookup o⟩
/-- `KSLKP` (R243). -/
def execKslkp (o : OpVa) (s : State) : Out := pushVector (codeVa 26 1 o) 4 o.c (vopKslkp o) s

/-- `KSACC` (R242). -/
def vopKsacc (o : OpVa) : VOp := ⟨okMaskD o, ⟨.ld, none, none, none, none, none⟩, runKeyWrite true o⟩
/-- `KSACC` (R242). -/
def execKsacc (o : OpVa) (s : State) : Out := pushVector (codeVa 26 2 o) 4 o.c (vopKsacc o) s

/-- `KSDRAIN` (R244). -/
def vopKsdrain (o : OpVa) : VOp := ⟨o.a == 0 && o.m != 15, ⟨.ld, some o.d, none, none, none, none⟩, runKeyDrain o⟩
/-- `KSDRAIN` (R244). -/
def execKsdrain (o : OpVa) (s : State) : Out := pushVector (codeVa 26 3 o) 4 o.c (vopKsdrain o) s

/-- `KSCLR` (R245). -/
def vopKsclr (o : OpVa) : VOp := ⟨o.d == 0 && o.a == 0 && o.b == 0 && o.m == 15, ⟨.ld, none, none, none, none, none⟩, runKeyClear o⟩
/-- `KSCLR` (R245). -/
def execKsclr (o : OpVa) (s : State) : Out := pushVector (codeVa 26 4 o) 4 o.c (vopKsclr o) s

/-- `KSCNT` (R245). -/
def vopKscnt (o : OpVa) : VOp := ⟨o.a == 0 && o.b == 0 && o.m == 15, ⟨.ld, none, some o.d, none, none, none⟩, runKeyCount o⟩
/-- `KSCNT` (R245). -/
def execKscnt (o : OpVa) (s : State) : Out := pushVector (codeVa 26 5 o) 4 o.c (vopKscnt o) s

/-- `LTLD` (R246). -/
def vopLtld (o : OpVa) : VOp := ⟨o.b == 0, ⟨.ld, some o.d, none, none, none, none⟩, runLaneLoad o⟩
/-- `LTLD` (R246). -/
def execLtld (o : OpVa) (s : State) : Out := pushVector (codeVa 26 6 o) 4 o.c (vopLtld o) s

/-- `LTST` (R246). -/
def vopLtst (o : OpVa) : VOp := ⟨o.b == 0, ⟨.ld, none, none, none, none, none⟩, runLaneStore o⟩
/-- `LTST` (R246). -/
def execLtst (o : OpVa) (s : State) : Out := pushVector (codeVa 26 7 o) 4 o.c (vopLtst o) s

/-- `LTFILL` (R247). -/
def vopLtfill (o : OpVa) : VOp := ⟨o.d == 0 && o.m == 15, ⟨.ld, none, none, some o.a, some o.b, none⟩, runLaneFill o⟩
/-- `LTFILL` (R247). -/
def execLtfill (o : OpVa) (s : State) : Out := pushVector (codeVa 26 8 o) 4 o.c (vopLtfill o) s

/-- `TKINIT` (R249). -/
def vopTkinit (o : OpVa) : VOp := ⟨o.d == 0 && o.m == 15, ⟨.xl, none, none, some o.a, some o.b, none⟩, runTopInit o⟩
/-- `TKINIT` (R249). -/
def execTkinit (o : OpVa) (s : State) : Out := pushVector (codeVa 23 22 o) 4 o.c (vopTkinit o) s

/-- `TKPUSH` (R250). -/
def vopTkpush (o : OpVa) : VOp := ⟨o.d == 0, ⟨.xl, none, none, none, none, none⟩, runTopPush o⟩
/-- `TKPUSH` (R250). -/
def execTkpush (o : OpVa) (s : State) : Out := pushVector (codeVa 23 23 o) 4 o.c (vopTkpush o) s

/-- `TKPOP` (R251). -/
def vopTkpop (o : OpVa) : VOp := ⟨o.a == 0 && o.m != 15, ⟨.xl, some o.d, none, none, none, none⟩, runTopPop o⟩
/-- `TKPOP` (R251). -/
def execTkpop (o : OpVa) (s : State) : Out := pushVector (codeVa 23 24 o) 4 o.c (vopTkpop o) s

/-- `TKSAL` (R250). -/
def vopTksal (o : OpVa) : VOp := ⟨o.d == 0, ⟨.xl, none, none, none, none, none⟩, runTopSal o⟩
/-- `TKSAL` (R250). -/
def execTksal (o : OpVa) (s : State) : Out := pushVector (codeVa 23 25 o) 4 o.c (vopTksal o) s

end Sys2Proof.Machine
end

