-- ==== Sys2Proof/Machine/Special.lean ====
section
/-! DEFINITION. The special functions of R117 and the powers of two of R120, correctly rounded. A function value that is no
rational is enclosed between two rationals by interval arithmetic in fixed point; when both ends round to
one encoding with one set of flags, so does the value. The precision is raised until they do. Where even the
last precision does not settle (no operand of the formats of R117 is known to reach it), the caller supplies a
free value: DESIGN CHOICE, log entry 8. -/

namespace Sys2Proof.Machine

/-! Intervals of fixed-point numbers: the value lies in [lo, hi] × 2^-p. -/

structure Iv where
  lo : Int
  hi : Int
  deriving DecidableEq, Repr

namespace Iv

/-- ⌈a / b⌉ for b > 0. -/
def cdiv (a b : Int) : Int := -((-a) / b)

def add (x y : Iv) : Iv := ⟨x.lo + y.lo, x.hi + y.hi⟩
def sub (x y : Iv) : Iv := ⟨x.lo - y.hi, x.hi - y.lo⟩
def neg (x : Iv) : Iv := ⟨-x.hi, -x.lo⟩

/-- Product at precision p, rounded outwards. -/
def mul (p : Nat) (x y : Iv) : Iv :=
  let a := x.lo * y.lo
  let b := x.lo * y.hi
  let c := x.hi * y.lo
  let d := x.hi * y.hi
  let one : Int := (2 ^ p : Nat)
  ⟨min (min a b) (min c d) / one, cdiv (max (max a b) (max c d)) one⟩

/-- Quotient by a positive integer, rounded outwards. -/
def divNat (x : Iv) (n : Nat) : Iv := ⟨x.lo / (n : Int), cdiv x.hi n⟩

/-- Quotient of a non-negative interval by a positive one, rounded outwards. -/
def div (p : Nat) (x y : Iv) : Iv :=
  let one : Int := (2 ^ p : Nat)
  ⟨x.lo * one / y.hi, cdiv (x.hi * one) y.lo⟩

/-- The rational ± n / d. -/
def ofFrac (p : Nat) (neg : Bool) (n d : Nat) : Iv :=
  let v := Exact.toInt neg (n * 2 ^ p)
  ⟨v / (d : Int), cdiv v d⟩

def ofInt (p : Nat) (k : Int) : Iv := ⟨k * (2 ^ p : Nat), k * (2 ^ p : Nat)⟩

/-- Widened by k units on both sides. -/
def widen (x : Iv) (k : Int) : Iv := ⟨x.lo - k, x.hi + k⟩

end Iv

/-- Σ tₖ over k < n for terms given by a running product: `acc` so far, `t` the next term before its weight. -/
def seriesAtanh (p : Nat) (t2 : Iv) : Nat → Nat → Iv → Iv
  | 0, _, _ => ⟨0, 0⟩
  | n + 1, k, t => (t.divNat (2 * k + 1)).add (seriesAtanh p t2 n (k + 1) (Iv.mul p t t2))

/-- 2·atanh t for 0 ≤ t ≤ 1/3: the tail after n = p terms is below one unit of 2^-p. -/
def ivAtanh2 (p : Nat) (t : Iv) : Iv :=
  let s := (seriesAtanh p (Iv.mul p t t) p 0 t).widen 1
  s.add s

/-- ln 2 = 2·atanh (1/3). -/
def ivLn2 (p : Nat) : Iv := ivAtanh2 p (Iv.ofFrac p false 1 3)

/-- Σ tᵏ / (k + c)! × c! for k < n, where the term so far is given. -/
def seriesExp (p : Nat) (x : Iv) : Nat → Nat → Iv → Iv
  | 0, _, _ => ⟨0, 0⟩
  | n + 1, k, t => t.add (seriesExp p x n (k + 1) ((Iv.mul p t x).divNat (k + 1)))

/-- e^x for |x| ≤ 1: the tail after p terms is below one unit. -/
def ivExp (p : Nat) (x : Iv) : Iv := (seriesExp p x p 0 (Iv.ofInt p 1)).widen 1

/-- (e^x − 1) / x for |x| ≤ 1. -/
def ivExpm1Over (p : Nat) (x : Iv) : Iv := (seriesExp p x p 1 (Iv.ofInt p 1)).widen 1

/-- atan (1/m) by its alternating series. -/
def seriesAtan (p m : Nat) : Nat → Nat → Iv → Iv
  | 0, _, _ => ⟨0, 0⟩
  | n + 1, k, t =>
    let w := t.divNat (2 * k + 1)
    (if k % 2 = 0 then w else w.neg).add (seriesAtan p m n (k + 1) (t.divNat (m * m)))

/-- π by Machin's formula. -/
def ivPi (p : Nat) : Iv :=
  let a := (seriesAtan p 5 p 0 (Iv.ofFrac p false 1 5)).widen 1
  let b := (seriesAtan p 239 p 0 (Iv.ofFrac p false 1 239)).widen 1
  let t (k : Nat) (x : Iv) : Iv := ⟨x.lo * k, x.hi * k⟩
  (t 16 a).sub (t 4 b)

/-- The square root of a positive interval. -/
def ivSqrt (p : Nat) (x : Iv) : Iv :=
  let r (v : Int) : Int := Exact.isqrt (p + 8) (v.toNat * 2 ^ p)
  ⟨r x.lo, r x.hi + 1⟩

/-- Σ (−1)^k x²ᵏ / (k! (2k + 1)): erf x is 2 x / √π times it. -/
def seriesErf (p : Nat) (x2 : Iv) : Nat → Nat → Iv → Iv
  | 0, _, _ => ⟨0, 0⟩
  | n + 1, k, t =>
    let w := t.divNat (2 * k + 1)
    (if k % 2 = 0 then w else w.neg).add (seriesErf p x2 n (k + 1) ((Iv.mul p t x2).divNat (k + 1)))

/-! Function values. -/

/-- A function value: exact, or an irrational one strictly between lo and hi over den, with its sign. -/
inductive Encl where
  | exact (x : Exact)
  | between (neg : Bool) (lo hi den : Nat)
  deriving DecidableEq, Repr

/-- `round_to` of an enclosed value × 2^sd; none when the two ends do not agree. An irrational value is never exact: NX. -/
def Encl.round (f : Fmt) (m : Rnd) (sat flush : Bool) (sd : Int) : Encl → Option (Nat × Word)
  | .exact x => some (roundTo f m sat flush (x.scale sd))
  | .between neg lo hi den =>
    let a := roundTo f m sat flush ((Exact.fin neg lo den).scale sd)
    let b := roundTo f m sat flush ((Exact.fin neg hi den).scale sd)
    if lo ≠ 0 ∧ a.1 = b.1 ∧ (a.2 ||| flNX) = (b.2 ||| flNX) then some (a.1, a.2 ||| flNX) else none

/-- An interval at precision p, times 2^k, with a known sign, as an enclosure. -/
def Encl.ofIv (p : Nat) (neg : Bool) (x : Iv) (k : Int) : Encl :=
  match k with
  | .ofNat j => .between neg (x.lo.toNat <<< j) (x.hi.toNat <<< j) (2 ^ p)
  | .negSucc j => .between neg x.lo.toNat x.hi.toNat (2 ^ (p + j + 1))

/-- The first precision that settles the rounding. -/
def settle (f : Fmt) (m : Rnd) (sat flush : Bool) (sd : Int) (g : Nat → Encl) : List Nat → Option (Nat × Word)
  | [] => none
  | p :: ps =>
    match (g p).round f m sat flush sd with
    | some r => some r
    | none => settle f m sat flush sd g ps

/-- The precisions tried, in bits after the point. -/
def precisions : List Nat := [100, 200, 400]

/-- Beyond this magnitude a power of two lies past every format under every scale of R66. -/
def farLimit : Int := 4096

/-- 2^x (R117, R120). -/
def exp2At (x : Exact) (p : Nat) : Encl :=
  match x with
  | .nan b => .exact (.nan b)
  | .inf neg => .exact (if neg then .zero false else .inf false)
  | .fin neg n d =>
    let v := Exact.toInt neg n
    let i := v / (d : Int)
    let r := (v % (d : Int)).toNat
    if i < -farLimit then .between false 1 2 (2 ^ 4096)
    else if i > farLimit then .between false (2 ^ 4096) (2 ^ 4097) 1
    else if r = 0 then .exact (.dyadic false 1 i)
    else .ofIv p false (ivExp p (Iv.mul p (Iv.ofFrac p false r d) (ivLn2 p))) i

/-- e^−y for y = n / d ≥ 0 (R117). -/
def expNegAt (n d p : Nat) : Encl :=
  if n = 0 then .exact (.fin false 1 1)
  else if n > 4096 * d then .between false 1 2 (2 ^ 4096)
  else
    let y := Iv.ofFrac p false n d
    let i := (y.lo / (ivLn2 p).hi).toNat
    -- e^-y = 2^-(i+1) · e^(ln 2·(i + 1) − y), the last exponent in (0, 1)
    let l := ivLn2 p
    let r := Iv.sub ⟨l.lo * (i + 1), l.hi * (i + 1)⟩ y
    .ofIv p false (ivExp p r) (-(i + 1 : Int))

/-- e^−y − 1 for y = n / d > 0 (R117): negative, of magnitude below 1. -/
def expm1NegAt (n d p : Nat) : Encl :=
  if n > 4096 * d then .between true (2 ^ 64 - 1) (2 ^ 64) (2 ^ 64)
  else if n ≥ d then
    match expNegAt n d p with
    | .between _ lo hi den => .between true (den - hi) (den - lo) den
    | e => e
  else
    let g := ivExpm1Over p (Iv.ofFrac p true n d)
    .between true (g.lo.toNat * n) (g.hi.toNat * n) (2 ^ p * d)

/-- log2 (n / d) for n, d > 0 (R117). -/
def log2At (n d p : Nat) : Encl :=
  let e := log2Frac n d
  -- n / d = 2^e · u / w with 1 ≤ u / w < 2
  let uw : Nat × Nat := match e with
    | .ofNat k => (n, d <<< k)
    | .negSucc k => (n <<< (k + 1), d)
  if uw.1 = uw.2 then .exact (.ofInt e)
  else
    let t := Iv.ofFrac p false (uw.1 - uw.2) (uw.1 + uw.2)
    let l := Iv.div p (ivAtanh2 p t) (ivLn2 p)
    let s := (Iv.ofInt p e).add l
    if e < 0 then .ofIv p true s.neg 0 else .ofIv p false s 0

/-- erf (n / d) for n, d > 0 (R117): below 1, and within 2^-30 of it from 5 on. -/
def erfAt (neg : Bool) (n d p : Nat) : Encl :=
  if n ≥ 5 * d then .between neg (2 ^ 30 - 1) (2 ^ 30) (2 ^ 30)
  else
    let q := p + 48
    let x2 := Iv.ofFrac q false (n * n) (d * d)
    let s := (seriesErf q x2 (2 * p) 0 (Iv.ofInt q 1)).widen 1
    let g := Iv.div q (s.add s) (ivSqrt q (ivPi q))
    .between neg (g.lo.toNat * n) (g.hi.toNat * n) (2 ^ q * d)

/-! The functions of R117. Each answers the FP32 value q and its flags; none when no precision settled. -/

/-- f5 = 4–10 of the VU major (R117). -/
inductive SpecialFn where
  | rcp | rsqrt | exp2 | log2 | tanh | sigm | erf
  deriving DecidableEq, Repr

/-- r32 of an exact value, as an exact value (R117). -/
def r32 (flush : Bool) (x : Exact) : Exact × Word :=
  let r := roundTo fmtFp32 .rne false flush x
  (decodeFloat fmtFp32 r.1, r.2)

/-- r32 of a function value. -/
def r32Fn (flush : Bool) (g : Nat → Encl) : Option (Exact × Word) :=
  (settle fmtFp32 .rne false flush 0 g precisions).map fun r => (decodeFloat fmtFp32 r.1, r.2)

/-- 1, exactly. -/
def one : Exact := .fin false 1 1

/-- `VTANH` of a finite non-zero or infinite x (R117). -/
def tanhQ (flush : Bool) (x : Exact) : Option (Exact × Word) :=
  let n := match x.abs with
    | .fin _ a d => r32Fn flush (expm1NegAt (2 * a) d)
    | _ => some (.fin true 1 1, 0)
  n.map fun n =>
    let d := r32 flush (Exact.add .rne (.fin false 2 1) n.1).1
    let q := r32 flush (Exact.div n.1.neg d.1).1
    (if x.sign then q.1.neg else q.1, n.2 ||| d.2 ||| q.2)

/-- `VSIGM` of a value that is no NaN (R117). -/
def sigmQ (flush : Bool) (x : Exact) : Option (Exact × Word) :=
  let low := x.sign && !x.isZero
  let u := match x.abs with
    | .fin _ a d => r32Fn flush (expNegAt a d)
    | _ => some (.zero false, 0)
  u.map fun u =>
    let d := r32 flush (Exact.add .rne one u.1).1
    let q := r32 flush (Exact.div (if low then u.1 else one) d.1).1
    (q.1, u.2 ||| d.2 ||| q.2)

/-- The FP32 value q of R117. `VERF` of a zero is that zero (DESIGN CHOICE: R117 keeps the sign of zero for `VTANH` by name and gives r32(erf x) here; log
entry 19). -/
def specialQ (fn : SpecialFn) (flush : Bool) (x : Exact) : Option (Exact × Word) :=
  if x.isNan then some (.nan false, flIf x.isSig flNV)
  else
    match fn with
    | .rcp =>
      let y := Exact.div one x
      let r := r32 flush y.1
      some (r.1, y.2 ||| r.2)
    | .rsqrt =>
      match x with
      | .fin neg n d =>
        if n = 0 then some (.inf neg, flDZ)
        else if neg then some (.nan false, flNV)
        else some (r32 flush (Exact.sqrt (.fin false d n)).1)
      | .inf true => some (.nan false, flNV)
      | _ => some (.zero false, 0)
    | .exp2 => r32Fn flush (exp2At x)
    | .log2 =>
      match x with
      | .fin neg n d =>
        if n = 0 then some (.inf true, flDZ)
        else if neg then some (.nan false, flNV)
        else r32Fn flush (log2At n d)
      | .inf true => some (.nan false, flNV)
      | _ => some (.inf false, 0)
    | .tanh => if x.isZero then some (x, 0) else tanhQ flush x
    | .sigm => sigmQ flush x
    | .erf =>
      match x with
      | .fin neg n d => if n = 0 then some (x, 0) else r32Fn flush (erfAt neg n d)
      | .inf neg => some (.fin neg 1 1, 0)
      | .nan _ => some (x, 0)

end Sys2Proof.Machine
end

