-- ==== Sys2Proof/Machine/VFloat.lean ====
section
/-! DEFINITION. Fused operations (R112-R114), the strip softmax (R119, R120), and the unary and special-function operations
of major 17 (R115-R117). -/

namespace Sys2Proof.Machine

/-! VFMA, VFMS, VFNMA, VMUL (R112, R113). -/

/-- The addend of R113: none for `VMUL`; the signs of the product and of the addend. -/
structure FusedOp where
  addend : Bool
  negP : Bool
  negC : Bool
  deriving DecidableEq, Repr

/-- One rounding of the exact result to D (R113): to a float format; to an integer from integer sources, wrapping or clamping; to
an integer from float sources by R60. -/
def Entry.fusedRound (e : Entry) (f : FmtReg) (d : Tag) (fromFloat : Bool) (x : Exact) : Nat × Word :=
  if (tagKind d).isFloat then roundTo (fmtOf d) f.rnd f.sat e.fres x
  else if fromFloat then floatToInt f.rnd d x
  else intToInt f.rnd f.sat d x

/-- One element of R113: tags and encodings of a, b and the addend. -/
def Entry.fused (e : Entry) (f : FmtReg) (op : FusedOp) (ta tb d : Tag) (a b c : Nat) : Nat × Word :=
  let p := product ta ((e.val ta a).scale f.sa) ((e.val tb b).scale f.sb)
  let p' := if op.negP && ((tagKind ta).isFloat || !p.1.isZero) then p.1.neg else p.1
  let t : Exact × Word :=
    if op.addend then
      let cv := e.val d c
      Exact.add f.rnd p' (if op.negC then cv.neg else cv)
    else (p', 0)
  let r := e.fusedRound f d (tagKind ta).isFloat (t.1.scale f.sd)
  (r.1, p.2 ||| t.2 ||| r.2)

/-- Operand b of R112: the low bits of the captured `x[b]`, or a register span that meets d as R107 allows. -/
def fusedB (s : State) (e : Entry) (vx : Bool) (d b : BitVec 5) (wd wb : Nat) : VRes (Nat → Nat) :=
  if vx then .ok fun _ => e.xb.toNat % 2 ^ wb
  else
    match readSpan s e b wb with
    | .ok bits =>
      match e.noOverlap d wd b wb with
      | .ok _ => .ok (elem wb bits)
      | .error x => .error x
    | .error x => .error x

/-- The addend of R113. -/
def fusedC (s : State) (e : Entry) (addend : Bool) (d : BitVec 5) (wd : Nat) : VRes Nat :=
  if addend then readSpan s e d wd else .ok 0

/-- `VFMA`, `VFMS`, `VFNMA`, `VMUL` in VFV (`vx` false) and VFX (R112). A DFMT of `nib` or `unib` raises the tag trap where the addend would be read
from vd, because R112 lists no nibble kind (R52); `VMUL` reads none, and packs its results at width 4 (DESIGN CHOICE: R112 names no kind of D; log
entry 19). -/
def runFused (op : FusedOp) (vx : Bool) (d a b : BitVec 5) (mk : BitVec 4) : VRun := fun e hi s =>
  elementwise e s (do
    let f ← fmtReg e.fmt
    let ta := override f.atag (s.vtag a)
    let tb := override f.btag (if vx then ta else s.vtag b)
    need (tagOk ta) ta
    need (tagOk tb) tb
    let ka := tagKind ta
    let kb := tagKind tb
    need ((ka.isInt && kb.isInt) || (ka.isFloat && kb.isFloat)) (if ka.isInt || ka.isFloat then tb else ta)
    need (f.dfmt != 0 || ta == tb) tb
    let dt := override f.dfmt ta
    need (tagOk dt && okNotW dt && !(op.addend && tagKind dt == .nib)) dt
    need (!op.addend || s.vtag d == dt) (s.vtag d)
    let wa := tagWidth ta
    let wb := tagWidth tb
    let wd := numWidth dt
    let av ← readSpan s e a wa
    destOk e d wd a wa
    let bv ← fusedB s e vx d b wd wb
    let cv ← fusedC s e op.addend d wd
    let gov ← govMask s mk
    .ok (emitVec e hi s gov d wd dt fun i => e.fused f op ta tb dt (elem wa av i) (bv i) (elem wd cv i)))

def codeVf (maj : BitVec 5) (f2 : BitVec 2) (o : OpVf) : Code := .word (std maj o.c (bodyR o.d o.a o.b (o.m ++ f2 ++ o.fs)))

/-- What a push of format VF needs. -/
def infoVf (cls : Cls) (o : OpVf) : VInfo := ⟨cls, some o.d, none, none, none, some o.fs⟩
def infoVfx (cls : Cls) (o : OpVf) : VInfo := ⟨cls, some o.d, none, none, some o.b, some o.fs⟩

/-- `p + c`. -/
def fVfma : FusedOp := ⟨true, false, false⟩
/-- `p − c`. -/
def fVfms : FusedOp := ⟨true, false, true⟩
/-- `−p + c`. -/
def fVfnma : FusedOp := ⟨true, true, false⟩
/-- `p`. -/
def fVmul : FusedOp := ⟨false, false, false⟩

/-- `VFMA`, VFV (R113). -/
def vopVfmaVfv (o : OpVf) : VOp := ⟨true, infoVf .fma o, runFused fVfma false o.d o.a o.b o.m⟩
/-- `VFMA`, VFV (R113). -/
def execVfmaVfv (o : OpVf) (s : State) : Out := pushVector (codeVf 15 0 o) 4 o.c (vopVfmaVfv o) s
/-- `VFMA`, VFX (R113). -/
def vopVfmaVfx (o : OpVf) : VOp := ⟨true, infoVfx .fma o, runFused fVfma true o.d o.a o.b o.m⟩
/-- `VFMA`, VFX (R113). -/
def execVfmaVfx (o : OpVf) (s : State) : Out := pushVector (codeVf 16 0 o) 4 o.c (vopVfmaVfx o) s
/-- `VFMS`, VFV (R113). -/
def vopVfmsVfv (o : OpVf) : VOp := ⟨true, infoVf .fma o, runFused fVfms false o.d o.a o.b o.m⟩
/-- `VFMS`, VFV (R113). -/
def execVfmsVfv (o : OpVf) (s : State) : Out := pushVector (codeVf 15 1 o) 4 o.c (vopVfmsVfv o) s
/-- `VFMS`, VFX (R113). -/
def vopVfmsVfx (o : OpVf) : VOp := ⟨true, infoVfx .fma o, runFused fVfms true o.d o.a o.b o.m⟩
/-- `VFMS`, VFX (R113). -/
def execVfmsVfx (o : OpVf) (s : State) : Out := pushVector (codeVf 16 1 o) 4 o.c (vopVfmsVfx o) s
/-- `VFNMA`, VFV (R113). -/
def vopVfnmaVfv (o : OpVf) : VOp := ⟨true, infoVf .fma o, runFused fVfnma false o.d o.a o.b o.m⟩
/-- `VFNMA`, VFV (R113). -/
def execVfnmaVfv (o : OpVf) (s : State) : Out := pushVector (codeVf 15 2 o) 4 o.c (vopVfnmaVfv o) s
/-- `VFNMA`, VFX (R113). -/
def vopVfnmaVfx (o : OpVf) : VOp := ⟨true, infoVfx .fma o, runFused fVfnma true o.d o.a o.b o.m⟩
/-- `VFNMA`, VFX (R113). -/
def execVfnmaVfx (o : OpVf) (s : State) : Out := pushVector (codeVf 16 2 o) 4 o.c (vopVfnmaVfx o) s
/-- `VMUL`, VFV (R113). -/
def vopVmulVfv (o : OpVf) : VOp := ⟨true, infoVf .fma o, runFused fVmul false o.d o.a o.b o.m⟩
/-- `VMUL`, VFV (R113). -/
def execVmulVfv (o : OpVf) (s : State) : Out := pushVector (codeVf 15 3 o) 4 o.c (vopVmulVfv o) s
/-- `VMUL`, VFX (R113). -/
def vopVmulVfx (o : OpVf) : VOp := ⟨true, infoVfx .fma o, runFused fVmul true o.d o.a o.b o.m⟩
/-- `VMUL`, VFX (R113). -/
def execVmulVfx (o : OpVf) (s : State) : Out := pushVector (codeVf 16 3 o) 4 o.c (vopVmulVfx o) s

/-- The operands of VFV that a compact op stands for (R41). -/
def State.compactVf (s : State) (o : OpC) : OpVf := ⟨false, o.d, s.vlast, o.b, 0, 15⟩
/-- `cVMUL` (R41). -/
def execCVmul (o : OpC) (s : State) : Out := pushCompact 12 (codeVf 15 3 (s.compactVf o)) (vopVmulVfv (s.compactVf o)) o s
/-- `cVFMA` (R41). -/
def execCVfma (o : OpC) (s : State) : Out := pushCompact 13 (codeVf 15 0 (s.compactVf o)) (vopVfmaVfv (s.compactVf o)) o s

/-! VDOT (R114). -/

/-- The sub-element width and the destination tag of a pair of source tags; none where the pair is not allowed. -/
def dotPair (ta tb : Tag) : Option (Nat × Tag) :=
  if (ta = 0 ∨ ta = 1) ∧ (tb = 0 ∨ tb = 1) then some (8, if ta = 1 ∧ tb = 1 then 0x011 else 0x010)
  else if (ta = 0x007 ∨ ta = 0x107) ∧ (tb = 0x007 ∨ tb = 0x107) then
    some (4, if ta = 0x107 ∧ tb = 0x107 then 0x011 else 0x010)
  else if tagOk ta ∧ tagOk tb ∧ tagKind ta = .b8 ∧ tagKind tb = .b8 then some (8, tagFp32)
  else none

/-- The exact sum of the products of n sub-elements from index j on (R114). -/
def Entry.dotTerms (e : Entry) (ta tb : Tag) (sub : Nat) (a b j : Nat) : Nat → List (Exact × Word)
  | 0 => []
  | n + 1 => product ta (e.val ta (elem sub a j)) (e.val tb (elem sub b j)) :: dotTerms e ta tb sub a b (j + 1) n

/-- `VDOT` (R114). -/
def runDot (o : OpVf) : VRun := fun e hi s =>
  elementwise e s (do
    let f ← fmtReg e.fmt
    needSpan (e.ew == 32)
    let ta := override f.atag (s.vtag o.a)
    let tb := override f.btag (s.vtag o.b)
    match dotPair ta tb with
    | none => tagTrap (if tagOk ta then tb else ta)
    | some (sub, dt) =>
      need (f.dfmt == 0 || f.dfmt == dt) f.dfmt
      need (s.vtag o.d == dt) (s.vtag o.d)
      let av ← readSpan s e o.a 32
      let bv ← readSpan s e o.b 32
      destOk e o.d 32 o.a 32
      e.noOverlap o.d 32 o.b 32
      let cv ← readSpan s e o.d 32
      let gov ← govMask s o.m
      let n := 32 / sub
      .ok (emitVec e hi s gov o.d 32 dt fun i =>
        let ts := e.dotTerms ta tb sub av bv (n * i) n
        let sm := Exact.sum f.rnd (ts.map (·.1))
        let t := Exact.add f.rnd (sm.1.scale (f.sa + f.sb)) (e.val dt (elem 32 cv i))
        let r := e.fusedRound f dt false (t.1.scale f.sd)
        (r.1, (ts.map (·.2)).foldl (· ||| ·) 0 ||| sm.2 ||| t.2 ||| r.2)))

/-- `VDOT` (R114). -/
def vopVdot (o : OpVf) : VOp := ⟨true, infoVf .fma o, runDot o⟩
/-- `VDOT` (R114). -/
def execVdot (o : OpVf) (s : State) : Out := pushVector (codeVf 18 0 o) 4 o.c (vopVdot o) s

/-! VSSMX (R119, R120). -/

/-- Rounding of 2^x × 2^sd; the free value where no precision settles it (log entry 8). -/
def pow2 (x : Exact) (f : Fmt) (m : Rnd) (sat flush : Bool) (sd : Int) (free : Nat) : Nat × Word :=
  (settle f m sat flush sd (exp2At x) precisions).getD (free % 2 ^ f.width, flNX)

/-- One row of R120: the score and the state M, S give the new M, S, C, the weight p and the flags. -/
def Entry.softRow (e : Entry) (f : FmtReg) (ta dt : Tag) (free xv mv sv : Nat) : (Nat × Nat × Nat) × Nat × Word :=
  let xr := roundTo fmtFp32 .rne false e.fres ((e.val ta xv).scale f.sa)
  let x := decodeFloat fmtFp32 xr.1
  if x.isNan then ((mv, fmtFp32.nanBits, 0x3F800000), (fmtOf dt).nanBits, xr.2)
  else
    let m := e.val tagFp32 mv
    let n := minMaxVal true m x
    let cp : Nat × Nat × Word :=
      if n.1 = .inf true then (0x3F800000, 0, 0)
      else
        let d1 := Exact.add .rne m n.1.neg
        let c := pow2 d1.1 fmtFp32 .rne false e.fres 0 free
        let d2 := Exact.add .rne x n.1.neg
        let p := pow2 d2.1 (fmtOf dt) f.rnd f.sat e.fres f.sd free
        (c.1, p.1, d1.2 ||| c.2 ||| d2.2 ||| p.2)
    let pr := Exact.mul (e.val tagFp32 sv) (decodeFloat fmtFp32 cp.1)
    let sm := Exact.add .rne pr.1 (decodeFloat (fmtOf dt) cp.2.1)
    let s' := roundTo fmtFp32 .rne false e.fres sm.1
    let n' := roundTo fmtFp32 .rne false false n.1
    ((n'.1, s'.1, cp.1), cp.2.1, xr.2 ||| n.2 ||| cp.2.2 ||| pr.2 ||| sm.2 ||| s'.2)

/-- Elements of a state span replaced where i is active and below hi (R120). -/
def Entry.stateBits (e : Entry) (hi : Nat) (act : Nat → Bool) (old : Nat) (f : Nat → Nat) : Nat :=
  pack 32 ((List.range e.vl).map fun i => if act i && decide (i < hi) then f i else elem 32 old i)
    ||| (old >>> (32 * e.vl)) <<< (32 * e.vl)

/-- `VSSMX` (R119, R120). -/
def runSoft (o : OpVf) : VRun := fun e hi s =>
  elementwise e s (do
    let f ← fmtReg e.fmt
    needSpan (e.ew == 32)
    let ta := override f.atag (s.vtag o.a)
    need (tagOk ta && (ta == tagFp32 || ta == tagFp16 || ta == tagBf16 || tagKind ta == .b8)) ta
    let g := e.grp
    let m0 := o.b.toNat
    needSpan (m0 % g == 0 && decide (m0 + 3 * g ≤ 32))
    match (List.range (3 * g)).find? fun k => s.vtag (BitVec.ofNat 5 (m0 + k)) != tagFp32 with
    | some k => tagTrap (s.vtag (BitVec.ofNat 5 (m0 + k)))
    | none =>
      let dt := override f.dfmt tagFp32
      need (tagOk dt && (tagKind dt).isFloat && decide (tagWidth dt ≤ 32)) dt
      let wa := tagWidth ta
      let wd := tagWidth dt
      let av ← readSpan s e o.a wa
      destOk e o.d wd o.a wa
      needSpan (!(decide (o.d.toNat < m0 + 3 * g ∧ m0 < o.d.toNat + e.spanLen wd)))
      let reg (k : Nat) : BitVec 5 := BitVec.ofNat 5 (m0 + k * g)
      e.noOverlap (reg 0) 32 o.a wa
      e.noOverlap (reg 1) 32 o.a wa
      e.noOverlap (reg 2) 32 o.a wa
      let mv ← readSpan s e (reg 0) 32
      let sv ← readSpan s e (reg 1) 32
      let cv ← readSpan s e (reg 2) 32
      let gov ← govMask s o.m
      let act := e.active s gov
      let p := s.pick (2 ^ 64)
      let rows := (List.range e.vl).map fun i =>
        if act i && decide (i < hi) then e.softRow f ta dt p.1 (elem wa av i) (elem 32 mv i) (elem 32 sv i)
        else ((0, 0, 0), 0, 0)
      let row (i : Nat) : (Nat × Nat × Nat) × Nat × Word := rows.getD i ((0, 0, 0), 0, 0)
      let s1 := p.2.putSpan e (reg 0) 32 tagFp32 (e.stateBits hi act mv fun i => (row i).1.1)
      let s2 := s1.putSpan e (reg 1) 32 tagFp32 (e.stateBits hi act sv fun i => (row i).1.2.1)
      let s3 := s2.putSpan e (reg 2) 32 tagFp32 (e.stateBits hi act cv fun i => (row i).1.2.2)
      .ok (emitVec e hi s3 gov o.d wd dt fun i => (row i).2))

/-- `VSSMX` (R120). -/
def vopVssmx (o : OpVf) : VOp := ⟨true, infoVf .sfu o, runSoft o⟩
/-- `VSSMX` (R120). -/
def execVssmx (o : OpVf) (s : State) : Out := pushVector (codeVf 18 1 o) 4 o.c (vopVssmx o) s

/-! VU (R115-R117). -/

/-- An operation of R116: the kinds of a, the result tag, and the element function on entry, format register, free value, tag of a, D
and encoding. `anyD` says that DFMT may name any F or B format of at most 32 bits. -/
structure UnSpec where
  accept : Tag → Bool
  rtag : Tag → Tag
  anyD : Bool
  f : Entry → FmtReg → Nat → Tag → Tag → Nat → Nat × Word

def okFB (t : Tag) : Bool := (tagKind t).isFloat
/-- F and B but `fp64` (R116). -/
def okSpecial (t : Tag) : Bool := (tagKind t).isFloat && t != tagFp64
def okCvt (t : Tag) : Bool := (tagKind t).isIXFB || tagKind t == .nib
/-- I, F and signed B for `VNEG` (R116). -/
def okNeg (t : Tag) : Bool := (tagKind t).isInt || (tagKind t).isF || (tagKind t == .b8 && !tagUns t)

/-- Integer `VNEG` and `VABS`: modulo 2^W, or clamped (R116). -/
def intUnary (g : Int → Int) (f : FmtReg) (t : Tag) (a : Nat) : Nat × Word :=
  let v := g (ival t a)
  if f.sat then let c := clampInt t v; (cut (tagWidth t) c.1, flIf c.2 flSAT) else (cut (tagWidth t) v, 0)

/-- The sign change of R54 and R57 on an encoding. -/
def negBits (t : Tag) (a : Nat) : Nat :=
  let h := 2 ^ (tagWidth t - 1)
  if tagKind t == .b8 && a % h == 0 then a else if a < h then a + h else a - h

/-- The absolute value of R54 and R57 on an encoding. -/
def absBits (t : Tag) (a : Nat) : Nat :=
  let h := 2 ^ (tagWidth t - 1)
  if tagKind t == .b8 && (tagUns t || a == 0x80) then a else a % h

/-- `VROUND` (R116): NX when the result differs from the scaled value. -/
def roundOp (e : Entry) (f : FmtReg) (t d : Tag) (a : Nat) : Nat × Word :=
  let x := (e.val t a).scale f.sa
  match x with
  | .fin neg n dn =>
    let q := roundInt f.rnd neg n dn
    let qe : Exact := .fin neg q.1.natAbs 1
    let r := roundTo (fmtOf d) f.rnd f.sat e.fres (qe.scale f.sd)
    (r.1, r.2 ||| flIf (!q.2) flNX)
  | x => roundTo (fmtOf d) f.rnd f.sat e.fres x

/-- The class number of R116, of the encoding as it stands: flush inputs does not apply, and a signalling NaN sets no flag (DESIGN CHOICE: R61 and R58
speak of arithmetic and of every floating-point operation, R116 gives `VCLASS` numbers for subnormals and signalling NaNs and no flag; log
entry 22). -/
def classOf (t : Tag) (a : Nat) : Nat :=
  let f := fmtOf t
  match decodeFloat f a with
  | .nan b => if b then 8 else 9
  | .inf b => if b then 0 else 7
  | .fin neg n _ =>
    let mag := if f.signed then a % 2 ^ (f.width - 1) else a
    if n = 0 then (if neg then 3 else 4)
    else if mag < 2 ^ (f.prec - 1) then (if neg then 2 else 5)
    else (if neg then 1 else 6)

/-- A special function (R117): q, then × 2^SD and the last rounding; a free value where no precision settles it (log entry 8). -/
def specialOp (fn : SpecialFn) (e : Entry) (f : FmtReg) (free : Nat) (t d : Tag) (a : Nat) : Nat × Word :=
  match specialQ fn e.fres ((e.val t a).scale f.sa) with
  | some q =>
    let r := roundTo (fmtOf d) f.rnd f.sat e.fres (q.1.scale f.sd)
    (r.1, q.2 ||| r.2)
  | none => (free % 2 ^ tagWidth d, flNX)

/-- Leading zero bits of the low w bits. -/
def clzW (w a : Nat) : Nat := if a % 2 ^ w = 0 then w else w - 1 - Nat.log2 (a % 2 ^ w)
/-- One bits of the low w bits. -/
def popW : Nat → Nat → Nat
  | 0, _ => 0
  | w + 1, a => a % 2 + popW w (a / 2)

def uintOf (t : Tag) : Tag := tagUint (tagWidth t)

/-- `VCVT` (R60, R116): D is DFMT. -/
def specVcvt : UnSpec := ⟨okCvt, id, true, fun e f _ t d a =>
  convert f.rnd f.sat e.fres (!(tagKind t).isFloat) d ((e.val t a).scale (f.sa + f.sd))⟩
/-- `VNEG` (R116). -/
def specVneg : UnSpec := ⟨okNeg, id, false, fun _ f _ t _ a => if (tagKind t).isInt then intUnary (- ·) f t a else (negBits t a, 0)⟩
/-- `VABS` (R116). -/
def specVabs : UnSpec := ⟨okIFB, id, false, fun _ f _ t _ a => if (tagKind t).isInt then intUnary (fun v => v.natAbs) f t a else (absBits t a, 0)⟩
/-- `VSQRT` (R116). -/
def specVsqrt : UnSpec := ⟨okFB, id, false, fun e f _ t d a =>
  let q := Exact.sqrt ((e.val t a).scale f.sa)
  let r := roundTo (fmtOf d) f.rnd f.sat e.fres (q.1.scale f.sd)
  (r.1, q.2 ||| r.2)⟩
/-- `VRCP` (R117). -/
def specVrcp : UnSpec := ⟨okSpecial, id, true, specialOp .rcp⟩
/-- `VRSQRT` (R117). -/
def specVrsqrt : UnSpec := ⟨okSpecial, id, true, specialOp .rsqrt⟩
/-- `VEXP2` (R117). -/
def specVexp2 : UnSpec := ⟨okSpecial, id, true, specialOp .exp2⟩
/-- `VLOG2` (R117). -/
def specVlog2 : UnSpec := ⟨okSpecial, id, true, specialOp .log2⟩
/-- `VTANH` (R117). -/
def specVtanh : UnSpec := ⟨okSpecial, id, true, specialOp .tanh⟩
/-- `VSIGM` (R117). -/
def specVsigm : UnSpec := ⟨okSpecial, id, true, specialOp .sigm⟩
/-- `VERF` (R117). -/
def specVerf : UnSpec := ⟨okSpecial, id, true, specialOp .erf⟩
/-- `VROUND` (R116). -/
def specVround : UnSpec := ⟨okFB, id, false, fun e f _ t d a => roundOp e f t d a⟩
/-- `VPOPC` (R116). -/
def specVpopc : UnSpec := ⟨okIX, uintOf, false, fun _ _ _ t _ a => (popW (tagWidth t) a, 0)⟩
/-- `VCLZ` (R116). -/
def specVclz : UnSpec := ⟨okIX, uintOf, false, fun _ _ _ t _ a => (clzW (tagWidth t) a, 0)⟩
/-- `VCLASS` (R116): no flag (DESIGN CHOICE, log entry 22). -/
def specVclass : UnSpec := ⟨okFB, uintOf, false, fun _ _ _ t _ a => (classOf t a, 0)⟩

/-- The destination format of R115 and R116. `must` says that DFMT must be given (`VCVT`); without it the tag trap is taken with `tval` 0 (DESIGN CHOICE:
R116 names no trap; log entry 19). `nib` and `unib` are allowed there as R116 allows
any DFMT, and their results are packed at the width of 4 that R52 gives their elements (DESIGN CHOICE: R60 lists no nibble target; log
entry 19). -/
def unaryD (sp : UnSpec) (must : Bool) (t dfmt : Tag) : VRes Tag :=
  if must then
    if dfmt = 0 then spanTrap
    else if tagOk dfmt && tagKind dfmt != .row then .ok dfmt else tagTrap dfmt
  else
    let d := sp.rtag t
    if dfmt = 0 ∨ dfmt = d then .ok d
    else if sp.anyD && tagOk dfmt && (tagKind dfmt).isFloat && decide (tagWidth dfmt ≤ 32) then .ok dfmt
    else tagTrap dfmt

/-- A VU operation (R115, R116). RND 5–7 raise the tag trap of R64 for every one of them, also for `VNEG` and `VABS` on kinds F and B, which ignore
RND (DESIGN CHOICE: R64 traps at execution, R115 lets them ignore the field; log entry 19). -/
def runUnary (sp : UnSpec) (must : Bool) (o : OpVu) : VRun := fun e hi s =>
  elementwise e s (do
    let f ← fmtReg e.fmt
    let t := override f.atag (s.vtag o.a)
    need (tagOk t && sp.accept t) t
    let d ← unaryD sp must t f.dfmt
    let wa := numWidth t
    let wd := numWidth d
    let av ← readSpan s e o.a wa
    destOk e o.d wd o.a wa
    let gov ← govMask s o.m
    let p := s.pick (2 ^ 64)
    .ok (emitVec e hi p.2 gov o.d wd d fun i => sp.f e f p.1 t d (elem wa av i)))

/-- `VID`: i mod 2^EW (R116). -/
def runId (o : OpVu) : VRun := fun e hi s =>
  elementwise e s (do
    let f ← fmtReg e.fmt
    let t := tagId e.ew
    need (f.dfmt == 0 || f.dfmt == t) f.dfmt
    needSpan (e.spanOk o.d e.ew)
    let gov ← govMask s o.m
    .ok (emitVec e hi s gov o.d e.ew t fun i => (i % 2 ^ e.ew, 0)))

def codeVu (f5 : BitVec 5) (o : OpVu) : Code := .word (std 17 o.c (bodyR o.d o.a f5 (o.m ++ 0#2 ++ o.fs)))
def infoVu (cls : Cls) (o : OpVu) : VInfo := ⟨cls, some o.d, none, none, none, some o.fs⟩

/-- `VCVT` (R116). -/
def vopVcvt (o : OpVu) : VOp := ⟨true, infoVu .alu o, runUnary specVcvt true o⟩
/-- `VCVT` (R116). -/
def execVcvt (o : OpVu) (s : State) : Out := pushVector (codeVu 0 o) 4 o.c (vopVcvt o) s
/-- `VNEG` (R116). -/
def vopVneg (o : OpVu) : VOp := ⟨true, infoVu .alu o, runUnary specVneg false o⟩
/-- `VNEG` (R116). -/
def execVneg (o : OpVu) (s : State) : Out := pushVector (codeVu 1 o) 4 o.c (vopVneg o) s
/-- `VABS` (R116). -/
def vopVabs (o : OpVu) : VOp := ⟨true, infoVu .alu o, runUnary specVabs false o⟩
/-- `VABS` (R116). -/
def execVabs (o : OpVu) (s : State) : Out := pushVector (codeVu 2 o) 4 o.c (vopVabs o) s
/-- `VSQRT` (R116). -/
def vopVsqrt (o : OpVu) : VOp := ⟨true, infoVu .alu o, runUnary specVsqrt false o⟩
/-- `VSQRT` (R116). -/
def execVsqrt (o : OpVu) (s : State) : Out := pushVector (codeVu 3 o) 4 o.c (vopVsqrt o) s
/-- `VRCP` (R116). -/
def vopVrcp (o : OpVu) : VOp := ⟨true, infoVu .sfu o, runUnary specVrcp false o⟩
/-- `VRCP` (R116). -/
def execVrcp (o : OpVu) (s : State) : Out := pushVector (codeVu 4 o) 4 o.c (vopVrcp o) s
/-- `VRSQRT` (R116). -/
def vopVrsqrt (o : OpVu) : VOp := ⟨true, infoVu .sfu o, runUnary specVrsqrt false o⟩
/-- `VRSQRT` (R116). -/
def execVrsqrt (o : OpVu) (s : State) : Out := pushVector (codeVu 5 o) 4 o.c (vopVrsqrt o) s
/-- `VEXP2` (R116). -/
def vopVexp2 (o : OpVu) : VOp := ⟨true, infoVu .sfu o, runUnary specVexp2 false o⟩
/-- `VEXP2` (R116). -/
def execVexp2 (o : OpVu) (s : State) : Out := pushVector (codeVu 6 o) 4 o.c (vopVexp2 o) s
/-- `VLOG2` (R116). -/
def vopVlog2 (o : OpVu) : VOp := ⟨true, infoVu .sfu o, runUnary specVlog2 false o⟩
/-- `VLOG2` (R116). -/
def execVlog2 (o : OpVu) (s : State) : Out := pushVector (codeVu 7 o) 4 o.c (vopVlog2 o) s
/-- `VTANH` (R116). -/
def vopVtanh (o : OpVu) : VOp := ⟨true, infoVu .sfu o, runUnary specVtanh false o⟩
/-- `VTANH` (R116). -/
def execVtanh (o : OpVu) (s : State) : Out := pushVector (codeVu 8 o) 4 o.c (vopVtanh o) s
/-- `VSIGM` (R116). -/
def vopVsigm (o : OpVu) : VOp := ⟨true, infoVu .sfu o, runUnary specVsigm false o⟩
/-- `VSIGM` (R116). -/
def execVsigm (o : OpVu) (s : State) : Out := pushVector (codeVu 9 o) 4 o.c (vopVsigm o) s
/-- `VERF` (R116). -/
def vopVerf (o : OpVu) : VOp := ⟨true, infoVu .sfu o, runUnary specVerf false o⟩
/-- `VERF` (R116). -/
def execVerf (o : OpVu) (s : State) : Out := pushVector (codeVu 10 o) 4 o.c (vopVerf o) s
/-- `VROUND` (R116). -/
def vopVround (o : OpVu) : VOp := ⟨true, infoVu .alu o, runUnary specVround false o⟩
/-- `VROUND` (R116). -/
def execVround (o : OpVu) (s : State) : Out := pushVector (codeVu 11 o) 4 o.c (vopVround o) s
/-- `VPOPC` (R116). -/
def vopVpopc (o : OpVu) : VOp := ⟨true, infoVu .alu o, runUnary specVpopc false o⟩
/-- `VPOPC` (R116). -/
def execVpopc (o : OpVu) (s : State) : Out := pushVector (codeVu 12 o) 4 o.c (vopVpopc o) s
/-- `VCLZ` (R116). -/
def vopVclz (o : OpVu) : VOp := ⟨true, infoVu .alu o, runUnary specVclz false o⟩
/-- `VCLZ` (R116). -/
def execVclz (o : OpVu) (s : State) : Out := pushVector (codeVu 13 o) 4 o.c (vopVclz o) s
/-- `VID` (R116). -/
def vopVid (o : OpVu) : VOp := ⟨o.a == 0, infoVu .alu o, runId o⟩
/-- `VID` (R116). -/
def execVid (o : OpVu) (s : State) : Out := pushVector (codeVu 14 o) 4 o.c (vopVid o) s
/-- `VCLASS` (R116). -/
def vopVclass (o : OpVu) : VOp := ⟨true, infoVu .alu o, runUnary specVclass false o⟩
/-- `VCLASS` (R116). -/
def execVclass (o : OpVu) (s : State) : Out := pushVector (codeVu 15 o) 4 o.c (vopVclass o) s

end Sys2Proof.Machine
end

