-- ==== Sys2Proof/Machine/Matrix.lean ====
section
/-! DEFINITION. Tile streams and the matrix instructions (R266-R279, R353). -/

namespace Sys2Proof.Machine

/-! Tiles. -/

/-- Accumulator tile n (R266). -/
def State.tile (s : State) (n : BitVec 2) : Nat := vget (n := 2) s.cur.ac n

/-- Writing a tile: its dirty bit is set (R9, R274). -/
def State.putTile (s : State) (n : BitVec 2) (v : Nat) : State :=
  s.setCur { s.cur with
    ac := vset (n := 2) s.cur.ac n v
    u := { s.cur.u with xdirty := s.cur.u.xdirty ||| (1#64 <<< (16 + n.toNat)) } }

/-- A tile that an instruction reads (R321). -/
def readTile (s : State) (n : BitVec 2) : VRes Nat := if s.cur.poison.ac.getLsbD n.toNat then poisonTrap else .ok (s.tile n)

/-- A tile with rows replaced. -/
def tileWith (old : Nat) (row : Nat → Option (Nat → Nat)) : Nat :=
  pack 32 ((List.range 4096).map fun k =>
    match row (k / 64) with
    | some f => f (k % 64)
    | none => elem 32 old k)

/-- Active rows below n: `vl`, the mask, `m15` in a reissue (R274, R276). -/
def Entry.rows (e : Entry) (act : Nat → Bool) (n : Nat) : List Nat := (e.actives act).filter fun i => decide (i < min 64 n)

/-! Formats. -/

/-- The operand formats and the row geometry of R272. -/
structure Pairing where
  at_ : Tag
  bt : Tag
  /-- Element width in bits, row length in bytes, elements of a row, elements of a chunk. -/
  w : Nat
  len : Nat
  k : Nat
  n : Nat
  scale : Int
  rnd : Rnd
  sat : Bool
  deriving DecidableEq, Repr

/-- The pairing class of a format (R272). -/
def pairClass (t : Tag) : Nat :=
  if tagOk t && tagKind t == .b8 then 1
  else if t = tagFp16 ∨ t = tagBf16 then 2
  else if t = 0 ∨ t = 1 then 3
  else if t = 0x007 ∨ t = 0x107 then 4
  else 0

/-- The format register as R272 reads it. -/
def readPair (e : Entry) : VRes Pairing := do
  let f ← fmtReg e.fmt
  need (pairClass f.atag != 0) f.atag
  need (pairClass f.btag == pairClass f.atag) f.btag
  need (f.dfmt == 0 || f.dfmt == tagFp32) f.dfmt
  let w := numWidth f.atag
  let len := if f.row = 0 then 512 else 64 * f.row
  .ok ⟨f.atag, f.btag, w, len, len * 8 / w, 256 / w, f.sa + f.sb + f.sd, f.rnd, f.sat⟩

/-! Accumulation (R71). -/

/-- The chunks of one element in ascending K: the accumulated encoding and the flags. -/
def Entry.accChunks (e : Entry) (p : Pairing) : Nat → List Exact → List Exact → Nat × Word → Nat × Word
  | 0, _, _, r => r
  | c + 1, as, bs, r =>
    let ts := List.zipWith (product p.at_) (as.take p.n) (bs.take p.n)
    let sm := Exact.sum p.rnd (ts.map (·.1))
    let t := Exact.add p.rnd (decodeFloat fmtFp32 r.1) (sm.1.scale p.scale)
    let y := roundTo fmtFp32 p.rnd p.sat e.fres t.1
    accChunks e p c (as.drop p.n) (bs.drop p.n)
      (y.1, r.2 ||| (ts.map (·.2)).foldl (· ||| ·) 0 ||| sm.2 ||| t.2 ||| y.2)

/-- Rows accumulated into a tile: `av` gives the elements of the rows of a, `bs` the rows of b. -/
def Entry.accumulate (e : Entry) (p : Pairing) (old : Nat) (av : List (Nat × List Exact)) (bs : List (List Exact)) :
    Nat × Word :=
  let new := av.map fun r => (r.1, bs.mapIdx fun j b => e.accChunks p (p.k / p.n) r.2 b (elem 32 old (64 * r.1 + j), 0))
  (tileWith old fun i => (new.find? (·.1 == i)).map fun r => fun j => ((r.2[j]?).map (·.1)).getD (elem 32 old (64 * i + j)),
   ((new.map (·.2)).flatten.map (·.2)).foldl (· ||| ·) 0)

/-- The elements of row i of a register span (R274). -/
def Entry.regRow (e : Entry) (p : Pairing) (t : Tag) (bits i : Nat) : List Exact :=
  (List.range p.k).map fun k => e.val t (elem p.w bits (i * p.k + k))

/-! MZERO, XACC, MEXT. -/

/-- `MZERO` (R273). -/
def runMZero (o : OpMx) : VRun := fun e _ s =>
  elementwise e s (do
    let e := e.whole
    let gov ← govMask s o.m
    let rows := e.rows (e.active s gov) 64
    let s1 := s.putTile o.ac (tileWith (s.tile o.ac) fun i => if rows.contains i then some fun _ => 0 else none)
    .ok (.done (s1.setPoison { s1.cur.poison with ac := s1.cur.poison.ac &&& ~~~(1#64 <<< o.ac.toNat) }) 0))

/-- `XACC` (R274). -/
def runXacc (o : OpMx) : VRun := fun e _ s =>
  elementwise e s (do
    let e := e.whole
    let p ← readPair e
    need (s.vtag o.a == 6) (s.vtag o.a)
    need (s.vtag o.b == 6) (s.vtag o.b)
    let av ← readSpan s e o.a 8
    let bv ← readSpan s e o.b 8
    let old ← readTile s o.ac
    let gov ← govMask s o.m
    let n := e.spanLen 8 * e.rlen / p.len
    let rows := e.rows (e.active s gov) n
    let r := e.accumulate p old (rows.map fun i => (i, e.regRow p p.at_ av i))
      ((List.range (min 64 n)).map (e.regRow p p.bt bv))
    .ok (.done (s.putTile o.ac r.1) r.2))

/-- `MEXT` (R277). -/
def runMext (o : OpMx) : VRun := fun e _ s =>
  elementwise e s (do
    let e := e.whole
    let r := e.xb.toNat
    if 64 < r + (e.vl + 63) / 64 then .error (cMatrixRange, e.xb)
    else
      let f ← fmtReg e.fmt
      let d := override f.dfmt tagFp32
      need (tagOk d && (tagKind d).isFloat && decide (tagWidth d ≤ 32) && tagWidth d == e.ew) d
      needSpan (e.spanOk o.d e.ew)
      let old ← readTile s o.ac
      let gov ← govMask s o.m
      .ok (emitVec e e.vl s gov o.d e.ew d fun i =>
        roundTo (fmtOf d) f.rnd f.sat e.fres ((decodeFloat fmtFp32 (elem 32 old (64 * r + i))).scale f.sd)))

/-! Tile streams. -/

/-- Tile stream register n. -/
def State.stream (s : State) (n : BitVec 5) : TileStream := vget (n := 3) s.cur.ts (n.setWidth 3)
def State.putStream (s : State) (n : BitVec 5) (t : TileStream) : State :=
  s.setCur { s.cur with ts := vset (n := 3) s.cur.ts (n.setWidth 3) t }

/-- A tile descriptor (R266). -/
def TileStream.ofBytes (bs : List Byte) (bar : Option Word) : TileStream :=
  ⟨true, BitVec.ofNat 64 (fieldAt bs 0 8), BitVec.ofNat 64 (fieldAt bs 8 8), BitVec.ofNat 32 (fieldAt bs 0x10 4), fieldAt bs 0x14 2,
   fieldAt bs 0x16 2, BitVec.ofNat 64 (fieldAt bs 0x18 8), bar⟩

/-- A record for a single access: bit 0 of `m15` and FIRSTEL 0 (R268, R297). -/
def oneWait (e : Entry) (source : Nat) (acc : Acc) (code va pline : Nat) (s : State) : EntryOut :=
  let s1 := s.putMask 15 1
  let r := s1.newRec source (e.addr.setWidth 64) (2 ^ 32 - 1) [⟨va / 2 ^ 16, code, acc.code⟩] 0 false 0 pline 0
  .wait r.2 r.1 0

/-- An address that is aligned and in range, or the fault; alignment is looked at first (R219). -/
def alignedAt (a : Word) (n : Nat) : VRes Unit :=
  if a.toNat % n ≠ 0 then .error (cAlign, a) else if 2 ^ 52 ≤ a.toNat then .error (cRange, a) else .ok ()

/-- n bytes read as one load of the entry, or what stops it. -/
def loadPiece (e : Entry) (s : State) (source : Nat) (va n : Nat) (k : List Byte → State → EntryOut) : EntryOut :=
  match locate s va n .read with
  | .ok l s1 => let r := locRead (l.engineTouch false s1) l n; k r.1 (r.2.noteRead va n)
  | .trap c t s1 => .trap s1 c t
  | .svc c v p s1 => oneWait e source .read c v p s1
  | .hold s1 | .stall s1 => .hold s1

/-- `TSET` (R268). The alignment checks come before any access. -/
def runTset (o : OpMx) : VRun := fun e _ s =>
  elementwise e s (do
    if e.xa.toNat % 32 ≠ 0 then .error (cAlign, e.xa)
    else if o.b ≠ 0 ∧ e.xb.toNat % 16 ≠ 0 then .error (cAlign, e.xb)
    else
      alignedAt e.xa 32
      .ok (loadPiece e s 4 e.xa.toNat 32 fun bs s1 =>
        let t := TileStream.ofBytes bs (if o.b = 0 then none else some e.xb)
        if t.rows = 0 ∨ 64 < t.rows ∨ t.rowlen = 0 ∨ t.rowlen % 64 ≠ 0 ∨ 512 < t.rowlen then .trap s1 cTileDesc e.xa
        else .done (s1.putStream o.d t) 0))

/-- The address of element k of row r, and the half of its byte for nibbles (R269). -/
def TileStream.place (t : TileStream) (p : Pairing) (r k : Nat) : Word × Nat := t.element p.w r k

/-- The checks of R269 and R274 on the rows that an operand reads, with the register number n for `tval`, and of R6 on its bound barrier, after
them (DEDUCED, log entry 43). -/
def streamCheck (t : TileStream) (p : Pairing) (n : BitVec 5) (rows : List Nat) : VRes Unit :=
  let reg := n.setWidth 64
  if !t.live then .error (cTileDesc, reg)
  else if t.rowlen ≠ p.len then .error (cTileDesc, reg)
  else if decide (8 ≤ p.w) && t.estride.getLsbD 0 then .error (cSubByte, t.estride.signExtend 64)
  else
    let places := (rows.map fun r => (List.range p.k).map fun k => (t.place p r k).1).flatten
    match places.find? fun a => decide (2 ^ 52 ≤ a.toNat) || (decide (8 ≤ p.w) && a.toNat % (p.w / 8) != 0) with
    | some a => .error (if 2 ^ 52 ≤ a.toNat then cRange else cAlign, a)
    | none =>
      if 64 < ((places.map fun a => a.toNat / 2 ^ 16).eraseDups).length then .error (cTileDesc, reg)
      else match t.bar.filter (2 ^ 52 ≤ ·.toNat) with
        | some b => .error (cRange, b)
        | none => .ok ()

/-- What the reads of an operand answer: values by row, faulting elements with their row as index. -/
structure Fetched where
  s : State
  rows : List (Nat × List Exact)
  bad : List BadEl
  held : Bool
  outside : Option Nat

/-- One row read (R270): every element, in ascending order. -/
def fetchRow (e : Entry) (t : TileStream) (p : Pairing) (tag : Tag) (f : Fetched) (r : Nat) : Fetched :=
  let n := max 1 (p.w / 8)
  let x := (List.range p.k).foldl (fun (a : Fetched × List Exact) k =>
    let pl := t.place p r k
    match locate a.1.s pl.1.toNat n .read with
    | .ok l s1 =>
      let v := locRead (l.engineTouch false s1) l n
      let b := Memory.leVal v.1
      ({ a.1 with s := v.2.noteRead pl.1.toNat n }, e.val tag (if p.w = 4 then b / 16 ^ pl.2 % 16 else b) :: a.2)
    | .svc c va pline s1 => ({ a.1 with s := s1, bad := a.1.bad ++ [⟨r, va, c, pline⟩] }, a.2)
    | .trap _ _ s1 => ({ a.1 with s := s1, outside := some pl.1.toNat }, a.2)
    | .hold s1 | .stall s1 => ({ a.1 with s := s1, held := true }, a.2)) (f, [])
  { x.1 with rows := x.1.rows ++ [(r, x.2.reverse)] }

/-- The rows of an operand read. -/
def fetchRows (e : Entry) (s : State) (t : TileStream) (p : Pairing) (tag : Tag) (rows : List Nat) : Fetched :=
  rows.foldl (fetchRow e t p tag) ⟨s, [], [], false, none⟩

/-- The rows that lie wholly on translated pages (R276). -/
def Fetched.good (f : Fetched) : List (Nat × List Exact) := f.rows.filter fun r => !(f.bad.any fun b => b.i == r.1)

/-- What the bound barriers of tile streams answer: the pages that fault, and whether an engine holds a line of one. -/
structure BarOut where
  bad : List BadEl
  held : Bool
  s : State

/-- The bound barriers of tile streams, translated for writing (R270). A barrier that breaks R192 faults at the arrival. -/
def barFaults (s : State) (regs : List (BitVec 5)) : BarOut :=
  regs.foldl (fun a n =>
    match (s.stream n).bar with
    | none => a
    | some b =>
      match objectAt a.s b with
      | .svc c va p s1 => { a with bad := a.bad ++ [⟨0, va, c, p⟩], s := s1 }
      | .ok _ s1 | .trap _ _ s1 => { a with s := s1 }
      | .hold s1 | .stall s1 => { a with held := true, s := s1 }) ⟨[], false, s⟩

/-- The end of a consumed register (R270): TSTEP once, then one arrival; the address of a barrier whose arrival is not made. -/
def finishStream (s : State) (n : BitVec 5) : Option Word × State :=
  let t := s.stream n
  let s1 := s.putStream n { t with base := t.base + t.tstep }
  match t.bar with
  | none => (none, s1)
  | some b =>
    match objectAt s1 b with
    | .ok pa s2 =>
      match arrive s2 pa with
      | some (_, s3) => (none, s3)
      | none => (some b, s2)
    | .trap _ _ s2 => (some b, s2)
    | .svc _ _ _ s2 => (some b, s2)
    | .hold s2 | .stall s2 => (some b, s2)

/-- The ends of several registers. -/
def finishStreams (s : State) (regs : List (BitVec 5)) : List Word × State :=
  regs.foldl (fun (a : List Word × State) n =>
    let r := finishStream a.2 n
    (a.1 ++ r.1.toList, r.2)) ([], s)

/-- A record of the tile fetch unit with the rows of the reissue in `m15` (R276): the rows, the faulting elements that it reads, and the barriers
that it writes (R270, R313). `cb` is its CTX byte. -/
def tileRec (cb : Nat) (addr : BitVec 52) (rows : List Nat) (bad bars : List BadEl) (s : State) : Nat × State :=
  let ps := badPages .write bars (badPages .read bad [])
  let s1 := s.putMask 15 (bitsOf rows)
  s1.newRecAs cb 4 (addr.setWidth 64) (2 ^ 32 - 1) (ps.take 32) (rows.foldl min 63) (decide (32 < ps.length)) 0
    (plineOf (bad ++ bars) (ps.take 32)) 0

/-- The active rows of operand a. -/
def tileRows (e : Entry) (s : State) (mk : BitVec 4) (t : TileStream) : VRes (List Nat) := do
  let gov ← govMask s mk
  .ok (e.rows (e.active s gov) t.rows)

/-- The rows of operand b. -/
def TileStream.all (t : TileStream) : List Nat := List.range (min 64 t.rows)

/-- `XACCT` (R274, R276). -/
def runXacct (o : OpMx) : VRun := fun e _ s =>
  elementwise e s (do
    let e := e.whole
    let p ← readPair e
    let ta := s.stream o.a
    let tb := s.stream o.b
    if !ta.live then .error (cTileDesc, o.a.setWidth 64)
    else
      let rows ← tileRows e s o.m ta
      streamCheck ta p o.a rows
      streamCheck tb p o.b tb.all
      let old ← readTile s o.ac
      let fb := fetchRows e s tb p p.bt tb.all
      let fa := fetchRows e fb.s ta p p.at_ rows
      if fa.held || fb.held then .ok (.hold s)
      else
        match fb.outside, fa.outside with
        | some a, _ => .error (cOutside, BitVec.ofNat 64 a)
        | none, some a => .error (cOutside, BitVec.ofNat 64 a)
        | none, none =>
          let regs := if o.a = o.b then [o.a] else [o.a, o.b]
          let br := barFaults fa.s regs
          if br.held then .ok (.hold s)
          else if !fb.bad.isEmpty || !br.bad.isEmpty then
            let r := tileRec s.cur.id.toNat e.addr rows fb.bad br.bad br.s
            .ok (.wait r.2 r.1 0)
          else
            let acc := e.accumulate p old fa.good (fb.rows.map (·.2))
            let s1 := br.s.putTile o.ac acc.1
            if !fa.bad.isEmpty then
              let r := tileRec s.cur.id.toNat e.addr (rows.filter fun i => fa.bad.any fun b => b.i == i) fa.bad [] s1
              .ok (.wait r.2 r.1 acc.2)
            else
              let f := finishStreams s1 regs
              match f.1 with
              | [] => .ok (.done f.2 acc.2)
              | b :: _ => .ok (.doneTrap f.2 acc.2 cSyncObj b))

/-! GXACCT (R278, R353). -/

/-- The state with the registers and the local store of a member in the place of the current context's, and what stood there. The
fields of `Mate` change places; nothing else does. -/
def State.swapMate (s : State) (m : Mate) : State × Mate :=
  (let c : Ctx := { s.cur with
      u := { s.cur.u with tid := m.tid, coreid := m.coreid, xdirty := m.xdirty }
      ts := m.ts
      ac := m.ac
      m := vset (n := 4) s.cur.m 15 m.m15
      poison := { s.cur.poison with ac := m.acBad } }
   { s with cur := c, core := { s.core with banks := m.banks, spad := m.spad, spadBad := m.spadBad, tlb1 := m.tlb1, tlb2 := m.tlb2 } },
   { m with
      tid := s.cur.u.tid, coreid := s.cur.u.coreid, xdirty := s.cur.u.xdirty, ts := s.cur.ts, ac := s.cur.ac,
      m15 := s.mask 15, acBad := s.cur.poison.ac, banks := s.core.banks, spad := s.core.spad, spadBad := s.core.spadBad, tlb1 := s.core.tlb1,
      tlb2 := s.core.tlb2 })

/-- The member with a number: the leader itself is 0. -/
def State.mate (s : State) (n : Nat) : Option Mate := s.core.mates.find? (·.member == n)

/-- What member parts leave: the state, flags, barriers whose arrival was not made, and the parts that wait. -/
structure PartOut where
  s : State
  fl : Word
  bars : List Word
  parts : List GangPart

/-- The rows of a member: the leader's mask over the member's rows; in a part's reissue the member's `m15` (R353). `n` is its number. -/
def memberRows (e : Entry) (s : State) (mk : BitVec 4) (a : BitVec 5) (alone : Bool) (n : Nat) : VRes (List Nat) := do
  let t := match s.mate n with
    | some m => vget (n := 3) m.ts (a.setWidth 3)
    | none => s.stream a
  if !t.live then .error (cTileDesc, a.setWidth 64)
  else if alone then
    let m15 := match s.mate n with
      | some m => m.m15
      | none => s.mask 15
    .ok (((List.range e.vl).filter m15.testBit).filter fun i => decide (i < min 64 t.rows))
  else tileRows e s mk t

/-- What one member part leaves: the state, its flags, the barrier whose arrival it has not made, the record that it waits on. -/
structure PartEnd where
  s : State
  fl : Word
  bar : Option Word
  rid : Option Nat

/-- A member part on the core of the current context (R278, R353): `bs` are the rows of b, `rows` those of a, `cb` the CTX byte of its record;
`last` is false where the register is also the leader's tsB, which is consumed once, with operand b (R270). -/
def partStep (e : Entry) (ac : BitVec 2) (a : BitVec 5) (p : Pairing) (bs : List (List Exact)) (rows : List Nat) (cb : Nat) (last : Bool)
    (s : State) : PartEnd :=
  let f := fetchRows e s (s.stream a) p p.at_ rows
  let br := barFaults f.s [a]
  if !br.bad.isEmpty then
    let r := tileRec cb e.addr rows f.bad br.bad br.s
    ⟨r.2, 0, none, some r.1⟩
  else
    let acc := e.accumulate p (s.tile ac) f.good bs
    let s1 := br.s.putTile ac acc.1
    if !f.bad.isEmpty then
      let r := tileRec cb e.addr (rows.filter fun i => f.bad.any fun b => b.i == i) f.bad [] s1
      ⟨r.2, acc.2, none, some r.1⟩
    else if !last then ⟨s1, acc.2, none, none⟩
    else
      let d := finishStream s1 a
      ⟨d.2, acc.2, d.1, none⟩

/-- A part taken up by the leader's operation. -/
def PartOut.take (q : PartOut) (ctx : Bool) (n : Nat) (r : PartEnd) (s : State) : PartOut :=
  { s := s, fl := q.fl ||| r.fl, bars := q.bars ++ r.bar.toList,
    parts := q.parts ++ match r.rid with
      | some i => [⟨ctx, n, some i⟩]
      | none => [] }

/-- The part of member n with the rows of b: `q.s` is the leader's state. -/
def memberPart (e : Entry) (o : OpMx) (p : Pairing) (bs : List (List Exact)) (rows : List Nat) (n : Nat) (q : PartOut) :
    PartOut :=
  let ctx := q.s.cur.id
  match q.s.mate n with
  | none =>
    let r := partStep e o.ac o.a p bs rows ctx.toNat (n != 0 || o.a != o.b) q.s
    q.take ctx n r r.s
  | some m =>
    let sw := q.s.swapMate m
    let r := partStep e o.ac o.a p bs rows m.ctx.toNat true sw.1
    let back := r.s.swapMate sw.2
    q.take ctx n r (back.1.setCore { back.1.core with
      slots := q.s.core.slots
      mates := back.1.core.mates.map fun k => if k.member = n then back.2 else k })

/-- The gang of the current thread. -/
def State.gang (s : State) : Option GangRec := s.core.gangs.find? fun g => g.gid == (s.cur.u.gangid >>> 4 &&& 15).toNat

/-- The parts that run now, each with its rows: every member at first, the answered parts in a reissue (R353). -/
def partRows (e : Entry) (s : State) (o : OpMx) (alone : Bool) : List Nat → VRes (List (Nat × List Nat))
  | [] => .ok []
  | n :: ns => do
    let r ← memberRows e s o.m o.a alone n
    let rs ← partRows e s o alone ns
    .ok ((n, r) :: rs)

/-- The checks of R269 on every member's operand a. -/
def partChecks (s : State) (o : OpMx) (p : Pairing) : List (Nat × List Nat) → VRes Unit
  | [] => .ok ()
  | (n, rows) :: r => do
    streamCheck (match s.mate n with
      | some m => vget (n := 3) m.ts (o.a.setWidth 3)
      | none => s.stream o.a) p o.a rows
    partChecks s o p r

/-- The tile of every part, read without poison (R321). -/
def partTiles (s : State) (o : OpMx) (ps : List (Nat × List Nat)) : VRes Unit :=
  if ps.any fun x => ((s.mate x.1).map (·.acBad)).getD s.cur.poison.ac |>.getLsbD o.ac.toNat then poisonTrap else .ok ()

/-- Whether a part meets a line that an engine holds, and an address that a peer refuses (R253, R370). -/
def partProbe (e : Entry) (o : OpMx) (p : Pairing) (s : State) (x : Nat × List Nat) : Bool × Option Nat :=
  let s1 := match s.mate x.1 with
    | some m => (s.swapMate m).1
    | none => s
  let f := fetchRows e s1 (s1.stream o.a) p p.at_ x.2
  (f.held || (barFaults f.s [o.a]).held, f.outside)

/-- Parts that wait on a record of operand b, in a reissue (R353). -/
def failParts (e : Entry) (bad bars : List BadEl) (ps : List (Nat × List Nat)) (s : State) : State × List GangPart :=
  ps.foldl (fun (a : State × List GangPart) x =>
    match a.1.mate x.1 with
    | none => let r := tileRec a.1.cur.id.toNat e.addr x.2 bad bars a.1; (r.2, a.2 ++ [⟨s.cur.id, x.1, some r.1⟩])
    | some m =>
      let sw := a.1.swapMate m
      let r := tileRec m.ctx.toNat e.addr x.2 bad bars sw.1
      let b := r.2.swapMate sw.2
      (b.1.setCore { b.1.core with mates := b.1.core.mates.map fun k => if k.member = x.1 then b.2 else k },
       a.2 ++ [⟨s.cur.id, x.1, some r.1⟩])) (s, [])

/-- The parts of the current context's gang operation, and those of the other context's. -/
def State.myParts (s : State) : List GangPart := s.core.parts.filter fun p => p.ctx == s.cur.id
def State.putParts (s : State) (l : List GangPart) (bars : List Word) : State :=
  s.setCore { s.core with
    parts := (s.core.parts.filter fun p => p.ctx != s.cur.id) ++ l
    partBars := (s.core.partBars.filter fun b => b.1 != s.cur.id) ++ bars.map fun b => (s.cur.id, b) }

/-- The entry waits for the first of its parts; barriers whose arrival was not made are kept for its end (R278). -/
def waitParts (s : State) (parts : List GangPart) (bars : List Word) (fl : Word) : EntryOut :=
  let s1 := s.putParts parts bars
  match (parts.filterMap (·.rid)).head? with
  | some rid => .wait s1 rid fl
  | none => .hold s1

/-- `GXACCT` (R278, R353). -/
def runGxacct (o : OpMx) : VRun := fun e _ s =>
  elementwise e s (do
    let e := e.whole
    let p ← readPair e
    let g := s.cur.u.gangid
    if (g >>> 4 &&& 15) = 0 ∨ (g >>> 2 &&& 3) ≠ 0 then .error (cSyncObj, ((s.gang).map (·.va)).getD 0)
    else
      let parts := s.myParts
      let bars := (s.core.partBars.filter fun b => b.1 == s.cur.id).map (·.2)
      let alone := !parts.isEmpty
      let waiting := parts.filter fun q => match q.rid with
        | some r => s.dev.recs.any (·.rid == r)
        | none => false
      let todo := if alone then (parts.filter fun q => !waiting.contains q).map (·.member)
        else 0 :: s.core.mates.map (·.member)
      if todo.isEmpty then .ok (waitParts s waiting bars 0)
      else
        let tb := s.stream o.b
        let ps ← partRows e s o alone todo
        partChecks s o p ps
        if !tb.live then .error (cTileDesc, o.b.setWidth 64)
        else
          streamCheck tb p o.b tb.all
          partTiles s o ps
          let fb := fetchRows e s tb p p.bt tb.all
          let pr := ps.map (partProbe e o p fb.s)
          let br := barFaults fb.s [o.b]
          if fb.held || br.held || pr.any (·.1) then .ok (.hold s)
          else
            match (fb.outside :: pr.map (·.2)).filterMap id |>.head? with
            | some a => .error (cOutside, BitVec.ofNat 64 a)
            | none =>
              if !fb.bad.isEmpty || !br.bad.isEmpty then
                if alone then
                  let r := failParts e fb.bad br.bad ps br.s
                  .ok (waitParts r.1 (waiting ++ r.2) bars 0)
                else
                  let rows ← tileRows e s o.m { tb with rows := 64 }
                  let r := tileRec s.cur.id.toNat e.addr rows fb.bad br.bad br.s
                  .ok (.wait r.2 r.1 0)
              else
                let q := ps.foldl (fun q x => memberPart e o p (fb.rows.map (·.2)) x.2 x.1 q) ⟨br.s, 0, bars, waiting⟩
                if !q.parts.isEmpty then .ok (waitParts q.s q.parts q.bars q.fl)
                else
                  let f := finishStream (q.s.putParts [] []) o.b
                  match q.bars ++ f.1.toList with
                  | [] => .ok (.done f.2 q.fl)
                  | b :: _ => .ok (.doneTrap f.2 q.fl cSyncObj b))

/-! A member part on this core that another core's leader has issued (R278, R279, R353). -/

/-- The leader's entry, as far as a member part needs it. -/
def memberEntry (o : MemberArgs) : Entry :=
  { code := .half 0, addr := o.addr, conv := false, xa := 0, xb := 0, fmt := o.fmt, vl := o.vl, vstart := 0, vtype := o.vtype, flags := 0,
    seq := 0, reissue := false, rid := none, fin := false, first := 0, pins := [], upto := 0, seen := [], dead := [] }

/-- The rows of the part: the leader's mask over the rows of a, or, where the part runs again after service, those that `m15` names. -/
def memberArgRows (o : MemberArgs) (s : State) (again : Bool) : List Nat :=
  let on (i : Nat) : Bool := if again then (s.mask 15).testBit i else match o.gov with
    | none => true
    | some m => m.testBit i
  (List.range (min (min 64 (s.stream o.ts).rows) o.vl)).filter on

/-- The faults of a part's new read of operand b. -/
def badElsOf (o : MemberArgs) (write : Bool) : List BadEl :=
  (o.bad.filter fun b => b.2.2.2 == write).map fun b => ⟨0, b.1, b.2.1, b.2.2.1⟩

/-- The part is outstanding until it has completed, or DELIVER has ended it (R353). -/
def State.aim (s : State) (o : MemberArgs) (rid : Option Nat) : State :=
  s.setCore { s.core with aimed := rid.map fun i => ⟨o.addr, s.cur.id, o.ac, some i⟩ }

/-- The part runs on the current context, a member other than the leader; its translations are those of user mode whatever the member does (R279).
A fault of R269 is raised in the leader, a refusing peer too, and a fault of b before the part has run for the first time; then nothing happens here.
One at the reissue is the member's (R353). -/
def State.memberPart (s : State) (o : MemberArgs) : State :=
  let again := o.again || s.core.aimed.isSome
  let member := (s.cur.thr.live || s.cur.thr.ended == some false) && (s.cur.u.gangid >>> 4 &&& 15) != 0 && (s.cur.u.gangid >>> 2 &&& 3) != 0
  let mine := match s.core.aimed with
    | none => true
    | some q => q.ctx == s.cur.id && q.addr == o.addr && q.rid.isNone
  if !member || !mine then s
  else
    let e := memberEntry o
    match readPair e with
    | .error _ => s
    | .ok p =>
      let rows := memberArgRows o s again
      if !o.bad.isEmpty then
        if again then
          let r := tileRec s.cur.id.toNat o.addr rows (badElsOf o false) (badElsOf o true) s
          r.2.aim o (some r.1)
        else s
      else
      let f := fetchRows e s (s.stream o.ts) p p.at_ rows
      match streamCheck (s.stream o.ts) p o.ts rows with
      | .error _ => s
      | .ok _ =>
        if f.held || f.outside.isSome || (barFaults f.s [o.ts]).held || s.cur.poison.ac.getLsbD o.ac.toNat then s
        else
          let bs := o.rows.map (·.map (e.val p.bt))
          let r := partStep e o.ac o.ts p bs rows s.cur.id.toNat true s
          let t := r.s.aim o r.rid
          if again then t else t.countEvent 0x53 (4 * p.k)

/-- A member part, whatever the mode of the member's thread; one that has retired `EXIT` may leave its gang after it (R23, R195). -/
def State.memberStep (s : State) (o : MemberArgs) : State :=
  let t := (s.setSys { s.cur.sys with mode := .user }).memberPart o
  (t.setSys { t.cur.sys with mode := s.cur.sys.mode }).leaveLate

/-! The instructions. -/

def codeMx (f3 : BitVec 3) (o : OpMx) : Code := .word (std 24 o.c (bodyR o.d o.a o.b (o.m ++ f3 ++ o.ac)))
def infoMx (fs : Option (BitVec 3)) : VInfo := ⟨.mx, none, none, none, none, fs⟩

/-- `MZERO` (R273). -/
def vopMzero (o : OpMx) : VOp := ⟨o.d == 0 && o.a == 0 && o.b == 0, infoMx none, runMZero o⟩
/-- `MZERO` (R273). -/
def execMzero (o : OpMx) (s : State) : Out := pushVector (codeMx 0 o) 4 o.c (vopMzero o) s
/-- `XACC` (R274). -/
def vopXacc (o : OpMx) : VOp := ⟨decide (o.d < 8), infoMx (some (o.d.setWidth 3)), runXacc o⟩
/-- `XACC` (R274). -/
def execXacc (o : OpMx) (s : State) : Out := pushVector (codeMx 1 o) 4 o.c (vopXacc o) s
/-- `XACCT` (R274). -/
def vopXacct (o : OpMx) : VOp :=
  ⟨decide (o.d < 8) && decide (o.a < 8) && decide (o.b < 8), infoMx (some (o.d.setWidth 3)), runXacct o⟩
/-- `XACCT` (R274). -/
def execXacct (o : OpMx) (s : State) : Out := pushVector (codeMx 2 o) 4 o.c (vopXacct o) s
/-- `MEXT` (R277). -/
def vopMext (o : OpMx) : VOp :=
  ⟨decide (o.a < 8), ⟨.mx, some o.d, none, none, some o.b, some (o.a.setWidth 3)⟩, runMext o⟩
/-- `MEXT` (R277). -/
def execMext (o : OpMx) (s : State) : Out := pushVector (codeMx 3 o) 4 o.c (vopMext o) s
/-- `GXACCT` (R278). -/
def vopGxacct (o : OpMx) : VOp :=
  ⟨decide (o.d < 8) && decide (o.a < 8) && decide (o.b < 8), infoMx (some (o.d.setWidth 3)), runGxacct o⟩
/-- `GXACCT` (R278). -/
def execGxacct (o : OpMx) (s : State) : Out := pushVector (codeMx 4 o) 4 o.c (vopGxacct o) s
/-- `TSET` (R268). -/
def vopTset (o : OpMx) : VOp :=
  ⟨decide (o.d < 8) && o.ac == 0 && o.m == 15, ⟨.mx, none, none, some o.a, if o.b = 0 then none else some o.b, none⟩, runTset o⟩
/-- `TSET` (R268). -/
def execTset (o : OpMx) (s : State) : Out := pushVector (codeMx 5 o) 4 o.c (vopTset o) s

end Sys2Proof.Machine
end

