-- ==== Sys2Proof/Machine/Engines.lean ====
section
/-! DEFINITION. Tumbler and Hinge (R280-R300). -/

namespace Sys2Proof.Machine

/-! Reads of an engine. -/

/-- What the reads of an engine have met so far: faulting elements in order, a line that is held, a trap taken directly. -/
structure Reads where
  s : State
  bad : List BadEl
  held : Bool
  stop : Option (BitVec 8 × Word)

def Reads.clean (r : Reads) : Bool := r.bad.isEmpty && !r.held && r.stop.isNone

/-- One piece of at most 8 bytes inside an aligned doubleword, for element i (R282). -/
def Reads.piece (r : Reads) (i : Nat) (va : Word) (n : Nat) : List Byte × Reads :=
  let zero := List.replicate n (0 : Byte)
  if 2 ^ 52 ≤ va.toNat then (zero, { r with stop := r.stop.or (some (cRange, va)) })
  else
    match locate r.s va.toNat n .read with
    | .ok l s1 => let v := locRead (l.engineTouch false s1) l n; (v.1, { r with s := v.2.noteRead va.toNat n })
    | .trap c t s1 => (zero, { r with s := s1, stop := r.stop.or (some (c, t)) })
    | .svc c a p s1 => (zero, { r with s := s1, bad := r.bad ++ [⟨i, a, c, p⟩] })
    | .hold s1 | .stall s1 => (zero, { r with s := s1, held := true })

/-- The reads of one operand after others, by themselves, and joined to what the others met. -/
def Reads.alone (r : Reads) : Reads := ⟨r.s, [], false, none⟩
def Reads.join (r t : Reads) : Reads := ⟨t.s, r.bad ++ t.bad, r.held || t.held, r.stop.or t.stop⟩

/-- n bytes from va on, by aligned doublewords; `fuel` bounds the pieces. -/
def Reads.bytes : Nat → Reads → Nat → Word → Nat → List Byte × Reads
  | 0, r, _, _, _ => ([], r)
  | fuel + 1, r, i, va, n =>
    if n = 0 then ([], r)
    else
      let k := min n (8 - va.toNat % 8)
      let p := r.piece i va k
      let q := Reads.bytes fuel p.2 i (va + BitVec.ofNat 64 k) (n - k)
      (p.1 ++ q.1, q.2)

/-- A record of an engine for an entry that has had no element effect; `m15` names exactly the active elements (R291, R295). -/
def engineWait (e : Entry) (source : Nat) (bad : List BadEl) (on : List Nat) (s : State) : EntryOut :=
  let ps := badPages .read bad []
  let s1 := s.putMask 15 (bitsOf on)
  let first := (bad.map (·.i)).foldl min (2 ^ 32 - 1)
  let r := s1.newRec source (e.addr.setWidth 64) (2 ^ 32 - 1) (ps.take 32) first (decide (32 < ps.length)) 0
    (plineOf bad (ps.take 32)) 0
  .wait r.2 r.1 0

/-- What stops an entry whose reads were not clean: `s` is the state before them. -/
def Reads.finish (r : Reads) (e : Entry) (source : Nat) (on : List Nat) (s : State) : EntryOut :=
  match r.stop with
  | some (c, t) => .trap r.s c t
  | none => if r.held then .hold s else engineWait e source r.bad on r.s

/-- A reissue of an entry that has had no element effect runs as at first, from the captured `vstart` on and with `m15` as its mask (R290, R291,
R294, R296). -/
def Entry.fresh (e : Entry) : Entry := { e with reissue := false, vstart := e.first }
def freshMask (e : Entry) (s : State) (mk : BitVec 4) : VRes (Option Nat) :=
  if e.reissue then .ok (some (s.mask 15)) else govMask s mk

/-! Maps. -/

/-- The binding; an unbound Tumbler raises the automaton fault (R284). -/
def bound (s : State) : VRes Binding :=
  match s.core.tumbler with
  | some b => .ok b
  | none => .error (cAutomaton, 0)

/-- A map as its bytes, read under R285. -/
def cleanMap (states : Nat) (raw : Nat → Nat) : List Nat :=
  (List.range states).map fun q => if q = 0 then 0 else if states ≤ raw q then 0 else raw q

/-- R285. -/
def mapConstant (m : List Nat) : Bool :=
  match m.drop 1 with
  | [] => true
  | b :: bs => bs.all (· == b)

/-- `rd(m, q)` (R288). -/
def rd (m : List Nat) (q : Nat) : Nat := m.getD q 0

/-- Maps that a span holds (R285). -/
def Entry.mapCap (e : Entry) (states : Nat) : Nat := e.spanLen 8 * e.rlen / states

/-- A map vector of at least n maps, as a function of the map number. -/
def readMaps (e : Entry) (s : State) (b : Binding) (r : BitVec 5) (n : Nat) : VRes (Nat → List Nat) := do
  need (s.vtag r == 6) (s.vtag r)
  let bits ← readSpan s e r 8
  needSpan (decide (n ≤ e.mapCap b.states))
  .ok fun i => cleanMap b.states fun q => elem 8 bits (i * b.states + q)

/-- A span of maps written, and the flags of R287 and R288: `maps` from map 0 on, the rest by the tail policy. -/
def putMaps (e : Entry) (s : State) (d f : BitVec 5) (b : Binding) (maps : List (List Nat)) : State :=
  let w := 8 * b.states * maps.length
  let old := s.regBits e.rlen d.toNat (e.spanLen 8)
  let bits := pack 8 maps.flatten ||| (if e.tp then 0 else (old >>> w) <<< w)
  let s1 := s.putSpanTo e e.vl (fun i => e.tp || decide (8 * i < w)) d 8 6 bits
  let oldm := s.mask (mnum f)
  let flags := bitsOf ((List.range maps.length).filter fun i => mapConstant (maps.getD i []))
  (s1.putMask (mnum f) (flags ||| (if e.tp then 0 else (oldm >>> maps.length) <<< maps.length))).keepBadMask s (mnum f)
    (e.tp || decide (8 * e.rlen ≤ maps.length))

/-- Symbol operands (R286). -/
def readSymbols (e : Entry) (s : State) (r : BitVec 5) : VRes (Nat → Nat) := do
  let t := s.vtag r
  need (tagOk t && (tagKind t).isIX && (tagWidth t == 32 || tagWidth t == 64) && tagWidth t == e.ew) t
  let bits ← readSpan s e r e.ew
  .ok (elem e.ew bits)

/-- State operands (R289). -/
def readStates (e : Entry) (s : State) (r : BitVec 5) : VRes (Tag × (Nat → Nat)) := do
  let t := s.vtag r
  need (tagOk t && (tagKind t).isIX && tagWidth t == e.ew) t
  let bits ← readSpan s e r e.ew
  .ok (t, elem e.ew bits)

/-- The class of a symbol, none for the dead map (R286), and none where the read of the class faults: then no map is asked for. -/
def symbolClass (b : Binding) (r : Reads) (i y : Nat) : Option Nat × Reads :=
  if b.nsym ≤ y then (none, r)
  else
    let x := r.alone.bytes 2 i (b.classtab + BitVec.ofNat 64 (2 * y)) 2
    let c := Memory.leVal x.1
    (if !x.2.clean || decide (b.nclass ≤ c) then none else some c, r.join x.2)

/-- The map of a symbol (R286). -/
def symbolMap (b : Binding) (r : Reads) (i y : Nat) : List Nat × Reads :=
  match symbolClass b r i y with
  | (none, r1) => (List.replicate b.states 0, r1)
  | (some c, r1) =>
    let x := r1.bytes (b.states + 1) i (b.maptab + BitVec.ofNat 64 (c * b.states)) b.states
    (cleanMap b.states fun q => (x.1.getD q 0).toNat, x.2)

/-- Whether a symbol sends a state to a live one, with one class entry and one map byte read (R290). -/
def symbolLegal (b : Binding) (r : Reads) (i y q : Nat) : Bool × Reads :=
  match symbolClass b r i y with
  | (none, r1) => (false, r1)
  | (some c, r1) =>
    if q = 0 ∨ b.states ≤ q then (false, r1)
    else
      let x := r1.bytes 1 i (b.maptab + BitVec.ofNat 64 (c * b.states + q)) 1
      let v := Memory.leVal x.1
      (v != 0 && decide (v < b.states), x.2)

/-! The Tumbler's instructions. -/

/-- The ranges of R283. -/
def Binding.legal (b : Binding) (bs : List Byte) : Bool :=
  decide (1 ≤ b.nsym ∧ b.nsym ≤ 2 ^ 20 ∧ 1 ≤ b.nclass ∧ b.nclass ≤ 4096 ∧ 2 ≤ b.states ∧ b.states ≤ 256)
    && b.classtab.toNat % 2 == 0 && (bs.drop 0x18).all (· == 0)

/-- `TMBIND` (R284): the whole effect whatever `vstart` holds (R12). -/
def runTmBind (_o : OpVa) : VRun := fun e _ s0 =>
  let s := s0.claim .tumbler
  if e.xa.toNat % 64 ≠ 0 then .trap s cAutomaton e.xa
  else if 2 ^ 52 ≤ e.xa.toNat then .trap s cRange e.xa
  else loadPiece e s 5 e.xa.toNat 64 fun bs s1 =>
    let b := Binding.ofBytes bs
    if b.legal bs then .done (s1.setCore { s1.core with tumbler := some b }) 0 else .trap s1 cAutomaton e.xa

/-- `TMMAP` (R287). -/
def runTmMap (o : OpVa) : VRun := fun e _ s0 =>
  let s := s0.claim .tumbler
  elementwise e s (do
    let b ← bound s
    let e := e.whole
    let sym ← readSymbols e s o.a
    needSpan (e.spanOk o.d 8)
    e.apart o.d 8 o.a e.ew
    needSpan (decide (e.vl ≤ e.mapCap b.states))
    let gov ← freshMask e s o.m
    let e := e.fresh
    let act := e.active s gov
    let ident := cleanMap b.states id
    let r := (List.range e.vl).foldl (fun (a : List (List Nat) × Reads) i =>
      if act i then let m := symbolMap b a.2 i (sym i); (m.1 :: a.1, m.2) else (ident :: a.1, a.2)) ([], ⟨s, [], false, none⟩)
    if r.2.clean then .ok (.done (putMaps e r.2.s o.d o.b b r.1.reverse) 0) else .ok (r.2.finish e 5 (e.actives act) s))

/-- Adjacent maps composed, the first applied first (R288). -/
def composePairs (states : Nat) (m : Nat → List Nat) (n : Nat) : List (List Nat) :=
  (List.range ((n + 1) / 2)).map fun i =>
    if 2 * i + 1 < n then (List.range states).map fun q => rd (m (2 * i + 1)) (rd (m (2 * i)) q) else m (2 * i)

/-- `TMCOMP` (R288). -/
def runTmComp (o : OpVa) : VRun := fun e _ s0 =>
  let s := s0.claim .tumbler
  elementwise e s (do
    let b ← bound s
    let e := e.whole
    let m ← readMaps e s b o.a e.vl
    needSpan (e.spanOk o.d 8)
    e.noOverlap o.d 8 o.a 8
    .ok (.done (putMaps e s o.d o.b b (composePairs b.states m e.vl)) 0))

/-- `TMRUN` (R289). -/
def runTmRun (o : OpVa) : VRun := fun e hi s0 =>
  let s := s0.claim .tumbler
  elementwise e s (do
    let b ← bound s
    let m ← readMaps e s b o.a e.vl
    let (t, q) ← readStates e s o.b
    needSpan (e.spanOk o.d e.ew)
    e.apart o.d e.ew o.a 8
    e.noOverlap o.d e.ew o.b e.ew
    let gov ← govMask s o.m
    .ok (emitVec e hi s gov o.d e.ew t fun i => (rd (m i) (if b.states ≤ q i then 0 else q i), 0)))

/-- `TMMASK` (R290). It is not stopped between element groups (R282). -/
def runTmMask (o : OpVa) : VRun := fun e _ s0 =>
  let s := s0.claim .tumbler
  elementwise e s (do
    let b ← bound s
    let sym ← readSymbols e s o.a
    let (_, q) ← readStates e s o.b
    let gov ← freshMask e s o.m
    let e := e.fresh
    let on := e.actives (e.active s gov)
    let r := on.foldl (fun (a : List Nat × Reads) i =>
      let x := symbolLegal b a.2 i (sym i) (q i)
      (if x.1 then i :: a.1 else a.1, x.2)) ([], ⟨s, [], false, none⟩)
    if r.2.clean then .ok (emitMask e e.vl r.2.s gov o.d fun i => (r.1.contains i, 0)) else .ok (r.2.finish e 5 on s))

/-! Index streams (R292, R293). -/

/-- What `next` finds. -/
inductive Nxt where
  | done
  | coord (c : Nat)
  /-- Not strictly increasing, or malformed. -/
  | bad (malformed : Bool)
  /-- A translation fault or poison: CODE, address and poisoned line. -/
  | svc (code va pline : Nat)
  /-- A fault raised directly. -/
  | trap (code : BitVec 8) (tval : Word)
  | held
  deriving DecidableEq, Repr

/-- `next` and what it leaves: what was found, the stream before the coordinate, the stream after `take`, the state. -/
structure Step1 where
  out : Nxt
  h : StreamHalf
  taken : StreamHalf
  s : State

/-- The answer of reads that were not clean. -/
def Reads.nxt (r : Reads) : Nxt :=
  match r.stop, r.bad with
  | some (c, t), _ => .trap c t
  | none, b :: _ => if r.held then .held else .svc b.code b.va b.pline
  | none, [] => .held

/-- A varint: its value and its length, none when malformed; at most `fuel` more bytes (R293). -/
def varint : Nat → Reads → Word → Nat → Nat → Nat → Option (Nat × Nat) × Reads
  | 0, r, _, _, _, _ => (none, r)
  | fuel + 1, r, a, shift, acc, len =>
    let x := r.piece 0 a 1
    if !x.2.clean then (none, x.2)
    else
      let b := Memory.leVal x.1
      let acc' := acc + (b % 128) <<< shift
      if b < 128 then (if acc' < 2 ^ 32 then some (acc', len + 1) else none, x.2)
      else varint fuel x.2 (a + 1) (shift + 7) acc' (len + 1)

/-- The lowest set bit from bit b on of a block. -/
def blockBit (bs : List Byte) (b : Nat) : Option Nat :=
  (List.range 512).find? fun k => decide (b ≤ k) && (bs.getD (k / 8) 0).getLsbD (k % 8)

/-- The bitmap's next coordinate, and the stream before it (R293). -/
def bitmapNext : Nat → Reads → StreamHalf → Option (Nat × Nat) × StreamHalf × Reads
  | 0, r, h => (none, h, r)
  | fuel + 1, r, h =>
    if h.rem = 0 then (none, h, r)
    else
      let x := r.bytes 9 0 h.addr 64
      if !x.2.clean then (none, h, x.2)
      else
        match blockBit x.1 h.bit with
        | some b => (some ((h.cbase + b) % 2 ^ 32, b), { h with bit := b }, x.2)
        | none =>
          bitmapNext fuel x.2 { h with addr := h.addr + 64, cbase := (h.cbase + 512) % 2 ^ 32, bit := 0, rem := h.rem - 1 }

/-- The order and limit checks of `next` on a coordinate. -/
def StreamHalf.check (h : StreamHalf) (limit : Bool) (c : Nat) (taken : StreamHalf) (s : State) : Step1 :=
  if h.enc < 2 ∧ 0 < h.pos ∧ c ≤ h.last then ⟨.bad false, h, h, s⟩
  else if limit ∧ h.limit ≠ 0 ∧ h.limit ≤ c then ⟨.done, { h with state := 1 }, { h with state := 1 }, s⟩
  else ⟨.coord c, h, { taken with last := c, pos := (h.pos + 1) % 2 ^ 32 }, s⟩

/-- `next` (R293). A stream in STATE 2 yields BAD at once (R295). `limit` is false where LIMIT is ignored (R296). -/
def StreamHalf.next (h : StreamHalf) (limit : Bool) (s : State) : Step1 :=
  if limit ∧ h.state = 2 then ⟨.bad false, h, h, s⟩
  else if (limit ∧ h.state = 1) ∨ h.rem = 0 then ⟨.done, h, h, s⟩
  else
    let r0 : Reads := ⟨s, [], false, none⟩
    if h.enc = 0 then
      if 2 ^ 52 ≤ h.addr.toNat then ⟨.trap cRange h.addr, h, h, s⟩
      else if h.addr.toNat % 4 ≠ 0 then ⟨.trap cAlign h.addr, h, h, s⟩
      else
        let x := r0.piece 0 h.addr 4
        if x.2.clean then h.check limit (Memory.leVal x.1) { h with addr := h.addr + 4, rem := h.rem - 1 } x.2.s
        else ⟨x.2.nxt, h, h, x.2.s⟩
    else if h.enc = 1 then
      match varint 5 r0 h.addr 0 0 0 with
      | (some (v, len), r) =>
        let c := if h.pos = 0 then v else h.last + v
        if 2 ^ 32 ≤ c then ⟨.bad true, h, h, r.s⟩
        else h.check limit c { h with addr := h.addr + BitVec.ofNat 64 len, rem := h.rem - 1 } r.s
      | (none, r) => if r.clean then ⟨.bad true, h, h, r.s⟩ else ⟨r.nxt, h, h, r.s⟩
    else
      match bitmapNext (h.rem + 1) r0 h with
      | (some (c, b), h1, r) => h1.check limit c { h1 with bit := b + 1 } r.s
      | (none, h1, r) => if r.clean then ⟨.done, h1, h1, r.s⟩ else ⟨r.nxt, h1, h1, r.s⟩

/-! Intersection and merge (R294, R295). -/

/-- Why an intersection or a merge stopped: the streams ran out or every element has its pair, or `next` met something on
stream B (`true`) or A. -/
inductive Halt where
  | over
  | met (x : Nxt) (b : Bool)
  deriving DecidableEq, Repr

/-- The run so far: the two halves, the pairs (coordinate, position in A, position in B) latest first, the state. -/
structure Pairs where
  a : StreamHalf
  b : StreamHalf
  out : List (Nat × Nat × Nat)
  s : State

/-- What `next` met that ends the instruction. -/
def Nxt.trouble : Nxt → Bool
  | .done | .coord _ => false
  | _ => true

/-- The rounds of R294 until n pairs are there; `merge` for `HGMRG`. -/
def hingeRun (merge : Bool) : Nat → Nat → Pairs → Pairs × Halt
  | 0, _, p => (p, .over)
  | fuel + 1, n, p =>
    if n ≤ p.out.length then (p, .over)
    else
      let x := p.a.next true p.s
      let p1 := { p with a := x.h, s := x.s }
      match x.out with
      | .svc _ _ _ | .trap _ _ | .held => (p1, .met x.out false)
      | _ =>
        let y := p.b.next true p1.s
        let p2 := { p1 with b := y.h, s := y.s }
        match x.out, y.out with
        | .coord a, .coord b =>
          if a < b then
            hingeRun merge fuel n { p2 with
              a := x.taken, out := if merge then (a, x.h.pos, 0xFFFFFFFF) :: p2.out else p2.out }
          else if b < a then
            hingeRun merge fuel n { p2 with
              b := y.taken, out := if merge then (b, 0xFFFFFFFF, y.h.pos) :: p2.out else p2.out }
          else hingeRun merge fuel n { p2 with a := x.taken, b := y.taken, out := (a, x.h.pos, y.h.pos) :: p2.out }
        | .done, .done => (p2, .over)
        | .coord a, .done =>
          if merge then hingeRun merge fuel n { p2 with a := x.taken, out := (a, x.h.pos, 0xFFFFFFFF) :: p2.out } else (p2, .over)
        | .done, .coord b =>
          if merge then hingeRun merge fuel n { p2 with b := y.taken, out := (b, 0xFFFFFFFF, y.h.pos) :: p2.out } else (p2, .over)
        | xo, yo => if xo.trouble then (p2, .met xo false) else (p2, .met yo true)

/-- Coordinates that a stream can still give. -/
def StreamHalf.bound (h : StreamHalf) : Nat := if h.enc < 2 then h.rem else 512 * h.rem

/-- `tval` of the unsorted-index fault (R295). -/
def unsortedTval (h : StreamHalf) (malformed b : Bool) : Word :=
  BitVec.ofNat 64 (h.pos + (if malformed then 2 ^ 62 else 0) + (if b then 2 ^ 63 else 0))

def State.setHinge (s : State) (a b : StreamHalf) : State := s.setCore { s.core with hinge := (a, b) }

/-- Three disjoint destination spans at EW = 32 (R294, R296). -/
def hingeSpans (e : Entry) (o : OpVa) : VRes Unit := do
  needSpan (e.ew == 32)
  needSpan (e.spanOk o.d 32 && e.spanOk o.a 32 && e.spanOk o.b 32)
  e.apart o.d 32 o.a 32
  e.apart o.d 32 o.b 32
  e.apart o.a 32 o.b 32

/-- Three results by active element. -/
def threeOf (o : OpVa) (on : List Nat) (out : List (Nat × Nat × Nat)) : List (BitVec 5 × Tag × (Nat → Nat)) :=
  let at' (i : Nat) : Nat × Nat × Nat := ((on.zip out).find? (·.1 == i)).map (·.2) |>.getD (0, 0, 0)
  [(o.d, 0x015, fun i => (at' i).1), (o.a, 0x015, fun i => (at' i).2.1), (o.b, 0x015, fun i => (at' i).2.2)]

/-- The results of `HGINT` and `HGMRG`, with the trim of the elements that have none (R294). -/
def emitPairs (e : Entry) (s : State) (o : OpVa) (act : Nat → Bool) (on : List Nat) (out : List (Nat × Nat × Nat)) : State :=
  emitTrim e s o.m act (on.drop out.length) (threeOf o on out)

/-- `HGINT` and `HGMRG` (R294, R295). -/
def runHinge (merge : Bool) (o : OpVa) : VRun := fun e _ s0 =>
  let s := s0.claim .hinge
  elementwise e s (do
    let e := e.whole
    hingeSpans e o
    let gov ← freshMask e s o.m
    let e := e.fresh
    let act := e.active s gov
    let on := e.actives act
    let a := s.core.hinge.1
    let b := s.core.hinge.2
    let r := hingeRun merge (a.bound + b.bound + 1) on.length ⟨a, b, [], s⟩
    let p := r.1
    let s1 := p.s.setHinge p.a p.b
    let emit := EntryOut.done (emitPairs e s1 o act on p.out.reverse) 0
    match r.2 with
    | .over => .ok emit
    | .met x bb =>
      if x == .held then .ok (.hold s)
      else if !p.out.isEmpty then .ok emit
      else
        match x with
        | .bad m =>
          let h := if bb then p.b else p.a
          let s2 := if bb then s1.setHinge p.a { p.b with state := 2 } else s1.setHinge { p.a with state := 2 } p.b
          .ok (.trap s2 cUnsorted (unsortedTval h m bb))
        | .trap c t => .ok (.trap s1 c t)
        | .svc c va pl => .ok (engineWait e 6 [⟨on.headD 0, va, c, pl⟩] on s1)
        | _ => .ok emit)

/-- m coordinates of a stream in turn, without LIMIT: the streams before each, latest first, and what stopped it (R296). -/
def decodeRun : Nat → StreamHalf → State → List (Nat × StreamHalf) → List (Nat × StreamHalf) × Option Nxt × StreamHalf × State
  | 0, h, s, l => (l, none, h, s)
  | m + 1, h, s, l =>
    let x := h.next false s
    match x.out with
    | .coord c => decodeRun m x.taken x.s ((c, x.taken) :: l)
    | o => (l, some o, x.h, x.s)

/-- `HGSPLIT` (R296). -/
def runHgSplit (o : OpVa) : VRun := fun e _ s0 =>
  let s := s0.claim .hinge
  elementwise e s (do
    let e := e.whole
    hingeSpans e o
    let a := s.core.hinge.1
    if 2 ≤ a.enc then .error (cCursor, BitVec.ofNat 64 a.enc)
    else
      let gov ← freshMask e s o.m
      let e := e.fresh
      let act := e.active s gov
      let on := e.actives act
      let rem := if a.state = 0 then a.rem else 0
      let n := on.length
      let r := decodeRun (n * rem / (n + 1)) a s []
      match r.2.1 with
      | some .held => .ok (.hold s)
      | some (.bad m) => .ok (.trap r.2.2.2 cUnsorted (unsortedTval r.2.2.1 m false))
      | some (.trap c t) => .ok (.trap r.2.2.2 c t)
      | some (.svc c va pl) => .ok (engineWait e 6 [⟨on.headD 0, va, c, pl⟩] on r.2.2.2)
      | _ =>
        let got := r.1.reverse
        let one (k : Nat) : Nat × Nat × Nat :=
          let d := (k + 1) * rem / (n + 1)
          let h := match got[d - 1]? with
            | some g => if d = 0 then (a.last, a) else g
            | none => (a.last, a)
          (h.1, (a.pos + d) % 2 ^ 32, (h.2.addr - a.addr).toNat % 2 ^ 32)
        .ok (.done (emitDests e r.2.2.2 act (threeOf o on ((List.range n).map one))) 0))

/-! The cursor in memory. -/

/-- `HGSAVE` (R297). -/
def runHgSave (_o : OpVa) : VRun := fun e _ s0 =>
  let s := s0.claim .hinge
  match alignedAt e.xa 64 with
  | .error (c, t) => .trap s c t
  | .ok _ =>
    match locate s e.xa.toNat 64 .write with
    | .ok l s1 => .done (locWrite (l.engineTouch true s1) l (s.core.hinge.1.bytes ++ s.core.hinge.2.bytes)) 0
    | .trap c t s1 => .trap s1 c t
    | .svc c v p s1 => oneWait e 6 .write c v p s1
    | .hold s1 | .stall s1 => .hold s1

/-- The checks of `HGREST` on a half (R297). -/
def StreamHalf.legal (h : StreamHalf) : Bool :=
  decide (h.enc ≤ 2 ∧ h.state ≤ 2) &&
    (if h.enc = 2 then decide (h.bit ≤ 511 ∧ h.cbase % 512 = 0) else h.bit == 0 && h.cbase == 0)

/-- `HGREST` (R297). -/
def runHgRest (_o : OpVa) : VRun := fun e _ s0 =>
  let s := s0.claim .hinge
  match alignedAt e.xa 64 with
  | .error (c, t) => .trap s c t
  | .ok _ =>
    loadPiece e s 6 e.xa.toNat 64 fun bs s1 =>
      let a := StreamHalf.ofBytes bs 0
      let b := StreamHalf.ofBytes bs 32
      if a.legal && b.legal then .done (s1.setHinge a b) 0 else .trap s1 cCursor e.xa

/-- A tile record: its stream half and its estimate, none where HGBIND's checks fail (R298, R299). -/
def tileRecord (bs : List Byte) : Option (StreamHalf × Nat) :=
  let h := StreamHalf.ofBytes bs 0
  if h.legal && (bs.drop 0x24).all (· == 0) then some (h, fieldAt bs 0x20 4) else none

/-- The choice of R299. -/
def tileChoice (na nb tlo thi : Nat) : Nat :=
  if na = 0 ∨ nb = 0 then 0 else if tlo ≤ min na nb ∧ max na nb ≤ thi then 1 else 2

/-- `HGBIND` (R299). -/
def runHgBind (o : OpVa) : VRun := fun e _ s0 =>
  let s := s0.claim .hinge
  if e.xa.toNat % 32 ≠ 0 then .trap s cCursor e.xa
  else if 2 ^ 52 ≤ e.xa.toNat then .trap s cRange e.xa
  else loadPiece e s 6 e.xa.toNat 32 fun hd s1 =>
    let tiles := BitVec.ofNat 64 (fieldAt hd 0 8)
    let ntiles := fieldAt hd 8 4
    let ta := (e.xb.extractLsb' 0 32).toNat
    let tb := (e.xb.extractLsb' 32 32).toNat
    if tiles.toNat % 64 ≠ 0 || (hd.drop 0x14).any (· != 0) || decide (ntiles ≤ ta ∨ ntiles ≤ tb) then .trap s1 cCursor e.xa
    else
      let aa := tiles + BitVec.ofNat 64 (64 * ta)
      let ab := tiles + BitVec.ofNat 64 (64 * tb)
      if 2 ^ 52 ≤ aa.toNat then .trap s1 cRange aa
      else if 2 ^ 52 ≤ ab.toNat then .trap s1 cRange ab
      else loadPiece e s1 6 aa.toNat 64 fun ra s2 =>
        loadPiece e s2 6 ab.toNat 64 fun rb s3 =>
          match tileRecord ra, tileRecord rb with
          | some (a, na), some (b, nb) =>
            .done ((s3.setHinge a b).putX o.d (BitVec.ofNat 64 (tileChoice na nb (fieldAt hd 0xC 4) (fieldAt hd 0x10 4)))) 0
          | _, _ => .trap s3 cCursor e.xa

/-- The status of the cursor (R300). -/
def hingeStatus (a b : StreamHalf) : Word :=
  (if a.state = 1 ∨ a.rem = 0 then 1#64 else 0) ||| (if b.state = 1 ∨ b.rem = 0 then 2#64 else 0)
    ||| (if a.state = 2 then 4#64 else 0) ||| (if b.state = 2 then 8#64 else 0)

/-- `HGDONE` (R300). -/
def runHgDone (o : OpVa) : VRun := fun _ _ s0 =>
  let s := s0.claim .hinge
  .done (s.putX o.d (hingeStatus s.core.hinge.1 s.core.hinge.2)) 0

/-! The instructions. -/

/-- `TMBIND` (R284). -/
def vopTmbind (o : OpVa) : VOp := ⟨o.d == 0 && o.b == 0 && o.m == 15, ⟨.xl, none, none, some o.a, none, none⟩, runTmBind o⟩
/-- `TMBIND` (R284). -/
def execTmbind (o : OpVa) (s : State) : Out := pushVector (codeVa 27 0 o) 4 o.c (vopTmbind o) s
/-- `TMMAP` (R287). -/
def vopTmmap (o : OpVa) : VOp := ⟨okMaskB o, ⟨.xl, some o.d, none, none, none, none⟩, runTmMap o⟩
/-- `TMMAP` (R287). -/
def execTmmap (o : OpVa) (s : State) : Out := pushVector (codeVa 27 1 o) 4 o.c (vopTmmap o) s
/-- `TMCOMP` (R288). -/
def vopTmcomp (o : OpVa) : VOp := ⟨okMaskB o && o.m == 15, ⟨.xl, some o.d, none, none, none, none⟩, runTmComp o⟩
/-- `TMCOMP` (R288). -/
def execTmcomp (o : OpVa) (s : State) : Out := pushVector (codeVa 27 2 o) 4 o.c (vopTmcomp o) s
/-- `TMRUN` (R289). -/
def vopTmrun (o : OpVa) : VOp := ⟨true, ⟨.xl, some o.d, none, none, none, none⟩, runTmRun o⟩
/-- `TMRUN` (R289). -/
def execTmrun (o : OpVa) (s : State) : Out := pushVector (codeVa 27 3 o) 4 o.c (vopTmrun o) s
/-- `TMMASK` (R290). -/
def vopTmmask (o : OpVa) : VOp := ⟨okMaskD o, ⟨.xl, none, none, none, none, none⟩, runTmMask o⟩
/-- `TMMASK` (R290). -/
def execTmmask (o : OpVa) (s : State) : Out := pushVector (codeVa 27 4 o) 4 o.c (vopTmmask o) s
/-- `HGBIND` (R299). -/
def vopHgbind (o : OpVa) : VOp := ⟨o.m == 15, ⟨.xl, none, some o.d, some o.a, some o.b, none⟩, runHgBind o⟩
/-- `HGBIND` (R299). -/
def execHgbind (o : OpVa) (s : State) : Out := pushVector (codeVa 27 5 o) 4 o.c (vopHgbind o) s
/-- `HGINT` (R294). -/
def vopHgint (o : OpVa) : VOp := ⟨o.m != 15, ⟨.xl, some o.d, none, none, none, none⟩, runHinge false o⟩
/-- `HGINT` (R294). -/
def execHgint (o : OpVa) (s : State) : Out := pushVector (codeVa 27 6 o) 4 o.c (vopHgint o) s
/-- `HGMRG` (R294). -/
def vopHgmrg (o : OpVa) : VOp := ⟨o.m != 15, ⟨.xl, some o.d, none, none, none, none⟩, runHinge true o⟩
/-- `HGMRG` (R294). -/
def execHgmrg (o : OpVa) (s : State) : Out := pushVector (codeVa 27 7 o) 4 o.c (vopHgmrg o) s
/-- `HGSAVE` (R297). -/
def vopHgsave (o : OpVa) : VOp := ⟨o.d == 0 && o.b == 0 && o.m == 15, ⟨.xl, none, none, some o.a, none, none⟩, runHgSave o⟩
/-- `HGSAVE` (R297). -/
def execHgsave (o : OpVa) (s : State) : Out := pushVector (codeVa 27 8 o) 4 o.c (vopHgsave o) s
/-- `HGREST` (R297). -/
def vopHgrest (o : OpVa) : VOp := ⟨o.d == 0 && o.b == 0 && o.m == 15, ⟨.xl, none, none, some o.a, none, none⟩, runHgRest o⟩
/-- `HGREST` (R297). -/
def execHgrest (o : OpVa) (s : State) : Out := pushVector (codeVa 27 9 o) 4 o.c (vopHgrest o) s
/-- `HGSPLIT` (R296). -/
def vopHgsplit (o : OpVa) : VOp := ⟨true, ⟨.xl, some o.d, none, none, none, none⟩, runHgSplit o⟩
/-- `HGSPLIT` (R296). -/
def execHgsplit (o : OpVa) (s : State) : Out := pushVector (codeVa 27 10 o) 4 o.c (vopHgsplit o) s
/-- `HGDONE` (R300). -/
def vopHgdone (o : OpVa) : VOp := ⟨o.a == 0 && o.b == 0 && o.m == 15, ⟨.xl, none, some o.d, none, none, none⟩, runHgDone o⟩
/-- `HGDONE` (R300). -/
def execHgdone (o : OpVa) (s : State) : Out := pushVector (codeVa 27 11 o) 4 o.c (vopHgdone o) s

end Sys2Proof.Machine
end

