-- ==== Sys2Proof/Machine/Queue.lean ====
section
/-! DEFINITION. The entries of the VIQ as the lanes run them (R17, R174, R308, R315): the vector operation that an entry's words name, in the order of
the function codes of R34, which entries can run, and a run of one. Written beside the decoder because an entry that a RESTORE loads holds words (R329). -/

namespace Sys2Proof.Machine

/-- VV, f5 (R34). -/
def vopsVv : List (OpVa → VOp) :=
  [vopVaddVv, vopVsubVv, vopVrsubVv, vopVminVv, vopVmaxVv, vopVandVv, vopVorVv, vopVxorVv, vopVandnVv, vopVsllVv, vopVsrlVv,
   vopVsraVv, vopVsaddVv, vopVssubVv, vopVabsdVv, vopVavgVv, vopVmulhVv, vopVdivVv, vopVremVv, vopVceqVv, vopVcneVv,
   vopVcltVv, vopVcleVv, vopVcgtVv, vopVcgeVv, vopVmergeVv, vopVmvVv, vopVsgnjVv]

/-- VX, f5 (R34). -/
def vopsVx : List (OpVa → VOp) :=
  [vopVaddVx, vopVsubVx, vopVrsubVx, vopVminVx, vopVmaxVx, vopVandVx, vopVorVx, vopVxorVx, vopVandnVx, vopVsllVx, vopVsrlVx,
   vopVsraVx, vopVsaddVx, vopVssubVx, vopVabsdVx, vopVavgVx, vopVmulhVx, vopVdivVx, vopVremVx, vopVceqVx, vopVcneVx,
   vopVcltVx, vopVcleVx, vopVcgtVx, vopVcgeVx, vopVmergeVx, vopVmvVx, vopVsgnjVx]

/-- Wide VX (R37). -/
def vopsVxWide : List (OpVaW → VOp) :=
  [vopVaddVxWide, vopVsubVxWide, vopVrsubVxWide, vopVminVxWide, vopVmaxVxWide, vopVandVxWide, vopVorVxWide, vopVxorVxWide,
   vopVandnVxWide, vopVsllVxWide, vopVsrlVxWide, vopVsraVxWide, vopVsaddVxWide, vopVssubVxWide, vopVabsdVxWide, vopVavgVxWide,
   vopVmulhVxWide, vopVdivVxWide, vopVremVxWide, vopVceqVxWide, vopVcneVxWide, vopVcltVxWide, vopVcleVxWide, vopVcgtVxWide,
   vopVcgeVxWide, vopVmergeVxWide, vopVmvVxWide, vopVsgnjVxWide]

/-- VFV, f2 (R34). -/
def vopsVfv : List (OpVf → VOp) :=
  [vopVfmaVfv, vopVfmsVfv, vopVfnmaVfv, vopVmulVfv]

/-- VFX, f2 (R34). -/
def vopsVfx : List (OpVf → VOp) :=
  [vopVfmaVfx, vopVfmsVfx, vopVfnmaVfx, vopVmulVfx]

/-- VW, f2 (R34). -/
def vopsVw : List (OpVf → VOp) :=
  [vopVdot, vopVssmx]

/-- VU, f5 (R34). -/
def vopsVu : List (OpVu → VOp) :=
  [vopVcvt, vopVneg, vopVabs, vopVsqrt, vopVrcp, vopVrsqrt, vopVexp2, vopVlog2, vopVtanh, vopVsigm, vopVerf, vopVround,
   vopVpopc, vopVclz, vopVid, vopVclass]

/-- VLD, mode (R34). -/
def vopsVld : List (OpVm → VOp) :=
  [vopVld, vopVlds, vopVldx, vopVldff]

/-- Wide VLD (R37). -/
def vopsVldWide : List (OpVmW → VOp) :=
  [vopVldWide, vopVldsWide, vopVldxWide, vopVldffWide]

/-- VST, mode (R34). -/
def vopsVst : List (OpVm → VOp) :=
  [vopVst, vopVsts, vopVstx, vopVstu, vopVstsu, vopVstxu]

/-- Wide VST (R37). -/
def vopsVstWide : List (OpVmW → VOp) :=
  [vopVstWide, vopVstsWide, vopVstxWide, vopVstuWide, vopVstsuWide, vopVstxuWide]

/-- VAMO, mode (R34). -/
def vopsVamo : List (OpVm → VOp) :=
  [vopVamoadd, vopVamobinc, vopVamomin, vopVamomax, vopVamoswap]

/-- Wide VAMO (R37). -/
def vopsVamoWide : List (OpVmW → VOp) :=
  [vopVamoaddWide, vopVamobincWide, vopVamominWide, vopVamomaxWide, vopVamoswapWide]

/-- VMSK, f5 (R34). -/
def vopsVmsk : List (OpVa → VOp) :=
  [vopMand, vopMor, vopMxor, vopMandn, vopMnot, vopMcnt, vopMany, vopMfirst, vopMsbf, vopMsif, vopMwhile, vopMfromv, vopMtov,
   vopVconf, vopVpart, vopVpartb]

/-- VPRM, f5 (R34). -/
def vopsVprm : List (OpVa → VOp) :=
  [vopRsum, vopRsumu, vopRmax, vopRmin, vopRmaxi, vopRmini, vopRand, vopRor, vopRxor, vopVscan, vopVcmpr, vopVexpd, vopVslup,
   vopVsldn, vopVperm, vopVpush, vopVlast, vopVget, vopVput, vopVtag, vopVtagx, vopVtagr, vopTkinit, vopTkpush, vopTkpop,
   vopTksal]

/-- MTX, f3 (R34). -/
def vopsMtx : List (OpMx → VOp) :=
  [vopMzero, vopXacc, vopXacct, vopMext, vopGxacct, vopTset]

/-- KEYS, f5 (R34). -/
def vopsKeys : List (OpVa → VOp) :=
  [vopKsins, vopKslkp, vopKsacc, vopKsdrain, vopKsclr, vopKscnt, vopLtld, vopLtst, vopLtfill]

/-- ENG, f5 (R34). -/
def vopsEng : List (OpVa → VOp) :=
  [vopTmbind, vopTmmap, vopTmcomp, vopTmrun, vopTmmask, vopHgbind, vopHgint, vopHgmrg, vopHgsave, vopHgrest, vopHgsplit,
   vopHgdone]

/-- The operation with function code n, where its own encoding rules hold (R35). -/
def pickOp {α : Type} (l : List (α → VOp)) (n : Nat) (o : α) : Option VOp :=
  match l[n]? with
  | some f => if (f o).ok then some (f o) else none
  | none => none

/-- The operation of a 32-bit word of the vector domain. -/
def vopWord (c : Bool) (maj : Nat) (w : BitVec 24) : Option VOp :=
  let d := fieldD w
  let a := fieldA w
  let b := fieldB w
  let f := field9 w
  let va : OpVa := ⟨c, d, a, b, mkOf f⟩
  let vm : OpVm := ⟨c, d, a, b, midOf f, mkOf f⟩
  let vf : OpVf := ⟨c, d, a, b, lowOf f, mkOf f⟩
  match maj with
  | 13 => pickOp vopsVv (f5Of f).toNat va
  | 14 => pickOp vopsVx (f5Of f).toNat va
  | 15 => pickOp vopsVfv (midOf f).toNat vf
  | 16 => pickOp vopsVfx (midOf f).toNat vf
  | 17 => if midOf f = 0 then pickOp vopsVu b.toNat ⟨c, d, a, lowOf f, mkOf f⟩ else none
  | 18 => pickOp vopsVw (midOf f).toNat vf
  | 19 => pickOp vopsVld (lowOf f).toNat vm
  | 20 => pickOp vopsVst (lowOf f).toNat vm
  | 21 => pickOp vopsVamo (lowOf f).toNat vm
  | 22 => pickOp vopsVmsk (f5Of f).toNat va
  | 23 => pickOp vopsVprm (f5Of f).toNat va
  | 24 => pickOp vopsMtx (f.extractLsb' 2 3).toNat ⟨c, d, a, b, f.extractLsb' 0 2, mkOf f⟩
  | 26 => pickOp vopsKeys (f5Of f).toNat va
  | 27 => pickOp vopsEng (f5Of f).toNat va
  | _ => none

/-- The operation of a wide form of the vector domain (R37). -/
def vopWide (c : Bool) (maj : Nat) (w : BitVec 24) (v : BitVec 32) : Option VOp :=
  let f := field9 w
  let vm : OpVmW := ⟨c, fieldD w, fieldA w, fieldB w, midOf f, mkOf f, v⟩
  match maj with
  | 14 => pickOp vopsVxWide (f5Of f).toNat ⟨c, fieldD w, fieldA w, fieldB w, mkOf f, v⟩
  | 19 => pickOp vopsVldWide (lowOf f).toNat vm
  | 20 => pickOp vopsVstWide (lowOf f).toNat vm
  | 21 => pickOp vopsVamoWide (lowOf f).toNat vm
  | _ => none

/-- The operation that an entry's words name; none where they break an encoding rule (R329). -/
def vopOf : Code → Option VOp
  | .half _ => none
  | .word w =>
    if w.getLsbD 0 && !w.getLsbD 1 then vopWord (w.getLsbD 2) (w.extractLsb' 3 5).toNat (w.extractLsb' 8 24) else none
  | .wide w v =>
    if w.getLsbD 0 && w.getLsbD 1 then vopWide (w.getLsbD 2) (w.extractLsb' 3 5).toNat (w.extractLsb' 8 24) v else none

/-! Runs of an entry. -/

/-- The `x` registers `rs` as they stood in `old`: writes that a later one has overtaken. -/
def State.keepX (s old : State) (rs : List Nat) : State :=
  rs.foldl (fun s r => s.setCur { s.cur with
    x := vset (n := 5) s.cur.x (BitVec.ofNat 5 r) (vget (n := 5) old.cur.x (BitVec.ofNat 5 r))
    poison := { s.cur.poison with x := (s.cur.poison.x &&& ~~~(1#64 <<< r)) ||| (old.cur.poison.x &&& (1#64 <<< r)) } }) s

/-- An outcome with a change of its state. -/
def EntryOut.on (f : State → State) : EntryOut → EntryOut
  | .done s fl => .done (f s) fl
  | .part s fl => .part (f s) fl
  | .trap s c v => .trap (f s) c v
  | .doneTrap s fl c v => .doneTrap (f s) fl c v
  | .wait s r fl => .wait (f s) r fl
  | .watch s i k va => .watch (f s) i k va
  | .hold s => .hold (f s)

/-- A run of an entry, which stands at the head, up to element hi. An entry whose words are no instruction is illegal at its turn (R329). -/
def runHead (hi : Entry → State → Nat) (e : Entry) (s : State) : EntryOut × Nat :=
  match vopOf e.code with
  | none => (.trap s cIllegal e.code.tval, e.total)
  | some op => ((op.run e (hi e s) s).on (·.keepX s e.dead), hi e s)

/-- The whole of an entry. -/
def wholeEntry (e : Entry) (_ : State) : Nat := e.total

/-- The first element beyond the next element group: a group is 1 KiB of each operand (R174). -/
def groupEnd (e : Entry) (s : State) : Nat :=
  let n := 8192 / e.widest s
  min e.total ((e.vstart / n + 1) * n)

/-! Which entries can run (R17, R174). -/

/-- The thread's entries can run: it is in user mode, or it has retired `EXIT` (R23). -/
def State.lanesLive (s : State) : Bool := ((s.cur.thr.live && s.user) || s.cur.thr.ended == some false) && !s.cur.frozen

/-- An entry leaves the registers that it writes under the tags that they have, so that a later one can use its first elements before it has
finished (R74). -/
def Entry.keepsTags (o : Entry) (s : State) : Bool :=
  match (runHead wholeEntry o (s.setCur { s.cur with viq := [o] })).1 with
  | .done t _ => (o.foot s).vw.all fun p => (List.range p.len).all fun k =>
      t.vtag (BitVec.ofNat 5 (p.reg + k)) == s.vtag (BitVec.ofNat 5 (p.reg + k))
  | _ => false

/-- How far an entry may run beside the older entries of its thread, nearest first: a convoy starts when every entry of the one before it has
finished (R174); within a convoy an entry goes on where it is independent of the older one, and as far as that one has come where they meet
element on element. `same` says that the next older entry is of the same convoy. -/
def Entry.room (e : Entry) (s : State) : Bool → List Entry → Nat → Option Nat
  | _, [], b => some b
  | same, o :: os, b =>
    if o.fin then e.room s (same && !o.conv) os b
    else if !same then none
    else if o.independent e s then e.room s (same && !o.conv) os b
    else if o.vstart < e.total && o.chains e s && o.keepsTags s then e.room s (same && !o.conv) os (min b o.vstart)
    else none

/-- An access of the entry must follow one of a thread that had the context before (R20, R173). -/
def State.oldFirst (s : State) (j : Nat) (e : Entry) : Bool :=
  let old := s.core.drains.filter fun d => d.id == s.cur.id && decide (d.thr.born < s.cur.thr.born)
  e.reaches && old.any fun d =>
    match e.spots s (s.cur.viq.take j) with
    | some l => l.any fun p => (s.setCur d).queueBlocks p.writes p.addr p.len [] d.viq
    | none => d.viq.any fun o => !o.fin && o.reaches && (o.stores || e.stores)

/-- A `VAMO` begins as a release: older entries of its thread that access memory have completed (R17, R180, R187). -/
def State.releaseFirst (s : State) (j : Nat) (e : Entry) : Bool := e.major == 21 && (s.cur.viq.take j).any Entry.accesses

/-- Entry j of the current thread with the element up to which it may run now. -/
def State.laneReady (s : State) (j : Nat) : Option (Entry × Nat) :=
  match s.cur.viq[j]? with
  | none => none
  | some e =>
    if !s.lanesLive || e.fin || e.rid.isSome || s.tileHeld e || s.oldFirst j e || s.releaseFirst j e || (s.cur.thr.live && e.unit.any s.unitDrains)
        || s.cur.thr.due.any (fun d => d.entry == some (e.seq % 2 ^ 32)) then none
    else (e.room s (!e.conv) (s.cur.viq.take j).reverse e.total).map fun b => (e, b)

/-! A run of entry j. -/

/-- An entry that has finished before older ones (R17): of an element-wise one every element is done. -/
def Entry.finish (e : Entry) (s : State) (fl : Word) : Entry :=
  { e with flags := e.flags ||| fl, fin := true, vstart := if (e.foot s).elt then e.total else e.vstart }

/-- The entry at the head goes back to place j. -/
def State.putBack (s : State) (j : Nat) (f : Entry → Entry) : State :=
  match s.cur.viq with
  | [] => s
  | e :: r => s.setCur { s.cur with viq := r.take j ++ f e :: r.drop j }

/-- The end of an old entry whose thread can take no trap, because the next lot has its context: the lot fails as at a monitor fault (DESIGN
CHOICE: the spec does not say what becomes of such a trap; log entry 42). -/
def State.failOld (s : State) (addr : BitVec 52) : State :=
  let s1 := (s.newRec 7 (addr.setWidth 64) (2 ^ 32 - 1) [] 0 false 0 0 0).2
  (s1.endSlots true).setCur { s1.cur with viq := [], thr := { s1.cur.thr with ended := some true, due := [] } }

/-- A thread that has retired `EXIT` and still has its context is there again for the trap of an entry: pc stands at the `EXIT` (DESIGN
CHOICE, log entry 42). -/
def State.revive (s : State) : State := s.setThr { s.cur.thr with live := true, ended := none }

/-- What becomes of the state after a run of the head entry of a thread; `old` says that the next lot has its context. A trap freezes the
VIQ and waits where that must wait (R324). -/
def State.settleRun (old : Bool) (e : Entry) (out : EntryOut) (hi : Nat) (s : State) : Option State :=
  match out with
  | .trap _ _ _ | .doneTrap _ _ _ _ | .watch _ _ _ _ =>
    if old then some (State.failOld s e.addr)
    else if s.holdsFreeze then none
    else if s.cur.thr.live then some (State.settleHead e out hi id)
    else
      match out with
      | .trap t c v => some (State.settleHead e (.trap t.revive c v) hi id)
      | .doneTrap t fl c v => some (State.settleHead e (.doneTrap t.revive fl c v) hi id)
      | _ => none
  | _ => some (State.settleHead e out hi id)

/-- Units of a thread that has retired `EXIT` go back when its last entry that used them has completed (R23, R236). -/
def State.giveBack (s : State) (before : List Entry) : State :=
  s.setCore (UnitId.all.foldl (fun c u =>
    if (before.any fun e => e.unit == some u) && !(s.cur.viq.any fun e => e.unit == some u) && c.heldBy u == some s.cur.id
    then (c.startUnit u).setHeld none u else c) s.core)

/-- A thread that has retired `EXIT` after a run of its entries: with its queue empty it gives its banks back, and leaves its gang when it can (R23,
R195, R201). -/
def State.afterRun (before : List Entry) (s : State) : State :=
  if s.cur.thr.live || s.cur.thr.ended.isNone then s
  else
    let s1 := s.giveBack before
    if s1.cur.viq.isEmpty then s1.leaveLate.dropExt else s1

/-- A run of entry j of the thread in place that `ok` accepts. An entry behind the head may only go on or finish. -/
def State.laneRun (old : Bool) (hi : Entry → State → Nat) (ok : EntryOut → Bool) (s : State) (j : Nat) : Option State :=
  match s.laneReady j with
  | none => none
  | some (e, b) =>
    if b < hi e s then none
    else
      let s0 := if e.conv && e.vstart == e.first && !old then s.moveQuads else s
      let s1 := s0.setCur { s0.cur with viq := e :: (s0.cur.viq.eraseIdx j) }
      let r := runHead hi e s1
      if !ok r.1 then none
      else if j = 0 then (State.settleRun old e r.1 r.2 s).map (State.afterRun s.cur.viq)
      else
        match r.1 with
        | .done t fl => some ((t.putBack j fun e => e.finish s fl).afterRun s.cur.viq)
        | .part t fl => some (t.putBack j fun e => { e with flags := e.flags ||| fl, vstart := r.2 })
        | _ => none

/-- An old thread in the place of the current context for f; fetch of the context may still see what its writes change (R380). -/
def State.onDrain (s : State) (i : Nat) (f : State → Option State) : Option State :=
  match s.core.drains[i]? with
  | none => none
  | some d =>
    (f (s.setCur d)).map fun t =>
      let new := t.cur.thr.stale.take (t.cur.thr.stale.length - d.thr.stale.length)
      (t.setCur (s.cur.addStale new)).setCore { t.core with drains := t.core.drains.set i t.cur }

/-- `f` on entry k of the context: the entries of its old threads come first. `f` gets whether the thread is an old one, and the place. -/
def onEntryOf (f : Bool → State → Nat → Option State) : List Nat → State → Nat → Option State
  | [], s, k => f false s k
  | i :: is, s, k =>
    let n := ((s.core.drains[i]?).map (·.viq.length)).getD 0
    if k < n then s.onDrain i fun s => f true s k else onEntryOf f is s (k - n)

/-- The old threads of the current context, oldest first. -/
def State.oldHere (s : State) : List Nat :=
  (List.range s.core.drains.length).filter fun i => ((s.core.drains[i]?).map (·.id)) == some s.cur.id

/-- A run of entry k of the current context, for which its lanes need a quad (R326). -/
def State.laneTry (hi : Entry → State → Nat) (ok : EntryOut → Bool) (s : State) (k : Nat) : Option State :=
  if s.hasQuad then onEntryOf (fun old s j => s.laneRun old hi ok j) s.oldHere s k else none

/-- The element up to which an entry has come in a state after a run. -/
def Entry.ranTo (e : Entry) (t : State) : Nat :=
  match t.cur.viq.find? (·.seq == e.seq) with
  | some q => if q.fin || (q.rid.isSome && e.rid.isNone) then e.total else q.vstart
  | none => if e.seq < t.cur.u.vcommit.toNat then e.total else e.vstart

/-- Element groups of an entry up to element hi (R174). -/
def Entry.groups (e : Entry) (s : State) (hi : Nat) : Nat :=
  let n := 8192 / e.widest s
  if hi ≤ e.vstart then 0 else (hi - 1) / n - e.vstart / n + 1

/-- Multiply-accumulates ÷ 1,024 of a product: those of a full tile of its row length, whatever its rows (R275; DESIGN CHOICE, log entry 5). -/
def Entry.macs (e : Entry) : Nat :=
  if e.major == 24 && [1, 2, 4].contains e.f3 then
    match readPair e with
    | .ok p => 4 * p.k
    | .error _ => 0
  else 0

/-- The counters after a run of an entry of s: the element groups that it has issued, the multiply-accumulates of a product that is done (R346). -/
def State.countRun (s t : State) : State :=
  if !s.cur.dbg.countsLanes || !s.cur.thr.live then t
  else
    s.cur.viq.foldl (fun t e =>
      let hi := if e.fin then e.vstart else e.ranTo t
      let t := t.countEvent 0x52 (e.groups s hi)
      if e.total ≤ hi && !e.fin && !e.reissue && e.vstart < hi then t.countEvent 0x53 e.macs else t) t

/-- A run does something: the entry does not wait for a line. -/
def EntryOut.moves : EntryOut → Bool
  | .hold _ => false
  | _ => true

/-- The resource class of entry k of the current context, its old threads' entries first. -/
def State.classAt (s : State) (k : Nat) : Option Cls := (((s.oldEntries ++ s.cur.viq)[k]?).bind fun e => vopOf e.code).map (·.info.cls)

/-- The lanes take entry k: no older entry of its resource class is ready (R174). -/
def State.classFirst (s : State) (k : Nat) : Bool :=
  (List.range k).all fun j => s.classAt j != s.classAt k || (s.laneTry groupEnd EntryOut.moves j).isNone

/-- A run of entry k of the current context, in the order of its class (R174). -/
def State.laneMove (hi : Entry → State → Nat) (ok : EntryOut → Bool) (s : State) (k : Nat) : Option State :=
  if s.classFirst k then (s.laneTry hi ok k).map s.countRun else none

/-- The lanes run the oldest entry that can go on to its end, or to what stops it; else an element group of the oldest one that has one. -/
def State.runLanes (s : State) : Option State :=
  if s.cur.viq.isEmpty && s.core.drains.isEmpty then none
  else
    let all := List.range (s.oldEntries.length + s.cur.viq.length)
    (all.findSome? (s.laneMove wholeEntry EntryOut.moves)).or (all.findSome? (s.laneMove groupEnd EntryOut.moves))

end Sys2Proof.Machine
end

