-- ==== Sys2Proof/Machine/Galys.lean ====
section
/-! DEFINITION. Galys images: the portable section and its checks (R386, R387), and the native code that the translator makes of it (R388, R389).
The code is the model's choice among those that have the effect of R388 (DESIGN CHOICE, log entry 32). -/

namespace Sys2Proof.Machine

/-! The portable section (R386, R387). -/

/-- Width EW of the section's VTYPE. -/
def galysEw (bs : List Byte) : Nat := 8 <<< (fieldAt bs 2 1 % 4)

/-- Stream k. -/
def galysStream (bs : List Byte) (k : Nat) : Stream := Stream.ofBytes bs (0x40 + 128 * k)

/-- A stream that R386 allows. -/
def galysStreamOk (bs : List Byte) (k : Nat) : Bool :=
  let d := galysStream bs k
  let t := ctlFmt d.ctl
  ctlZero d.ctl && !d.dirty && ctlNdim d.ctl != 0 && tagOk t && tagWidth t == galysEw bs && ctlEsz d.ctl * 8 == galysEw bs
    && !ctlFifo d.ctl && !ctlTransit d.ctl && ctlRed d.ctl == 0 && !ctlComp d.ctl
    && d.elems == (galysStream bs 0).elems

/-- The operation of a compact vector op is one of those of R41. -/
def galysHalf (h : BitVec 16) : Bool :=
  let op := (h.extractLsb' 1 5).toNat
  decide (10 ≤ op ∧ op ≤ 19) && (op != 19 || h.extractLsb' 11 5 == 0)

/-- An instruction of a body (R387). -/
def galysOp (n : Nat) (c : Code) : Bool :=
  match c with
  | .half h => galysHalf h
  | .word w =>
    let maj := (w.extractLsb' 3 5).toNat
    let f := field9 (w.extractLsb' 8 24)
    let k := (fieldA (w.extractLsb' 8 24)).toNat
    (vopOf c).isSome && !w.getLsbD 2 &&
      (decide (13 ≤ maj ∧ maj ≤ 18) || (maj == 22 && (f5Of f).toNat ≤ 4)
        || ((maj == 19 || maj == 20) && lowOf f == 0 && decide (k < n)))
  | .wide w _ => (vopOf c).isSome && !w.getLsbD 2 && w.extractLsb' 3 5 == 14

/-- Every instruction of a body; `fuel` bounds their number. -/
def galysBody (n : Nat) : Nat → List Byte → Bool
  | _, [] => true
  | 0, _ => false
  | fuel + 1, bs =>
    match takeCode bs with
    | none => false
    | some (c, rest) => galysOp n c && galysBody n fuel rest

/-- A portable section that R386 and R387 allow, of digest `digest`. -/
def galysOk (digest bs : List Byte) : Bool :=
  let n := fieldAt bs 0 2
  let len := fieldAt bs 4 4
  decide (1 ≤ n ∧ n ≤ 16 ∧ 1 ≤ len ∧ len ≤ 4096 ∧ 0x40 + 128 * n + 2 * len ≤ bs.length)
    && fieldAt bs 3 1 == 0 && fieldAt bs 2 1 / 4 % 4 == 0
    && ((List.range n).all fun k => galysStreamOk bs k)
    && galysBody n len ((bs.drop (0x40 + 128 * n)).take (2 * len))
    && Config.sm3 bs == digest

/-! Native code (R388). `x5` holds the element and `x12` the end of the lot's elements; `x6`-`x9` are worked with; `x10` stays the argument block. -/

/-- The bytes of an instruction. -/
def asm (i : Instr) : List Byte := ((encode i).map Code.bytes).getD []

/-- `x[d]` becomes a constant. -/
def asmConst (d : BitVec 5) (c : Word) : List Byte :=
  asm (.addiWide ⟨d, 0, (c >>> 32).setWidth 43⟩) ++ asm (.slli ⟨d, d, 32⟩) ++ asm (.oriWide ⟨d, d, (c.setWidth 32).setWidth 43⟩)

/-- Adds to `x6` what the index in `x7` moves along the dimensions, dimension 0 fastest (R217). -/
def asmDims : List (Word × Nat) → List Byte
  | [] => []
  | (stride, n) :: ds =>
    asmConst 8 (BitVec.ofNat 64 n) ++ asm (.remu ⟨9, 7, 8⟩) ++ asm (.divu ⟨7, 7, 8⟩) ++ asmConst 8 stride ++ asm (.mul ⟨9, 9, 8⟩)
      ++ asm (.add ⟨6, 6, 9⟩) ++ asmDims ds

/-- `x6` becomes the address of the stream's element `x5`: BASE names the doubleword of the argument block that holds the stream's base (R386). -/
def asmAddr (d : Stream) : List Byte :=
  asmConst 6 d.base ++ asm (.add ⟨6, 6, 10⟩) ++ asm (.ld ⟨6, 6, 0⟩) ++ asm (.addi ⟨7, 5, 0⟩) ++ asmDims d.dims

/-- The standard instruction of a compact vector op, with `last` for its first source (R41). -/
def standardOf (h : BitVec 16) (last : BitVec 5) : Code :=
  let d := h.extractLsb' 6 5
  let b := h.extractLsb' 11 5
  let va (f5 : BitVec 5) : Code := codeVa 13 f5 ⟨false, d, last, b, 15⟩
  match (h.extractLsb' 1 5).toNat with
  | 10 => va 0
  | 11 => va 1
  | 12 => codeVf 15 3 ⟨false, d, last, b, 0, 15⟩
  | 13 => codeVf 15 0 ⟨false, d, last, b, 0, 15⟩
  | 14 => va 4
  | 15 => va 3
  | 16 => va 5
  | 17 => va 6
  | 18 => va 7
  | _ => va 26

/-- A body instruction in its standard or wide form. -/
def standardForm (last : BitVec 5) : Code → Code
  | .half h => standardOf h last
  | c => c

/-- A register field at bit k of a word replaced. -/
def putField (w : BitVec 32) (k : Nat) (r : BitVec 5) : BitVec 32 := (w &&& ~~~(31#32 <<< k)) ||| (r.setWidth 32 <<< k)

/-- A convoy of its own: C is set. -/
def ownConvoy (w : BitVec 32) : BitVec 32 := w ||| 4

/-- The stream's element tag for the register that a load writes, which keeps the tag that it has (R122, R386). -/
def asmTag (d : BitVec 5) (t : Tag) : List Byte := (codeVa 23 19 ⟨true, d, t.extractLsb' 0 5, t.extractLsb' 5 5, 15⟩).bytes

/-- The native code of a body instruction (R387): a stream's element for xa, the doubleword at 8k of the argument block for a scalar field k. -/
def asmOp (bs : List Byte) : Code → List Byte
  | .half _ => []
  | .wide w v => (Code.wide (ownConvoy w) v).bytes
  | .word w =>
    let maj := (w.extractLsb' 3 5).toNat
    let f := w.extractLsb' 8 24
    let d := galysStream bs (fieldA f).toNat
    if maj = 19 then asmAddr d ++ asmTag (fieldD f) (ctlFmt d.ctl) ++ (Code.word (ownConvoy (putField w 13 6))).bytes
    else if maj = 20 then asmAddr d ++ (Code.word (ownConvoy (putField w 13 6))).bytes
    else if maj = 14 ∨ maj = 16 then
      asm (.ld ⟨8, 10, 8 * (fieldB f).setWidth 11⟩) ++ (Code.word (ownConvoy (putField w 18 8))).bytes
    else (Code.word (ownConvoy w)).bytes

/-- The native code of a body; `last` is the last vector destination, and `fuel` bounds the instructions. -/
def asmBody (bs : List Byte) : Nat → BitVec 5 → List Byte → List Byte
  | 0, _, _ => []
  | fuel + 1, last, rest =>
    match takeCode rest with
    | none => []
    | some (c, rest) =>
      let c := standardForm last c
      asmOp bs c ++ asmBody bs fuel (((vopOf c).bind (·.info.vd)).getD last) rest

/-- The element count of a section. -/
def galysElems (bs : List Byte) : Nat := (galysStream bs 0).elems

/-- The entry for a loop table whose spatial level is j: `LOOP` leaves the first element of the lot in `x5` and its end in `lptrip` (R176). A level that
the table does not hold is temporal, and takes every element. -/
def asmEntry (elems j : Nat) : List Byte :=
  asmConst 6 (BitVec.ofNat 64 (min elems (2 ^ 64 - 1))) ++ asm (.loop ⟨5, 6, BitVec.ofNat 3 j, 4⟩) ++ asm (.srd ⟨12, 0, BitVec.ofNat 11 (0x58 + j)⟩)
    ++ asm (.jal ⟨0, BitVec.ofNat 19 ((260 - 36 * j) / 2)⟩) ++ asm (.exit ⟨0, 0⟩)

/-- `fm1`-`fm7` of the header, one element a time, and VTYPE (R388). -/
def asmStart (bs : List Byte) : List Byte :=
  ((List.range 7).map fun k =>
      asmConst 6 (BitVec.ofNat 64 (fieldAt bs (8 + 8 * k) 8)) ++ asm (.swr ⟨0, 6, BitVec.ofNat 11 (0x41 + k)⟩)).flatten
    ++ asm (.addi ⟨6, 0, 1⟩) ++ asm (.vcfg ⟨0, 6, BitVec.ofNat 13 (fieldAt bs 2 1)⟩)

/-- One element: vector registers and masks return to their start values (R9), the body runs, the next element follows. -/
def asmElement (bs : List Byte) : List Byte :=
  let n := fieldAt bs 0 2
  let len := fieldAt bs 4 4
  let body := asm (.swr ⟨0, 0, 0x14⟩) ++ asm (.swr ⟨0, 0, 0x15⟩) ++ asmBody bs len 0 ((bs.drop (0x40 + 128 * n)).take (2 * len))
    ++ asm (.addi ⟨5, 5, 1⟩) ++ asm (.sub ⟨6, 12, 5⟩)
  body ++ asm (.bnezWide ⟨6, BitVec.ofInt 48 (-(body.length / 2 : Nat))⟩) ++ asm (.exit ⟨0, 0⟩)

/-- The native code of a portable section: eight entries, then the start and the element loop. -/
def galysCode (bs : List Byte) : List Byte :=
  ((List.range 8).map (asmEntry (galysElems bs))).flatten ++ asmStart bs ++ asmElement bs

/-- The entry of the code for a spatial level, if there is one. -/
def entryOffset (level : Option Nat) : Nat := 36 * level.getD 0

end Sys2Proof.Machine
end

