-- ==== Sys2Proof/Machine/Dispatcher.lean ====
section
/-! DEFINITION. The dispatcher's half of a launch: its accesses in the launch's address space (R161, R164), the checks of the record, the
image, the loop table and the portable section (R160-R164, R169, R378, R379, R386-R388), the lots (R162), and the completion word (R167).
The launch list and its records are physical memory (R164). -/

namespace Sys2Proof.Machine

/-- What a step of the dispatcher's checks answers: a value; a refusal code; or none where it must wait for a line (R253). -/
abbrev Check (α : Type) := Except (Option Nat) α × State

/-- The next check, after one that passed. -/
def andThen {α β : Type} (c : Check α) (k : α → State → Check β) : Check β :=
  match c with
  | (.ok a, s) => k a s
  | (.error e, s) => (.error e, s)

/-- A refusal with a code of R167 where `b` fails. -/
def require (b : Bool) (code : Nat) (s : State) : Check Unit := if b then (.ok (), s) else (.error (some code), s)

/-! Accesses in a launch's address space. -/

/-- An address space: asid and level-1 table. -/
abbrev Space := Nat × Word

/-- The place of an address, as the dispatcher's walk finds it (R161, R212); a firmware core has no scratchpad (R302). CODE 6 says that the place
itself is homed on a lost die (R376); a walk that ends nowhere answers 5. -/
def dispLoc (sp : Space) (va : Nat) (acc : Acc) (s : State) : Tr × State :=
  if 2 ^ 52 ≤ va then (.fault 5, s)
  else
    match walk s sp.2.toNat va with
    | .error _ => (.fault 5, s)
    | .ok (a, e, lvl) =>
      if !permOk e acc then (.fault 3, s)
      else
        let s1 := if withAD e acc = e then s else s.putPte a (withAD e acc)
        let pa := pteFrame e + (if lvl = 2 then va % 2 ^ 28 else va % 2 ^ 16)
        if pteMt e = 2 then (.fault 4, s1)
        else if pteT e then (transitLoc s1 (attrOf e) (pteG e) sp.1 va pa, s1)
        else (physAt s1 (attrOf e) pa, s1)

/-- Bytes of an address space, piece by piece; `code` refuses what cannot be read. -/
def dispRead (sp : Space) (code : Nat) : List (Nat × Nat) → State → Check (List Byte)
  | [], s => (.ok [], s)
  | (va, n) :: ps, s =>
    match dispLoc sp va .read s with
    | (.hold, s1) => (.error none, s1)
    | (.at l, s1) =>
      if (locPoison s1 l n).isSome then (.error (some code), s1)
      else
        let r := locRead s1 l n
        andThen (dispRead sp code ps r.2) fun bs s => (.ok (r.1 ++ bs), s)
    | (_, s1) => (.error (some code), s1)

/-- n bytes from an address on. -/
def dispBytes (sp : Space) (code : Nat) (va : Word) (n : Nat) (s : State) : Check (List Byte) :=
  if 2 ^ 52 < va.toNat + n then (.error (some code), s) else dispRead sp code (rangePieces va n) s

/-! The launch record (R164). -/

structure LaunchRec where
  addr : Nat
  image : Word
  args : Word
  doneAddr : Word
  ctrl : Word
  aff : Word
  asid : Word
  zero : Word
  trips : List Word
  deriving DecidableEq, Repr

/-- The record at a physical address. -/
def readLaunch (s : State) (a : Nat) : LaunchRec :=
  let w (o : Nat) : Word := BitVec.ofNat 64 (s.mem.readVal (a + o) 8)
  { addr := a, image := w 8, args := w 0x10, doneAddr := w 0x18, ctrl := w 0x20, aff := w 0x28, asid := w 0x30, zero := w 0x38,
    trips := (List.range 8).map fun l => w (0x40 + 8 * l) }

/-- Reserved fields are zero. -/
def LaunchRec.clean (r : LaunchRec) : Bool := r.ctrl >>> 8 == 0 && r.asid >>> 16 == 0 && r.zero == 0

/-- The registered address space of the record (R164). -/
def LaunchRec.space (r : LaunchRec) (d : Dispatcher) : Option Space := d.spaces.find? fun p => p.1 == r.asid.toNat % 2 ^ 16

/-! The kernel image (R378, R379). -/

/-- Bytes that must be zero. -/
def zeroAt (h : List Byte) (a n : Nat) : Bool := fieldAt h a n == 0

/-- FORM 1 (R378). -/
def isGalys (h : List Byte) : Bool := fieldAt h 4 1 == 1

/-- DATALEN rounded up to a multiple of 128 (R379). -/
def roLength (h : List Byte) : Nat := (fieldAt h 0x28 8 + 127) / 128 * 128

/-- The generation of the device (R383). -/
def generation : Nat := 1

/-- The header passes R379. -/
def headerOk (h : List Byte) : Bool :=
  fieldAt h 0 4 == 0x314B5A50 && fieldAt h 4 1 ≤ 1 && fieldAt h 5 1 ≤ generation && zeroAt h 6 2
    && fieldAt h 8 4 % 2 == 0 && decide (fieldAt h 8 4 < fieldAt h 0x18 8) && fieldAt h 0x10 8 % 2 == 0 && fieldAt h 0x20 8 % 8 == 0
    && fieldAt h 0x30 8 == fieldAt h 0x20 8 + roLength h
    && (if isGalys h then zeroAt h 8 4 else zeroAt h 0x40 32) && zeroAt h 0x60 32 && zeroAt h 0xC0 64

/-! The loop table (R160, R162). -/

def tabKind (e : Word) : Nat := (e &&& 7).toNat
def tabCoop (e : Word) : Bool := e.getLsbD 3
def tabChunk (e : Word) : Nat := (e.extractLsb' 8 24).toNat
def tabOff (e : Word) : Word := e >>> 32
/-- A spatial level (R160). -/
def tabSpatial (e : Word) : Bool := tabKind e == 2 || tabKind e == 3

/-- An entry that R160 allows. -/
def tabOk (e : Word) : Bool := tabKind e ≤ 3 && e.extractLsb' 4 4 == 0 && (tabSpatial e || !tabCoop e)

/-- The loop table of a header. -/
def loopTab (h : List Byte) : List Word := (List.range 8).map fun l => BitVec.ofNat 64 (fieldAt h (0x80 + 8 * l) 8)

/-- The trip count of a level, from the record or the argument block; a temporal level has none (R161). -/
def readTrip (sp : Space) (r : LaunchRec) (l : Nat) (e : Word) (s : State) : Check Nat :=
  let f := r.trips.getD l 0
  if !tabSpatial e then (.ok 0, s)
  else if f ≠ allOnes then (.ok f.toNat, s)
  else
    let a := r.args + tabOff e
    if a.toNat % 8 ≠ 0 then (.error (some 4), s)
    else andThen (dispBytes sp 4 a 8 s) fun bs s => (.ok (Memory.leVal bs), s)

/-- The trip counts of levels l and up. -/
def readTrips (sp : Space) (r : LaunchRec) : Nat → List Word → State → Check (List Nat)
  | _, [], s => (.ok [], s)
  | l, e :: es, s =>
    andThen (readTrip sp r l e s) fun t s =>
      andThen (readTrips sp r (l + 1) es s) fun ts s => (.ok (t :: ts), s)

/-- c_L (R162). -/
def chunkOf (e : Word) (t : Nat) : Nat := if tabChunk e = 0 then t else tabChunk e

/-- n_L (R162). -/
def chunks (e : Word) (t : Nat) : Nat := if t = 0 then 0 else (t + chunkOf e t - 1) / chunkOf e t

/-- The spatial levels in ascending number, each with its n_L (R162). -/
def spatialLevels (tab : List Word) (trips : List Nat) : List (Nat × Nat) :=
  ((List.range 8).filter fun l => tabSpatial (tab.getD l 0)).map fun l => (l, chunks (tab.getD l 0) (trips.getD l 0))

/-- The product of the n_L. -/
def lotsOf (ls : List (Nat × Nat)) : Nat := (ls.map (·.2)).foldl (· * ·) 1

/-- The digits of lot k, the highest level fastest (R162): level and q_L. -/
def lotDigits : List (Nat × Nat) → Nat → List (Nat × Nat)
  | [], _ => []
  | (l, n) :: rest, k => (l, k / lotsOf rest % n) :: lotDigits rest k

def Launch.levels (l : Launch) : List (Nat × Nat) := spatialLevels l.tab l.trips

/-- The lot ranges of lot k (R162, R163). -/
def Launch.ranges (l : Launch) (k : Nat) : List (Nat × Nat × Nat) :=
  (lotDigits l.levels k).map fun d =>
    let t := l.trips.getD d.1 0
    let c := chunkOf (l.tab.getD d.1 0) t
    (d.1, d.2 * c, min ((d.2 + 1) * c) t)

/-- A cooperative level (R160). -/
def Launch.coop (l : Launch) : Bool := l.tab.any tabCoop

/-- A gang-shaped launch: one spatial level, of kind spatial-core and cooperative, and two to four lots (R352). -/
def Launch.gangShaped (l : Launch) : Bool :=
  match l.levels with
  | [(j, _)] => tabKind (l.tab.getD j 0) == 2 && tabCoop (l.tab.getD j 0) && decide (2 ≤ l.lots ∧ l.lots ≤ 4)
  | _ => false

/-! Placement (R168, R357). -/

/-- The outermost spatial-die level, with the number of lots for each of its values. -/
def dieLevel (tab : List Word) : List (Nat × Nat) → Option (Nat × Nat × Nat)
  | [] => none
  | (l, n) :: rest => if tabKind (tab.getD l 0) = 3 then some (l, n, lotsOf rest) else dieLevel tab rest

/-- Dies that DIEMASK allows (R164). -/
def dieList (ctrl : Word) : List Nat :=
  let m := (ctrl >>> 4) &&& 15
  (List.range 4).filter fun d => m == 0 || m.getLsbD d

/-- The die that lot k must go to, if there is one (R168); AFF counts only while its die is not lost (R357). -/
def Launch.dieFor (l : Launch) (s : State) (k : Nat) : Option Nat :=
  match dieLevel l.tab l.levels with
  | some (_, n, w) => l.dies[(k / w % n) % l.dies.length]?
  | none => l.aff.filter fun d => !s.dev.dieLost d

/-- Lot k may go to a die. -/
def Launch.mayUse (l : Launch) (s : State) (k die : Nat) : Bool :=
  !s.dev.dieLost die && (match l.dieFor s k with
    | some d => d == die
    | none => l.dies.contains die)

/-- No die that lot k may go to is left. -/
def Launch.dead (l : Launch) (s : State) (k : Nat) : Bool := !(List.range 4).any fun d => l.mayUse s k d

/-- The largest number of lots that a cooperative launch puts on one die (R169). -/
def Launch.mostPerDie (l : Launch) : Nat :=
  let m := l.dies.length
  match dieLevel l.tab l.levels with
  | some (_, n, _) => if n = 0 then 0 else (n + m - 1) / m * (l.lots / n)
  | none => if l.aff.isSome then l.lots else (l.lots + m - 1) / m

/-- The home die of AFFADDR, where it has one that DIEMASK allows (R357). -/
def homeDie (s : State) (sp : Space) (r : LaunchRec) : Option Nat :=
  if !r.ctrl.getLsbD 3 || decide (2 ^ 52 ≤ r.aff.toNat) then none
  else
    match walk s sp.2.toNat r.aff.toNat with
    | .error _ => none
    | .ok (_, e, lvl) =>
      if pteMt e = 2 then none
      else
        match regionOf (pteFrame e + (if lvl = 2 then r.aff.toNat % 2 ^ 28 else r.aff.toNat % 2 ^ 16)) with
        | .hbm d => if (dieList r.ctrl).contains d && !s.dev.dieLost d then some d else none
        | _ => none

/-- The loop table of a Galys image holds no level or one spatial level (R388). -/
def galysTab (tab : List Word) : Bool :=
  (tab.all fun e => tabKind e == 0) ||
    ((tab.filter fun e => tabKind e != 0).length == 1 && tab.all fun e => tabKind e == 0 || tabSpatial e)

/-! The checks of a launch. -/

/-- The address ranges that an image and the argument block use: header, text, data and read-only data, and what the loop table and the portable
section read of the argument block (R161, R378, R386, R387). -/
def imageUses (r : LaunchRec) (h bs : List Byte) : List (Nat × Nat) :=
  let span (a n : Nat) : Nat × Nat := (a, a + n)
  [span r.image.toNat 256, span (fieldAt h 0x10 8) (fieldAt h 0x18 8), span (fieldAt h 0x20 8) (fieldAt h 0x28 8),
    span (fieldAt h 0x30 8) (fieldAt h 0x38 8), span r.args.toNat 256]
    ++ ((loopTab h).map fun e => span (r.args + tabOff e).toNat 8)
    ++ (List.range (fieldAt bs 0 2)).map fun k => span (r.args + (galysStream bs k).base).toNat 8

/-- The launch that a record gives, or the code of its refusal (R160-R164, R169, R379, R386-R388). The order of the checks is the
model's (DEDUCED): record, image, loop table, portable section, trip counts, number of lots. -/
def checkLaunch (sp : Space) (r : LaunchRec) (s : State) : Check Launch :=
  andThen (require r.clean 2 s) fun _ s =>
  andThen (require (r.image.toNat % 256 == 0) 1 s) fun _ s =>
  andThen (dispBytes sp 1 r.image 256 s) fun h s =>
  andThen (require (headerOk h) 1 s) fun _ s =>
  let tab := loopTab h
  andThen (require (tab.all tabOk && (!isGalys h || galysTab tab)) 2 s) fun _ s =>
  let digest := (h.drop 0x40).take 32
  let text := BitVec.ofNat 64 (fieldAt h 0x10 8)
  andThen (if isGalys h then
      andThen (dispBytes sp 1 text (fieldAt h 0x18 8) s) fun bs s => andThen (require (galysOk digest bs) 1 s) fun _ s => (.ok bs, s)
    else (.ok [], s)) fun section_ s =>
  andThen (readTrips sp r 0 tab s) fun trips s =>
  let n := lotsOf (spatialLevels tab trips)
  let l : Launch :=
    { id := s.dev.disp.nextId, record := r.addr, entry := text + BitVec.ofNat 64 (fieldAt h 8 4), args := r.args,
      doneAddr := r.doneAddr, data := BitVec.ofNat 64 (fieldAt h 0x20 8), asid := sp.1, ptbase := sp.2,
      prio := (r.ctrl &&& 7).toNat, dies := dieList r.ctrl, aff := homeDie s sp r, tab := tab, trips := trips, lots := n,
      waiting := if n = 0 then [] else [(0, n)], ok := 0, failed := 0, energy := 0,
      galys := if isGalys h then some ⟨digest, s.dev.store.rev, section_⟩ else none, uses := if isGalys h then imageUses r h section_ else [], replay := false,
      stack := BitVec.ofNat 64 (fieldAt h 0x0C 4) }
  andThen (require (decide (n < 2 ^ 32) && (!l.coop || l.mostPerDie ≤ 128)) 3 s) fun _ s => (.ok l, s)

/-! The completion word (R167). -/

def State.setDisp (s : State) (d : Dispatcher) : State := s.setDev { s.dev with disp := d }

/-- `LISTLOST`, with its entry in the failure log (R377). -/
def State.listLostAt (s : State) (record : Nat) : State :=
  let s1 := s.setDev { s.dev with
    disp := { s.dev.disp with listLost := true }
    pilot := { s.dev.pilot with log := s.dev.pilot.log ++ [.launchLost record] } }
  s1.raise 0

/-- BADDONE for a record (R167, R367, R368). -/
def State.badDoneAt (s : State) (record : Nat) : State :=
  let d := s.dev.disp
  (s.setDisp { d with badDone := true, record := if d.corrupt then d.record else record }).raise 0

/-- ENERGY (R167). -/
def energyWord (code failed mj : Nat) : Nat := code * 2 ^ 56 + failed / 2 ^ 31 % 2 * 2 ^ 48 + mj % 2 ^ 48
/-- STATUS with FIN (R167). -/
def statusWord (ok failed : Nat) : Nat := 2 ^ 63 + failed % 2 ^ 31 * 2 ^ 32 + ok % 2 ^ 32

/-- The place of the completion word: DONEADDR aligned on 16 that translates for writing (R167). -/
def doneLoc (sp : Space) (a : Word) (s : State) : Tr × State :=
  if a.toNat % 16 ≠ 0 then (.fault 5, s) else dispLoc sp a.toNat .write s

/-- The place k bytes on. -/
def Loc.plus (l : Loc) (k : Nat) : Loc :=
  match l with
  | .mem a m => .mem (a + k) m
  | .spad a => .spad (a + k)
  | .window a => .window (a + k)
  | .peer a m => .peer (a + k) m
  | .hole => .hole

/-- ENERGY, then STATUS; none while the line is held (R253). -/
def State.writeDone (s : State) (sp : Space) (a : Word) (record code ok failed mj : Nat) : Option State :=
  match doneLoc sp a s with
  | (.at l, s1) =>
    some (locPut (locPut s1 (l.plus 8) (leBytes 8 (energyWord code failed mj))) l (leBytes 8 (statusWord ok failed)))
  | (.hold, _) => none
  | (.fault c, s1) => some (if c = 6 then s1.listLostAt record else s1.badDoneAt record)
  | (.outside, s1) => some (s1.badDoneAt record)

/-! Translations by key (R390). -/

/-- An entry that a launch may use: its digest holds and its REV is the current one (R392). -/
def TransStore.valid (t : TransStore) (digest : List Byte) (e : Translation) : Bool :=
  e.digest == digest && e.rev == t.rev && e.whole

/-- The entry of a key in the store. -/
def TransStore.stored (t : TransStore) (digest : List Byte) : Option Translation :=
  (t.blocks.flatMap (·.entries)).find? (t.valid digest)

/-- The last use of a key's entries (R391). -/
def TransStore.touch (t : TransStore) (digest : List Byte) : TransStore :=
  let f (e : Translation) : Translation := if t.valid digest e then { e with lastUse := t.tick, used := true } else e
  { t with
    cache := t.cache.map fun c => (c.1, f c.2)
    blocks := t.blocks.map fun b => { b with entries := b.entries.map f }
    tick := t.tick + 1 }

def State.setStore (s : State) (t : TransStore) : State := s.setDev { s.dev with store := t }

/-- Memory at an address is homed on a lost die (R377). -/
def State.listLost (s : State) (a : Nat) : Bool :=
  match regionOf a with
  | .hbm d => s.dev.dieLost d
  | _ => false

/-- 64 KiB pages of a translation's code; one page with its tables follows them. -/
def codePages (n : Nat) : Nat := (n + 65535) / 65536

/-- The end of the place at `addr` of n bytes of code. -/
def codeEnd (addr n : Nat) : Nat := addr + (codePages n + 1) * 65536

/-- The tables of the code at `addr`: at level 3 its pages, read-only and executable, and at level 2 one pointer to them. -/
def codeTables (addr n : Nat) : List Byte :=
  let tab := addr + codePages n * 65536
  ((List.range 4096).map fun k => leBytes 8 (if k < codePages n then addr + k * 65536 + 0xB else 0)).flatten
    ++ leBytes 8 (tab + 1) ++ List.replicate 32760 0

/-- The level-1 entry that maps the code at `addr`. -/
def codePointer (addr n : Nat) : Word := BitVec.ofNat 64 (addr + codePages n * 65536 + 0x8001)

/-- The image or the argument block uses a page among the n addresses from `va` on. -/
def Launch.usesIn (l : Launch) (va n : Nat) : Bool := l.uses.any fun r => decide (va < r.2 ∧ r.1 < va + n)

/-- The lowest entry of the table at `base` that maps to `ptr` already, or is free; its entries map n addresses each, from `va` on. -/
def State.tableSlot (s : State) (l : Launch) (base va n : Nat) (ptr : Word) : Option Nat :=
  let e (i : Nat) : Word := BitVec.ofNat 64 (s.mem.readVal (base + 8 * i) 8)
  let fits (i : Nat) : Bool := !l.usesIn (va + n * i) n && !tableBad s (base + 8 * i)
  ((List.range 4096).find? fun i => e i == ptr && fits i).or ((List.range 4096).find? fun i => !pteV (e i) && fits i)

/-- Where the dispatcher maps the code at `addr` (R389): the address, the table entry and its value. It takes a level-1 entry, or, where none is
free, a level-2 entry. -/
def State.codeEntry (s : State) (l : Launch) (addr n : Nat) : Option (Nat × Nat × Word) :=
  let b := l.ptbase.toNat
  match s.tableSlot l b 0 (2 ^ 40) (codePointer addr n) with
  | some i => some (i * 2 ^ 40, b + 8 * i, codePointer addr n)
  | none =>
    (List.range 4096).findSome? fun i =>
      let e := BitVec.ofNat 64 (s.mem.readVal (b + 8 * i) 8)
      let ptr := codePointer addr n - 0x8000
      if tableBad s (b + 8 * i) || !pteV e || malformed s 1 e then none
      else (s.tableSlot l (nextTable e) (i * 2 ^ 40) (2 ^ 28) ptr).map fun j => (i * 2 ^ 40 + j * 2 ^ 28, nextTable e + 8 * j, ptr)

/-- The level of a Galys image's loop table, if it holds one (R388). -/
def Launch.galysLevel (l : Launch) : Option Nat := (List.range 8).find? fun j => tabSpatial (l.tab.getD j 0)

/-- A launch of a Galys image gets the native code at `addr`: mapped read-only and executable in its address space, outside the pages that the image
and the argument block use (R389). An address space in which every 256 MiB are mapped has no such address, and the launch stays. -/
def State.giveCode (s : State) (addr n : Nat) (l : Launch) : Launch × State :=
  match s.codeEntry l addr n with
  | none => (l, s)
  | some (va, a, ptr) => ({ l with entry := BitVec.ofNat 64 (va + entryOffset l.galysLevel), galys := none }, s.putPte a ptr)

/-- A cached translation on a die that is there. -/
def State.cached (s : State) (digest : List Byte) : Option (Nat × Translation) :=
  s.dev.store.cache.find? fun c => s.dev.store.valid digest c.2 && !s.listLost c.1

/-- A section joins those that are translated, unless its key is among them. -/
def TransStore.start (t : TransStore) (j : GalysJob) : TransStore :=
  { t with busy := if t.busy.any fun b => b.digest == j.digest && b.rev == j.rev then t.busy else t.busy ++ [j] }

/-- The lookup of R390: in the cache; else firmware brings the code there, from the store or by a translation, or does so already. -/
def findCode (l : Launch) (s : State) : Launch × State :=
  match l.galys with
  | none => (l, s)
  | some j =>
    match s.cached j.digest with
    | some (addr, e) => (s.setStore (s.dev.store.touch j.digest)).giveCode addr e.code.length l
    | none => (l, s.setStore (s.dev.store.start j))

/-! Taking a record (R166). -/

/-- The launch joins the taken ones; one of no lot is finished at once (R162, R167). -/
def State.accept (s : State) (sp : Space) (l : Launch) : Option State :=
  if l.lots = 0 then s.writeDone sp l.doneAddr l.record 0 0 0 0
  else
    let r := findCode l s
    let d := r.2.dev.disp
    some (r.2.setDisp { d with launches := d.launches ++ [r.1], nextId := d.nextId + 1 })

/-- The record at NEXT of the cursor is taken: accepted, refused with its code, or reported through BADDONE (R164, R167). Where the record's ASID is
not registered it is refused, and its DONEADDR, which translates in no address space then, has no completion word for the code (R167). -/
def State.takeRecord (s : State) (next : Nat) : Option State :=
  let r := readLaunch s next
  let s := s.setDisp { s.dev.disp with cursor := next }
  match r.space s.dev.disp with
  | none => some (s.badDoneAt next)
  | some sp =>
    match doneLoc sp r.doneAddr s with
    | (.hold, _) => none
    | (.at _, s1) =>
      match checkLaunch sp r s1 with
      | (.ok l, s2) => s2.accept sp l
      | (.error none, _) => none
      | (.error (some code), s2) => s2.writeDone sp r.doneAddr next code 0 0 0
    | (.fault c, s1) => some (if c = 6 then s1.listLostAt next else s1.badDoneAt next)
    | (.outside, s1) => some (s1.badDoneAt next)

/-- NEXT is an address that a record can have: aligned, in the HBM of a die (R165). -/
def nextOk (a : Nat) : Bool := a % 128 == 0 && (regionOf a matches .hbm _)

/-- The list cannot be read at a record: LISTLOST and the record in the failure log, once, where its die is lost (R377). A poisoned list only
stalls. -/
def State.listStops (s : State) (a record : Nat) : State :=
  if s.listLost a && !s.dev.pilot.log.contains (.launchLost record) then s.listLostAt record else s

/-- An address space is registered with firmware (R164). -/
def Dispatcher.register (d : Dispatcher) (asid : Nat) (table : Word) : Dispatcher :=
  { d with spaces := (asid, table) :: d.spaces.filter fun p => p.1 != asid }

/-- The next linked record is taken, or a bad NEXT stops the dispatcher (R165, R166). -/
def State.takeNext (s : State) (table : Option Word) : State :=
  let d := s.dev.disp
  let next := s.mem.readVal d.cursor 8
  let unread (a n : Nat) : Bool := s.listLost a || (s.badLine a n).isSome
  if !d.ready || d.corrupt then s
  else if unread d.cursor 8 then s.listStops d.cursor d.cursor
  else if next = 0 then s
  else if !nextOk next then (s.setDisp { d with corrupt := true, record := d.cursor }).raise 0
  else if unread next 128 then s.listStops next next
  else
    let asid := s.mem.readVal (next + 0x30) 2
    let s1 := match table with
      | none => s
      | some t => s.setDisp (d.register asid (t &&& 0xFFFFFFFFF8000))
    (s1.takeRecord next).getD s

/-- `LAUNCH_TAKE` (R166): `table` is the level-1 table that system software registered for the record's `asid` (R164). -/
def execLaunchTake (table : Option Word) (s : State) : Out := .next (s.takeNext table)

/-- `LSTAT_READ` (R367): the host reads `LSTAT`, which clears BADDONE. -/
def execLstatRead (s : State) : Out :=
  .next (if s.dev.hostDead then s else (s.setDev { s.dev with reply := leBytes 8 s.dev.disp.lstat.toNat, replyBad := false }).setDisp
    { s.dev.disp with badDone := false })

end Sys2Proof.Machine
end

