-- ==== Sys2Proof/Machine/Events.lean ====
section
/-! DEFINITION. The events of a context (R307, R308, R323, R340), debug stops and resumption (R336, R338), samples and the trace
sink (R341, R342), and the moves of the context mover (R329). A step that its state does not allow changes nothing. -/

namespace Sys2Proof.Machine

/-- The stop of a breakpoint at the instruction that the thread runs next, or of a halt (R336, R338). While kernel debug is locked a halt has no
effect (R334). -/
def State.pendingStop (s : State) : Option State :=
  match (if s.cur.thr.wait = .none then s.breakpoint else none) with
  | some slot => some (s.debugStop none 1 slot s.headStart)
  | none =>
    if s.cur.sys.evStop && s.kden then
      some ((s.setSys { s.cur.sys with evStop := false }).debugStop none 5 0 s.headStart)
    else none

/-- The pending event that the current context takes at an instruction boundary in user mode: kill first, the debug stop next,
pre-emption last (R308, R340). -/
def State.pendingEvent (s : State) : Option State :=
  let r := s.cur.sys
  if !s.atBoundary then none
  else if r.evKill then some ((s.setSys { r with evKill := false }).takeTrap true none 0x41 0)
  else
    match s.pendingStop with
    | some t => some t
    | none => if r.evPre then some ((s.setSys { r with evPre := false }).takeTrap true none 0x40 0) else none

/-- The pending event taken, when there is one. -/
def State.takeEvent (s : State) : State := s.pendingEvent.getD s

/-- `PREEMPTION_EVENT` (R307, R325): the event becomes pending and is taken at the boundary. -/
def execPreemptionEvent (c : Bool) (s : State) : Out :=
  .next (s.onCtx c fun s =>
    if s.cur.thr.live then (s.setSys { s.cur.sys with evPre := true }).takeEvent else s)

/-- `KILL_EVENT` (R323). -/
def execKillEvent (c : Bool) (s : State) : Out :=
  .next (s.onCtx c fun s =>
    if s.cur.thr.live then (s.setSys { s.cur.sys with evKill := true }).takeEvent else s)

/-- `HOST_HALT` (R336): no effect on a thread whose `asid` is locked (R334). -/
def execHostHalt (c : Bool) (s : State) : Out :=
  .next (s.onCtx c fun s =>
    if s.cur.thr.live ∧ s.kden then (s.setSys { s.cur.sys with evStop := true }).takeEvent else s)

/-- `DEBUG_STOP_EVENT` (R338): the stop of a breakpoint at pc, or of a pending halt; a pending kill comes first (R340). -/
def execDebugStopEvent (c : Bool) (s : State) : Out :=
  .next (s.onCtx c fun s =>
    if s.atBoundary && !s.cur.sys.evKill then s.pendingStop.getD s else s)

/-- `dbgstat` REASON (R336). -/
def State.stopReason (s : State) : Nat := (s.cur.dbg.stat.setWidth 8).toNat

/-- The core monitor's way out of a stop: `ERET`, past an `EBREAK` (R310), with the breakpoint that stopped let through once (R338). -/
def State.resumeStop (s : State) : State :=
  let reason := s.stopReason
  let s1 := s.setWait .none
  let s1 := if reason = 1 then s1.setDbg { s1.cur.dbg with pass := some (s1.cur.sys.epc.setWidth 52) } else s1
  (if reason = 4 then s1.setSys { s1.cur.sys with epc := s1.cur.sys.epc + 4 } else s1).eret

/-- `DEBUG_RESUME` (R338). -/
def execDebugResume (c : Bool) (s : State) : Out :=
  .next (s.onCtx c fun s => if s.cur.thr.live ∧ s.cur.thr.wait = .stop then s.resumeStop else s)

/-! Trace. -/

/-- SPERIOD (R335). -/
def DbgRegs.period (d : DbgRegs) : Nat := (d.ctl.extractLsb' 8 24).toNat

/-- `TRACE_SAMPLE` (R341): a record of TYPE 2; kernel debug samples user-mode code, firmware debug the core monitor (R332). -/
def execTraceSample (c : Bool) (time : Word) (s : State) : Out :=
  .next (s.onCtx c fun s =>
    let r (addr : BitVec 52) (e : Nat) : TraceRec := ⟨time, addr.setWidth 64, e, s.place, s.cur.id, 2, 0, s.cur.u.instret⟩
    if !s.cur.runnable then s
    else if !s.user then s.fwSample (r s.cur.pc 0)
    else if s.kden ∧ s.cur.dbg.period ≠ 0 then
      s.setCore (s.core.storeTrace (r (((s.cur.viq.head?).map (·.addr)).getD s.cur.pc) s.headStart))
    else s)

/-- The 32 bytes of a record (R341). -/
def TraceRec.bytes (r : TraceRec) : List Byte :=
  leBytes 8 r.time.toNat ++ leBytes 8 r.addr.toNat ++ leBytes 4 r.element ++ leBytes 1 r.place ++ leBytes 1 r.ctx.toNat
    ++ leBytes 1 r.kind ++ leBytes 1 r.detail ++ leBytes 8 r.data.toNat

/-- Doubleword k of the header of the sink at `KTSINK`: BASE, SIZE, HEAD, TAIL, LOST (R342). -/
def State.sinkWord (s : State) (k : Nat) : Nat := s.mem.readVal (s.dev.win.ktsink.toNat + 8 * k) 8
def State.putSinkWord (s : State) (k v : Nat) : State := s.putMem (s.dev.win.ktsink.toNat + 8 * k) (leBytes 8 v)
/-- HEAD − TAIL. -/
def State.sinkUsed (s : State) : Nat := (s.sinkWord 2 + 2 ^ 64 - s.sinkWord 3) % 2 ^ 64

/-- A record written to the sink (R342), a loss record added to LOST (R343), and vector 3 when the sink passes half of SIZE
(R368). -/
def State.toSink (s : State) (r : TraceRec) : State :=
  let head := s.sinkWord 2
  let size := s.sinkWord 1
  let s1 := s.putMem (s.sinkWord 0 + head % size) r.bytes
  let s2 := if r.kind = 0 then s1.putSinkWord 4 (s1.sinkWord 4 + r.data.toNat) else s1
  let s3 := s2.putSinkWord 2 (head + 32)
  if s.sinkUsed ≤ size / 2 ∧ size / 2 < s3.sinkUsed then s3.raise 3 else s3

/-- The oldest record of the cluster's buffer goes to the sink when it has room (R342). -/
def State.drainTrace (s : State) : State :=
  match s.core.trace with
  | [] => s
  | r :: rest => if s.sinkUsed = s.sinkWord 1 then s else (s.setCore { s.core with trace := rest }).toSink r

/-- `TRACE_BUFFER_DRAIN` (R342). -/
def execTraceBufferDrain (s : State) : Out := .next s.drainTrace

/-! The context mover. -/

/-- `CTXOP_SAVE` (R329): SAVE needs a frozen VIQ. -/
def execCtxopSave (c : Bool) (s : State) : Out :=
  .next (s.onCtx c fun s => if s.cur.thr.live ∧ s.cur.frozen then s.ctxSave else s)

/-- `CTXOP_RESTORE` (R329): once its banks can be taken; a poisoned image is a monitor fault (R309). -/
def execCtxopRestore (c : Bool) (s : State) : Out :=
  .next (s.onCtx c fun s =>
    if s.cur.thr.live ∧ !s.user ∧ s.cur.thr.saved then
      if s.restoreBad then s.monitorFault else if s.restoreRoom then s.ctxRestore else s
    else s)

end Sys2Proof.Machine
end

