-- ==== Sys2Proof/Machine/Place.lean ====
section
/-! DEFINITION. Lots: their choice and place (R166, R168, R169, R325), the start of a thread (R22), the owner of the scratchpad (R205),
run-ahead (R173), completion (R23, R167) and failure (R323). -/

namespace Sys2Proof.Machine

/-! Launches. -/

def State.setLaunches (s : State) (l : List Launch) : State := s.setDisp { s.dev.disp with launches := l }

/-- The launch with an id. -/
def State.launch (s : State) (id : Nat) : Option Launch := s.dev.disp.launches.find? (·.id == id)

/-- A launch changed. -/
def State.updLaunch (s : State) (id : Nat) (f : Launch → Launch) : State :=
  s.setLaunches (s.dev.disp.launches.map fun l => if l.id = id then f l else l)

/-- A launch whose lots are all done or failed is finished (R167); none while its completion word must wait. -/
def State.finishLaunch (s : State) (id : Nat) : Option State :=
  match s.launch id with
  | none => some s
  | some l =>
    if l.ok + l.failed < l.lots ∨ l.replay then some s
    else
      (s.writeDone (l.asid, l.ptbase) l.doneAddr l.record 0 l.ok l.failed l.energy).map fun s =>
        s.setLaunches (s.dev.disp.launches.filter fun k => k.id != id)

/-! Failure. -/

/-- STATUS of a replay descriptor: FIN, MISMATCH, CODE (R349). -/
def State.replayStatus (s : State) (desc : Nat) (mismatch : Bool) (code : Nat) : State :=
  s.putMem (desc + 0x28) (leBytes 8 (2 ^ 63 + mismatch.toNat * 2 ^ 62 + code))

/-- The kill event of a live thread of a launch (R323). -/
def Ctx.killFor (c : Ctx) (id : Nat) : Ctx :=
  if c.thr.live && c.thr.launch == id then { c with sys := { c.sys with evKill := true } } else c

/-- The number of waiting lots. -/
def waitingLots (l : List (Nat × Nat)) : Nat := (l.map fun r => r.2 - r.1).foldl (· + ·) 0

/-- After a lot of a launch has failed: with a cooperative level its other live lots are killed, and those that wait are counted
FAILED (R323). -/
def State.failOthers (s : State) (id : Nat) : State :=
  match s.launch id with
  | none => s
  | some l =>
    if !l.coop then s
    else
      let s1 := s.updLaunch id fun l => { l with failed := l.failed + waitingLots l.waiting, waiting := [] }
      { s1 with
        cur := s1.cur.killFor id
        oth := s1.oth.killFor id
        core := { s1.core with saved := s1.core.saved.map (·.killFor id) } }

/-- One lot counted (R167). Once a lot of a launch with a cooperative level has failed, its others are counted FAILED, wherever they are (R323). -/
def State.countLot (s : State) (id : Nat) (failed : Bool) : State :=
  let s1 := s.updLaunch id fun l =>
    let f := failed || (l.coop && decide (0 < l.failed))
    { l with ok := l.ok + (!f).toNat, failed := l.failed + f.toNat }
  if failed then s1.failOthers id else s1

/-! The choice of a lot. -/

/-- A lot taken from the waiting ones. -/
def dropLot : List (Nat × Nat) → Nat → List (Nat × Nat)
  | [], _ => []
  | (lo, hi) :: rest, k =>
    if lo ≤ k ∧ k < hi then
      (if lo < k then [(lo, k)] else []) ++ ((if k + 1 < hi then [(k + 1, hi)] else []) ++ rest)
    else (lo, hi) :: dropLot rest k

/-- The lowest waiting lot that `ok` accepts. A lot's die depends on its digit on one level only, so the start of a range and of its next
eight blocks are enough. -/
def Launch.firstLot (l : Launch) (ok : Nat → Bool) : Option Nat :=
  let w := match dieLevel l.tab l.levels with
    | some (_, _, w) => max w 1
    | none => 1
  (l.waiting.flatMap fun r => (r.1 :: (List.range 8).map fun j => (r.1 / w + j + 1) * w).filter (· < r.2)).find? ok

/-- The dispatcher may start lots of the launch: its code is there, and it is no replay. -/
def Launch.startable (l : Launch) : Bool := l.galys.isNone && !l.replay

/-- The waiting lot of highest PRIO, of the earliest launch, of the lowest index that `ok` accepts (R166). -/
def bestLot (ok : Launch → Nat → Bool) : List Launch → Option (Launch × Nat) → Option (Launch × Nat)
  | [], best => best
  | l :: ls, best =>
    bestLot ok ls (
      match (if l.startable then l.firstLot (ok l) else none), best with
      | none, b => b
      | some k, none => some (l, k)
      | some k, some (b, j) => if b.prio < l.prio then some (l, k) else some (b, j))

/-- The first launch with a waiting lot whose dies are all lost. -/
def State.deadLot (s : State) : Option (Launch × Nat) :=
  s.dev.disp.launches.findSome? fun l => (l.firstLot (l.dead s)).map fun k => (l, k)

/-! The scratchpad's owner (R205). -/

def imageMask : Word := 0xFFFFFFFFF0000

/-- The image at `spimg`: the roles of banks 0-39, then one slot per bank. Poison goes with the lines (R321). -/
def State.saveImage (s : State) : State :=
  let a := s.core.spimg.toNat
  let s1 := s.putMem a (s.core.banks.map fun r => BitVec.ofNat 8 r)
  let s2 := (spadBanks s).foldl (fun s b => s.putMem (a + (b + 1) * 65536) (s.core.spad.readN (b * 65536) 65536)) s1
  s2.setBad ((s.core.spadBad.map (a / 128 + 512 + ·)).foldl (fun l n => if l.contains n then l else n :: l) s2.bad)

/-- The roles and the scratchpad banks of an image; extension banks come back with RESTORE (R329). Banks that leave the cache role or the FIFO role
write their lines back first, as at `BANKSET` (R203). -/
def State.loadImage (s : State) (a : Nat) : State :=
  let roles := (s.mem.readN a 40).map fun b => if b.toNat = 3 then 0 else b.toNat
  let s := s.emptyBanks ((List.range 40).filter fun b => roles.getD b 0 != s.core.banks.getD b 0)
  let lines := s.bad.filter fun l => decide (a / 128 + 512 ≤ l ∧ l < a / 128 + 512 * 41)
  let s1 := s.setCore { s.core with banks := roles, spad := [], spadBad := lines.map (· - (a / 128 + 512)) }
  (spadBanks s1).foldl (fun t b =>
    t.setCore { t.core with spad := t.core.spad.write (b * 65536) (s.mem.readN (a + (b + 1) * 65536) 65536) }) s1

/-- Address spaces with a thread that is resident on the core or pre-empted from it. -/
def State.spacesHere (s : State) : List Nat :=
  let held (c : Ctx) : Bool := c.thr.live || c.thr.ended.isSome
  (((if held s.cur then [s.cur] else []) ++ (if held s.oth then [s.oth] else [])) ++ s.core.saved).map fun c => c.sys.asid.toNat

/-- Images of address spaces without a thread here are released (R205). -/
def State.dropImages (s : State) : State :=
  s.setCore { s.core with images := s.core.images.filter fun i => s.spacesHere.contains i.1 }

/-- The core's scratchpad goes over to an address space before its first thread starts or resumes (R205). -/
def State.ownBy (s : State) (asid : Nat) (spimg : Word) : State :=
  if s.core.owner = some asid then s
  else
    let s1 := match s.core.owner with
      | none => s
      | some o =>
        let s1 := s.saveImage
        s1.setCore { s1.core with images := (o, s1.core.spimg.toNat) :: s1.core.images.filter fun i => i.1 != o }
    let s2 := match s1.core.images.find? fun i => i.1 == asid with
      | none => s1.setCore { s1.core with spad := [], spadBad := [] }
      | some i => s1.loadImage i.2
    s2.setCore { s2.core with
      owner := some asid
      spimg := spimg &&& imageMask
      images := s2.core.images.filter fun i => i.1 != asid }

/-! The start of a thread. -/

/-- A context with a new thread (R7, R8, R22, R304): what belongs to the context alone stays. The stack area begins at `sp` and has the bytes that the
image's header asks for (R378). -/
def startCtx (old : Ctx) (l : Launch) (k : Nat) (tid sp ctxarea : Word) (born : Nat) : Ctx :=
  let c := Ctx.reset old.id
  { c with
    pc := l.entry.setWidth 52
    x := (((c.x.set 10 l.args).set 11 (BitVec.ofNat 64 k)).set 2 ((sp + l.stack) &&& ~~~15#64)).set 3 l.data
    u := { UserRegs.start with tid := tid, coreid := old.u.coreid, dieid := old.u.dieid }
    sys := { SysRegs.reset with
      tvec := old.sys.tvec
      scratch := old.sys.scratch
      fltq := old.sys.fltq
      asid := BitVec.ofNat 64 l.asid
      ptbase := l.ptbase
      prio := BitVec.ofNat 64 l.prio
      ctxarea := ctxarea &&& imageMask }
    dbg := { old.dbg with pass := none }
    thr := { Thread.empty with live := true, launch := l.id, lot := k, ranges := l.ranges k, born := born } }

/-- A lot starts on the current context: no unit's content waits in its area, and the cluster runs (R402). -/
def State.startThread (s : State) (l : Launch) (k : Nat) (tid sp ctxarea : Word) : State :=
  let s := s.setDisp { s.dev.disp with placed := s.dev.disp.placed + 1 }
  let s1 := s.setCur (startCtx s.cur l k tid sp ctxarea s.dev.disp.placed)
  let s2 := s1.putAreaWord (s1.cur.area + areaFlags) 0
  let s3 := s2.setCore { s2.core with power := .run }
  let s4 := if s3.tracing then s3.addTrace 4 0 (s3.cur.pc.setWidth 64) 0 (BitVec.ofNat 64 k) else s3
  s4.setThr { s4.cur.thr with stale := [] }

/-- A waiting lot starts on the current context. -/
def State.startLot (s : State) (l : Launch) (k : Nat) (o : PlaceArgs) : State :=
  let s1 := s.ownBy l.asid o.spimg
  let s2 := s1.updLaunch l.id fun l => { l with waiting := dropLot l.waiting k }
  (s2.startThread l k o.tid o.sp o.ctxarea).dropImages

/-! Placement. -/

/-- The die of the core, and the core's number on it. -/
def State.die (s : State) : Nat := s.cur.u.dieid.toNat
def State.coreNo (s : State) : Nat := s.cur.u.coreid.toNat % 64

/-- No thread occupies the context. -/
def Ctx.isFree (c : Ctx) : Bool := !c.thr.live && c.thr.ended.isNone

/-- Work of a thread of another address space is under way on the core: old entries, copies or prefetch slots (R173, R205). -/
def State.strangers (s : State) (asid : Nat) : Bool :=
  (s.core.drains.any fun d => d.sys.asid.toNat != asid && !d.viq.isEmpty) || (s.core.copies.any fun c => c.asid != asid)
    || s.core.slots.any fun p => p.asid != asid

/-- The current context may hold a thread of an address space beside the other one (R205). -/
def State.asidFits (s : State) (asid : Nat) : Bool := (s.oth.isFree || s.oth.sys.asid.toNat == asid) && !s.strangers asid

/-- The launch's lots are placed one at a time: it has no cooperative level, or one lot (R169). -/
def Launch.single (l : Launch) : Bool := !l.coop || l.lots == 1

/-- Lots that the current context may take; beside a replay none (R350). -/
def State.fits (s : State) (l : Launch) (k : Nat) : Bool :=
  l.mayUse s k s.die && s.asidFits l.asid && s.dev.replay.isNone

/-- Lots that are placed one at a time. No context is kept for a cooperative launch that waits until all its lots can be placed, whatever its PRIO
(DESIGN CHOICE: R166 and R169 say only when it starts; log entry 28). -/
def State.fitsAlone (s : State) (l : Launch) (k : Nat) : Bool := l.single && s.fits l k

/-- PRIO of a context's launch, and of a thread on another core. -/
def State.prioOf (s : State) (c : Ctx) : Nat := ((s.launch c.thr.launch).map (·.prio)).getD c.sys.prio.toNat
def State.prioAt (s : State) (t : Remote) : Nat := ((s.launch t.launch).map (·.prio)).getD 0

/-- The pre-empted thread that the current context resumes first: of highest PRIO, the one saved first; beside a replay none. -/
def State.resumable (s : State) : Option Ctx :=
  (s.core.saved.filter fun c => c.id == s.cur.id && s.asidFits c.sys.asid.toNat && s.dev.replay.isNone).foldl (fun b c =>
    match b with
    | none => some c
    | some d => if s.prioOf d < s.prioOf c then some c else some d) none

/-- A pre-empted thread comes back to its context, in the core monitor (R325, R329). -/
def State.resumeCtx (s : State) (c : Ctx) (spimg : Word) : State :=
  let s1 := s.ownBy c.sys.asid.toNat spimg
  let gone := s1.core.saved.filter fun d => !(d.id == c.id && d.u.tid == c.u.tid)
  ((s1.setCore { s1.core with saved := gone, power := .run }).setCur c).dropImages

/-- A context that is free, or whose thread the mover has saved, which then makes room (R325). -/
def State.roomHere (s : State) : Option State :=
  if s.cur.isFree then some s
  else if s.cur.thr.live ∧ s.cur.thr.saved then
    some ((s.setCore { s.core with saved := s.core.saved ++ [s.cur] }).setThr Thread.empty)
  else none

/-! Other cores. -/

/-- A thread occupies a context of another core. -/
def State.takenAt (s : State) (die core : Nat) (ctx : Bool) : Bool :=
  s.dev.others.any fun t => t.die == die && t.core == core && t.ctx == ctx

/-- A core lies in the modelled cluster. -/
def State.inCluster (s : State) (die core : Nat) : Bool := die == s.die && core / 4 == s.coreNo / 4

/-- The cluster runs a replay (R350). -/
def State.replayAt (s : State) (die core : Nat) : Bool := s.dev.replay.isSome && s.inCluster die core

/-- A context of another core may take lot k: R168, R205, R350. -/
def State.fitsAt (s : State) (l : Launch) (k die core : Nat) : Bool :=
  !(die == s.die && core == s.coreNo) && l.mayUse s k die && !s.replayAt die core
    && !(s.dev.others.any fun t => t.die == die && t.core == core && t.asid != l.asid)

/-- Cores with an allowed context that is free for lot k, by die and core, once for each such context: this core's other context and those of other
cores. -/
def State.freeFor (s : State) (l : Launch) (k : Nat) : List (Nat × Nat) :=
  (if s.swap.fits l k && s.oth.isFree then [(s.die, s.coreNo)] else []) ++
    ((List.range 4).filter (l.mayUse s k)).flatMap fun d => (List.range 64).flatMap fun c =>
      if s.fitsAt l k d c then ([false, true].filter fun x => !s.takenAt d c x).map fun _ => (d, c) else []

/-- The lots of a launch that may use the dies that lot k may use. -/
def State.alike (s : State) (l : Launch) (k : Nat) : Nat :=
  (List.range l.lots).countP fun j => (List.range 4).all fun d => l.mayUse s j d == l.mayUse s k d

/-- Free contexts are there for lot k and, of a cooperative launch, for all that start with it (R169): those of a gang on distinct cores of one
cluster (R352). -/
def State.freeEnough (s : State) (l : Launch) (k : Nat) : Bool :=
  let free := s.freeFor l k
  if l.single then !free.isEmpty
  else if l.gangShaped then
    let cores := free.eraseDups
    cores.any fun p => decide (l.lots ≤ cores.countP fun q => q.1 == p.1 && q.2 / 4 == p.2 / 4)
  else decide (s.alike l k ≤ free.length)

/-- A lot starts on a context of another core, of which the model holds what the dispatcher knows (log entry 3); in the modelled cluster it
ends its idle or gated state (R402). -/
def State.startAway (s : State) (l : Launch) (k : Nat) (o : PlaceArgs) : State :=
  let s1 := s.updLaunch l.id fun l => { l with waiting := dropLot l.waiting k }
  let s2 := if s.inCluster o.die.toNat o.core.toNat then s1.setCore { s1.core with power := .run } else s1
  s2.setDev { s2.dev with
    others := s2.dev.others ++ [⟨o.tid, o.die.toNat, o.core.toNat, o.ctx, l.asid, l.id, k, s2.dev.disp.placed, []⟩]
    disp := { s2.dev.disp with placed := s2.dev.disp.placed + 1 } }

/-! Pre-emption for priority (R325). -/

/-- A thread that a lot of PRIO p may pre-empt: of lower PRIO, of no cooperative launch, still running. -/
def State.victim (s : State) (c : Ctx) (p : Nat) : Bool :=
  c.thr.live && !c.thr.saved && decide (s.prioOf c < p) && !((s.launch c.thr.launch).map (·.coop)).getD false

/-- The same of a thread on another core. -/
def State.victimAway (s : State) (l : Launch) (k : Nat) (t : Remote) : Bool :=
  decide (s.prioAt t < l.prio) && !((s.launch t.launch).map (·.coop)).getD false && l.mayUse s k t.die
    && !(s.dev.others.any fun u => u.die == t.die && u.core == t.core && u.ctx != t.ctx && u.asid != l.asid)

/-- One thread is pre-empted before another: the lower PRIO, and of equal PRIO the one placed later. -/
def sooner (p b q c : Nat) : Bool := decide (p < q ∨ (p = q ∧ c < b))

/-- The pre-emption event in the current context's thread: no allowed context is free for the lot, or too few for the launch that starts at once,
and no other thread whose context the lot may
take comes first. -/
def State.preemptFor (s : State) (l : Launch) (k : Nat) : State :=
  let p := s.prioOf s.cur
  let b := s.cur.thr.born
  let before := (s.swap.fits l k && s.victim s.oth l.prio && sooner (s.prioOf s.oth) s.oth.thr.born p b)
    || s.dev.others.any fun t => s.victimAway l k t && sooner (s.prioAt t) t.born p b
  if s.victim s.cur l.prio && s.fits l k && !s.freeEnough l k && !before then (s.setSys { s.cur.sys with evPre := true }).takeEvent else s

/-! The steps of placement. -/

/-- A thread or lot for the current context: a pre-empted thread ranks ahead of lots of its PRIO (R325). -/
def State.placeHere (s : State) (o : PlaceArgs) : State :=
  match s.roomHere with
  | some r =>
    match bestLot (r.fitsAlone) r.dev.disp.launches none, s.resumable with
    | some (l, k), some c =>
      if s.prioOf c < l.prio then r.startLot l k o
      else if s.cur.isFree then s.resumeCtx c o.spimg else s
    | some (l, k), none =>
      if s.cur.isFree || decide (s.prioOf s.cur < l.prio) then r.startLot l k o else s
    | none, some c => if s.cur.isFree then s.resumeCtx c o.spimg else s
    | none, none => s
  | none =>
    match bestLot s.fits s.dev.disp.launches none with
    | some (l, k) => s.preemptFor l k
    | none => s

/-- A lot for a free context of another core (log entry 3). -/
def State.placeAway (s : State) (o : PlaceArgs) : State :=
  if s.takenAt o.die.toNat o.core.toNat o.ctx then s
  else
    match bestLot (fun l k => l.single && s.fitsAt l k o.die.toNat o.core.toNat) s.dev.disp.launches none with
    | none => s
    | some (l, k) => s.startAway l k o

/-- The context for a lot of a cooperative launch: free, or that of a saved thread of lower PRIO (R325). -/
def State.coopRoom (s : State) (l : Launch) : Option State :=
  if s.cur.isFree || decide (s.prioOf s.cur < l.prio) then s.roomHere else none

/-- One lot of a cooperative launch put where `o` says, none where the place is not free for it. -/
def State.placeLot (s : State) (l : Launch) (k : Nat) (o : PlaceArgs) : Option State :=
  match o.here with
  | some c =>
    let r := if s.cur.id = c then s else s.swap
    if (r.coopRoom l).any (·.fits l k) then some (s.onCtx c fun s => ((s.coopRoom l).getD s).startLot l k o) else none
  | none =>
    if s.fitsAt l k o.die.toNat o.core.toNat && !s.takenAt o.die.toNat o.core.toNat o.ctx then some (s.startAway l k o) else none

/-- Lots k, k + 1, … of a cooperative launch, one place each. -/
def State.placeLots (l : Launch) : List PlaceArgs → Nat → State → Option State
  | [], _, s => some s
  | o :: os, k, s => (s.placeLot l k o).bind (placeLots l os (k + 1))

/-- Die and core of a place. -/
def State.placeOf (s : State) (o : PlaceArgs) : Nat × Nat :=
  if o.here.isSome then (s.die, s.coreNo) else (o.die.toNat, o.core.toNat)

/-- Distinct cores of one cluster (R352). -/
def oneCluster (l : List (Nat × Nat)) : Bool :=
  decide l.Nodup && ((l.map fun p => (p.1, p.2 / 4)).eraseDups.length ≤ 1)

/-- All lots of a cooperative launch at once, at the places given (R169): none where one of the places does not do. -/
def State.placeCoop (s : State) (l : Launch) (os : List PlaceArgs) : Option State :=
  if l.startable && !l.single && l.waiting == [(0, l.lots)] && os.length == l.lots && (!l.gangShaped || oneCluster (os.map s.placeOf)) then
    State.placeLots l os 0 s
  else none

/-- A lot that is placed alone comes before those of launch l: of higher PRIO, or of equal PRIO and an earlier launch (R166). -/
def comesFirst (l : Launch) (b : Option (Launch × Nat)) : Bool := b.any fun x => decide (l.prio < x.1.prio ∨ (x.1.prio = l.prio ∧ x.1.id < l.id))

/-- A lot that is placed alone, or a pre-empted thread, has the place before launch l (R166, R325). -/
def State.takenFirst (s : State) (l : Launch) (o : PlaceArgs) : Bool :=
  match o.here with
  | some c =>
    let r := if s.cur.id = c then s else s.swap
    comesFirst l (bestLot r.fitsAlone s.dev.disp.launches none) || r.resumable.any fun d => decide (l.prio ≤ s.prioOf d)
  | none => comesFirst l (bestLot (fun b k => b.single && s.fitsAt b k o.die.toNat o.core.toNat) s.dev.disp.launches none)

/-- The cooperative launch that the places suit: of highest PRIO, of the earliest one, where no other lot comes first at one of them. -/
def State.bestCoop (s : State) (os : List PlaceArgs) : Option (Launch × State) :=
  s.dev.disp.launches.foldl (fun best l =>
    match (if os.any (s.takenFirst l) then none else s.placeCoop l os), best with
    | none, b => b
    | some t, none => some (l, t)
    | some t, some (b, u) => if b.prio < l.prio then some (l, t) else some (b, u)) none

/-- A launch all of whose lots are done or failed, and whose completion word had to wait for a line, is finished (R167, R253). -/
def State.finishHeld (s : State) : State :=
  s.dev.disp.launches.foldl (fun s l => (s.finishLaunch l.id).getD s) s

/-- `LOT_PLACE` (R166, R168, R169, R325, R352). A waiting lot whose dies are all lost is counted FAILED first (R322). Several places are
those of a cooperative launch, in the order of its lots. -/
def execLotPlace (os : List PlaceArgs) (s : State) : Out :=
  .next (
    let s := s.finishHeld
    if s.dev.pilot.held then s
    else
      match s.deadLot with
      | some (l, k) =>
        let s1 := s.updLaunch l.id fun l => { l with waiting := dropLot l.waiting k }
        let s2 := s1.countLot l.id true
        (s2.finishLaunch l.id).getD s2
      | none =>
        match os with
        | [o] =>
          match o.here with
          | some c => s.onCtx c fun s => s.placeHere o
          | none => s.placeAway o
        | _ => ((s.bestCoop os).map (·.2)).getD s)

/-! Run-ahead (R173). -/

/-- Copies or prefetch slots of the current context's thread remain. -/
def State.enginesBusy (s : State) : Bool :=
  (s.core.copies.any fun c => c.mine s) || (s.core.slots.any fun p => p.mine s)

/-- Units that entries of the queue work on come to the context, and stay with the thread while it drains (R236). -/
def State.claimQueued (s : State) : State :=
  s.cur.viq.foldl (fun s e =>
    match e.unit with
    | some u => s.claim u
    | none => s) s

/-- The ended thread of the current context drains beside the next one. -/
def State.drainOld (s : State) : State :=
  let s := s.claimQueued
  let mineC (c : CopyJob) : CopyJob := if c.mine s then { c with drained := true } else c
  let mineP (p : PfSlot) : PfSlot := if p.mine s then { p with drained := true } else p
  (s.setCore { s.core with
    copies := s.core.copies.map mineC
    slots := s.core.slots.map mineP
    drains := s.core.drains ++ [s.cur] }).setThr Thread.empty

/-- The thread of the current context is in no gang: only then is its place free for another (R195). -/
def State.leftGang (s : State) : Bool := gangGid s.cur.u.gangid == 0

/-- The next lot on a context whose thread has retired `EXIT`: of the same address space at once, of another one when everything of the old
threads has ended. A pre-empted thread of its PRIO or a higher one has the context first (R325). -/
def State.runAhead (s : State) (o : PlaceArgs) : State :=
  match s.cur.thr.ended with
  | some false =>
    match bestLot (s.fitsAlone) s.dev.disp.launches none with
    | none => s
    | some (l, k) =>
      if (l.asid = s.cur.sys.asid.toNat ∨ s.cur.viq.isEmpty) ∧ s.leftGang ∧ !(s.resumable.any fun d => decide (l.prio ≤ s.prioOf d)) then s.drainOld.startLot l k o else s
  | _ => s

/-- `NEXT_LOT_RUNAHEAD` (R173). -/
def execNextLotRunahead (o : PlaceArgs) (s : State) : Out :=
  .next (
    match o.here with
    | none => s
    | some c => if s.dev.pilot.held then s else s.onCtx c fun s => s.runAhead o)

/-! Completion (R23). -/

/-- Copies and prefetch slots of a draining thread remain. -/
def State.drainBusy (s : State) (d : Ctx) : Bool :=
  (s.core.copies.any fun c => c.drained && c.tid == d.u.tid) || (s.core.slots.any fun p => p.drained && p.tid == d.u.tid)

/-- A lot of the current context whose thread has ended with everything done, the oldest first: its launch, whether it failed, the state
without it. -/
def State.doneLot (s : State) : Option (Nat × Bool × State) :=
  match s.core.drains.find? fun d => d.id == s.cur.id && d.viq.isEmpty && !s.drainBusy d with
  | some d =>
    some (d.thr.launch, d.thr.ended == some true, s.setCore { s.core with drains := s.core.drains.filter fun e => e.u.tid != d.u.tid })
  | none =>
    match s.cur.thr.ended with
    | none => none
    | some f =>
      if s.enginesBusy || !s.cur.viq.isEmpty || !(f || s.leftGang) || ((s.launch s.cur.thr.launch).map (·.replay)).getD false then none
      else some (s.cur.thr.launch, f, s.setThr Thread.empty)

/-- A completed lot counted, and its launch finished when it was the last (R167). -/
def State.settleLot (s : State) (id : Nat) (failed : Bool) : Option State :=
  (s.countLot id failed).finishLaunch id

/-- `LOT_COMPLETE` (R23, R167). -/
def execLotComplete (o : CompleteArgs) (s : State) : Out :=
  .next (
    match o.here with
    | some c => s.onCtx c fun s =>
      match s.doneLot with
      | none => s
      | some (id, failed, s1) => ((s1.settleLot id failed).map State.dropImages).getD s
    | none =>
      match s.dev.others.find? fun t => t.tid == o.tid with
      | none => s
      | some t =>
        let s1 := s.setDev { s.dev with others := s.dev.others.filter fun u => u.tid != o.tid }
        (s1.settleLot t.launch o.failed).getD s)

end Sys2Proof.Machine
end

