-- ==== Sys2Proof/Machine/Fabric.lean ====
section
/-! DEFINITION. Power states of the cluster (R205, R344, R402), clock points (R403), die-to-die links, UCIe modules and UALink ports
(R360-R362, R369), and the loss of a die (R361, R376, R377). -/

namespace Sys2Proof.Machine

/-! Power. -/

/-- No context of the modelled core holds a thread. -/
def State.coreEmpty (s : State) : Bool := s.cur.isFree && s.oth.isFree

/-- `CLUSTER_IDLE_ENTRY` (R402): no context of the cluster holds a thread. -/
def execClusterIdleEntry (s : State) : Out :=
  .next (if s.core.power = .run ∧ s.coreEmpty ∧ !(s.dev.others.any fun t => s.inCluster t.die t.core) then s.setCore { s.core with power := .idle } else s)

/-- What must have ended before a gating (R402). -/
def State.mayGate (s : State) : Bool :=
  s.core.power == .idle && s.core.copies.isEmpty && s.core.slots.isEmpty && s.core.drains.isEmpty
    && s.dev.recs.all fun r => r.place != s.place

/-- The cluster loses power: the scratchpad goes to its owner's image when a thread of the owner is pre-empted from the core (R205), the
banks return to their reset roles (R200, R402), dirty lines go to L2, and the TLBs are empty afterwards. -/
def State.gate (s : State) : State :=
  let s1 := match s.core.owner with
    | none => s
    | some o =>
      if s.core.saved.any fun c => c.sys.asid.toNat == o then
        let t := s.saveImage
        t.setCore { t.core with images := (o, t.core.spimg.toNat) :: t.core.images.filter fun i => i.1 != o }
      else s
  let s2 := s1.flushCore
  s2.setCore { s2.core with
    power := .gated
    banks := CoreRes.reset.banks
    spad := []
    spadBad := []
    owner := none
    tlb1 := []
    tlb2 := [] }

/-- `CLUSTER_GATE` (R402): once the trace buffer has drained (R344). -/
def execClusterGate (s : State) : Out := .next (if s.mayGate ∧ s.core.trace = [] then s.gate else s)

/-- Records that a buffer stands for: a loss record counts what it reports. -/
def lossOf (l : List TraceRec) : Nat := (l.map fun r => if r.kind = 0 then r.data.toNat else 1).foldl (· + ·) 0

/-- `TRACE_GATING_DRAIN_TIMEOUT` (R344): the records that remain are discarded and counted, and the gating proceeds. -/
def execTraceGatingDrainTimeout (s : State) : Out :=
  .next (
    if s.mayGate then
      (s.setCore { s.core with trace := [], loss := s.core.loss + lossOf s.core.trace }).gate
    else s)

/-! Clocks (R403). -/

/-- The point of a die: the lower of firmware's choice and the cap, and the steps down for temperature below it. -/
def Clocks.effective (c : Clocks) (die : Nat) : Nat :=
  min 8 (max (c.point.toList.getD die 0) (c.cap.toList.getD die 0) + c.heat.toList.getD die 0)

def State.setClocks (s : State) (c : Clocks) : State := s.setDev { s.dev with clocks := c }

/-- `THROTTLE` (R403): caps the point of a die. -/
def execThrottle (die : BitVec 2) (cap : Fin 9) (s : State) : Out :=
  .next (s.setClocks { s.dev.clocks with cap := s.dev.clocks.cap.setIfInBounds die.toNat cap.val })

/-- `THERMAL_STEP_DOWN` (R403): one point lower, down to the lowest. -/
def execThermalStepDown (die : BitVec 2) (s : State) : Out :=
  .next (s.setClocks { s.dev.clocks with
    heat := s.dev.clocks.heat.setIfInBounds die.toNat (min 8 (s.dev.clocks.heat.toList.getD die.toNat 0 + 1)) })

/-! The loss of a die (R376). -/

/-- Vector 1: `DIESTATE` has changed (R368). -/
def State.dieStateChange (s t : State) : State := if s.dev.dieState = t.dev.dieState then t else t.raise 1

/-- Launches whose completion word is homed on a lost die (R377). -/
def State.lostRecords (s : State) (die : Nat) : List Nat :=
  (s.dev.disp.launches.filter fun l =>
    match dispLoc (l.asid, l.ptbase) l.doneAddr.toNat .write { s with dev := { s.dev with lost := [] } } with
    | (.at (.mem pa _), _) => regionOf pa == .hbm die
    | _ => false).map (·.record)

/-- The list's own memory is homed on a die. -/
def State.listOn (s : State) (die : Nat) : Bool :=
  s.dev.disp.ready && (regionOf s.dev.disp.tail == .hbm die || regionOf s.dev.disp.cursor == .hbm die)

/-- LISTLOST and the affected launches in the failure log (R377). -/
def State.reportLost (s : State) (die : Nat) : State :=
  let l := s.lostRecords die ++ (if s.listOn die then [s.dev.disp.cursor] else [])
  l.foldl (fun s a => s.listLostAt a) s

/-- A context whose die is lost: its thread ends as failed at once (R322, R323). -/
def Ctx.lose (c : Ctx) : Ctx :=
  if c.thr.live || c.thr.ended.isSome then { (Ctx.reset c.id) with
    u := { UserRegs.start with coreid := c.u.coreid, dieid := c.u.dieid }
    sys := { SysRegs.reset with tvec := c.sys.tvec, fltq := c.sys.fltq }
    thr := { Thread.empty with ended := none, launch := c.thr.launch, lot := c.thr.lot } } else c

/-- Launch ids of the lots on the modelled core: resident, draining and pre-empted. -/
def State.lotsHere (s : State) : List Nat :=
  let on (c : Ctx) : List Nat := if c.thr.live || c.thr.ended.isSome then [c.thr.launch] else []
  on s.cur ++ (on s.oth ++ (s.core.drains ++ s.core.saved).map (·.thr.launch))

/-- One lot of a launch counted FAILED, and the launch finished when it was the last; a held completion word is written by the next
completion. -/
def State.failLot (s : State) (id : Nat) : State := (s.settleLot id true).getD (s.countLot id true)

/-- The lots on the modelled core count as FAILED, and the core has nothing left of them. -/
def State.loseCore (s : State) : State :=
  let ids := s.lotsHere
  let s1 := { s with
    cur := s.cur.lose
    oth := s.oth.lose
    core := { CoreRes.reset with stalls := s.core.stalls, energy := s.core.energy, corrected := s.core.corrected } }
  ids.foldl (fun s id => s.failLot id) s1

/-- Records of the fault service of the core's threads are gone with them. -/
def State.dropRecs (s : State) : State :=
  s.setDev { s.dev with recs := s.dev.recs.filter fun r => r.place != s.place }

/-- The lots on other cores of a die count as FAILED. -/
def State.loseAway (s : State) (die : Nat) : State :=
  let gone := s.dev.others.filter fun t => t.die == die
  let s1 := s.setDev { s.dev with others := s.dev.others.filter fun t => t.die != die }
  gone.foldl (fun s t => s.failLot t.launch) s1

/-- The caches of the modelled die discard the lines homed on a lost die; those of a lost die are gone (R376). -/
def State.loseLines (s : State) (die : Nat) : State :=
  let homed (c : CacheLine) : Bool := match regionOf (c.line * 128) with
    | .hbm d => d == die
    | _ => false
  (((s.cache.side ++ s.cache.l1 ++ s.cache.l2).filter fun c => s.die == die || homed c).map (·.line)).foldl (fun s l => s.discardLine l) s

/-- LOST with vector 1, and what stood in the memory of the die (R376, R377). -/
def State.markLost (s : State) (die : Nat) : State :=
  if s.dev.dieLost die then s
  else ((s.dieStateChange (s.setDev { s.dev with lost := die :: s.dev.lost })).reportLost die).loseLines die

/-- A die is lost (R376, R377): it is marked, and the lots on it count as FAILED. -/
def State.loseDie (s : State) (die : Nat) : State :=
  if s.dev.dieLost die then s
  else
    let s1 := (s.markLost die).loseAway die
    if s1.die = die then s1.loseCore.dropRecs else s1

/-- `DIELOST` (R404). -/
def execDielost (die : BitVec 2) (s : State) : Out := .next (s.loseDie die.toNat)

/-- `DIE_ANSWER_TIMEOUT` (R361). -/
def execDieAnswerTimeout (die : BitVec 2) (s : State) : Out := .next (s.loseDie die.toNat)

/-- A launch at a reset: its lots that have not completed count as FAILED, and FIN is written where the completion word survives (R404). A
replay ends with CODE 3 (R349). -/
def State.failLaunch (s : State) (l : Launch) : State :=
  if l.replay then
    (match s.dev.replay with
     | some r => s.replayStatus r.desc r.mismatch 3
     | none => s)
  else (s.writeDone (l.asid, l.ptbase) l.doneAddr l.record 0 l.ok (l.lots - l.ok) l.energy).getD s

/-- What a launch's end is written to stands in the far tier, and so survives every die. -/
def State.survives (s : State) (l : Launch) : Bool :=
  let far (pa : Nat) : Bool := match regionOf pa with
    | .far => true
    | _ => false
  if l.replay then s.dev.replay.any fun r => far r.desc
  else
    match doneLoc (l.asid, l.ptbase) l.doneAddr s with
    | (.at (.mem pa _), _) => far pa
    | _ => false

/-- Pilot ends the launches that no die's dispatcher can end any more; `lost` are the dies that are lost then (R322, R403). -/
def State.pilotEnds (s : State) (lost : List Nat) : State :=
  let s1 := s.setDev { s.dev with lost := [] }
  let s2 := s1.dev.disp.launches.foldl (fun s l => if s.survives l then s.failLaunch l else s) s1
  s2.setDev { s2.dev with lost := lost, disp := { s2.dev.disp with launches := [], ready := false } }

/-- Engines, migrations and the work of drained threads stop. -/
def State.stopEngines (s : State) : State :=
  (s.setCore { s.core with copies := [], slots := [] }).setDev { s.dev with mig := [] }

/-- `THERMAL_SHUTDOWN` (R403): every die is held in reset and lost. -/
def execThermalShutdown (s : State) : Out :=
  .next (
    let s1 := (List.range 4).foldl State.markLost s.stopEngines
    let s2 := (s1.pilotEnds s1.dev.lost).loseCore.dropRecs
    s2.setDev { s2.dev with
      others := []
      replay := none
      pilot := { s2.dev.pilot with held := true } })

/-! Die-to-die links (R360, R361). -/

/-- The dies of link 0-1, 0-2, 1-3 or 2-3. -/
def linkEnds (l : BitVec 2) : Nat × Nat :=
  match l with
  | 0 => (0, 1)
  | 1 => (0, 2)
  | 2 => (1, 3)
  | 3 => (2, 3)

/-- The links of a die. -/
def linksOf (die : Nat) : List Nat := (List.range 4).filter fun l =>
  let e := linkEnds (BitVec.ofNat 2 l)
  e.1 == die || e.2 == die

def State.setLinks (s : State) (l : Links) : State := s.setDev { s.dev with links := l }

/-- A number put into a list of numbers. -/
def insertNat (l : List Nat) (n : Nat) : List Nat := if l.contains n then l else n :: l

/-- The consecutive failures of the flit in one direction of a link: `back` is the direction to the lower die. -/
def Links.failed (k : Links) (link : Nat) (back : Bool) : Nat := k.fails.toList.getD (2 * link + back.toNat) 0
def Links.setFailed (k : Links) (link : Nat) (back : Bool) (n : Nat) : Links :=
  { k with fails := k.fails.setIfInBounds (2 * link + back.toNat) n }

/-- `LINK_FLIT_CRC_FAIL` (R360): the flit is resent; 16 consecutive failures on one flit ask for a retraining. -/
def execLinkFlitCrcFail (o : FlitArgs) (s : State) : Out :=
  .next (
    let k := s.dev.links
    let l := o.link.toNat
    let n := if o.again then k.failed l o.back + 1 else 1
    let k1 := k.setFailed l o.back n
    s.setLinks { k1 with retrain := if 16 ≤ n then insertNat k1.retrain l else k1.retrain })

/-- `LINK_RETRAIN` (R360): a retraining that succeeds; the counts start again. -/
def execLinkRetrain (link : BitVec 2) (s : State) : Out :=
  .next (
    let k := s.dev.links
    if k.retrain.contains link.toNat then
      let k1 := (k.setFailed link.toNat false 0).setFailed link.toNat true 0
      s.setLinks { k1 with retrain := k1.retrain.filter fun l => l != link.toNat }
    else s)

/-- `LINK_DOWN` (R361): a retraining that fails; a die with both of its links down is lost. -/
def execLinkDown (link : BitVec 2) (s : State) : Out :=
  .next (
    let k := s.dev.links
    if !k.retrain.contains link.toNat then s
    else
      let k1 := { k with
        down := insertNat k.down link.toNat
        retrain := k.retrain.filter fun l => l != link.toNat }
      let s1 := s.dieStateChange (s.setLinks k1)
      let e := linkEnds link
      [e.1, e.2].foldl (fun s d => if (linksOf d).all fun l => k1.down.contains l then s.loseDie d else s) s1)

/-! UCIe modules (R362) and UALink ports (R369). -/

/-- `UCIE_MODULE_DOWN` (R362). -/
def execUcieModuleDown (die : BitVec 2) (s : State) : Out :=
  .next (s.dieStateChange (s.setLinks { s.dev.links with modDown := insertNat s.dev.links.modDown die.toNat }))

/-- `UCIE_WIDTH_DEGRADE` (R362): the module goes on with 32 lanes. -/
def execUcieWidthDegrade (die : BitVec 2) (s : State) : Out :=
  .next (s.setLinks { s.dev.links with narrow := insertNat s.dev.links.narrow die.toNat })

/-- `UCIE_LANE_REPAIR` (R362). -/
def execUcieLaneRepair (die : BitVec 2) (s : State) : Out :=
  .next (
    let k := s.dev.links
    s.setLinks { k with repairs := k.repairs.setIfInBounds die.toNat (k.repairs.toList.getD die.toNat 0 + 1) })

/-- `UCIE_L1_ENTRY` (R362). -/
def execUcieL1Entry (die : BitVec 2) (s : State) : Out :=
  .next (
    if s.dev.links.modDown.contains die.toNat then s
    else s.setLinks { s.dev.links with asleep := insertNat s.dev.links.asleep die.toNat })

/-- `UCIE_L1_EXIT` (R362). -/
def execUcieL1Exit (die : BitVec 2) (s : State) : Out :=
  .next (s.setLinks { s.dev.links with asleep := s.dev.links.asleep.filter fun d => d != die.toNat })

/-- `UALINK_PORT_DOWN` (R369). -/
def execUalinkPortDown (port : Fin 12) (s : State) : Out :=
  .next (s.dieStateChange (s.setLinks { s.dev.links with portDown := insertNat s.dev.links.portDown port.val }))

end Sys2Proof.Machine
end

