-- ==== Sys2Proof/Machine/HostIo.lean ====
section
/-! DEFINITION. The host's accesses through CXL (R234, R363, R364), what peers do through UALink (R369-R371, R373), and the host's accesses
to the control window (R333, R366, R368). An access to a line that an engine owns waits: the step changes nothing (R253). While the dies
are held in reset nothing answers (R399). -/

namespace Sys2Proof.Machine

/-- An answer to an outside agent. -/
def State.answerHost (s : State) (bs : List Byte) (bad : Bool) : State :=
  s.setDev { s.dev with reply := bs, replyBad := bad }

/-- Device physical addresses that the host and peers reach: the HBM range with its holes (R356, R363). -/
def hostRange (a n : Nat) : Bool := decide (a + n ≤ 0x10000000000)

/-- A piece within one line that no memory answers: a hole, or a line of a lost die (R363, R376). -/
def State.noMemory (s : State) (a : Nat) : Bool :=
  match regionOf a with
  | .hbm d => s.dev.dieLost d
  | .far => false
  | _ => true

/-- An engine owns a line of the range. -/
def State.rangeHeld (s : State) (a n : Nat) : Bool :=
  (rangePieces (BitVec.ofNat 64 a) n).any fun p => s.lineHeld (p.1 / 128)

/-- A line of the range is poisoned or answers with poison. -/
def State.rangeBad (s : State) (a n : Nat) : Bool :=
  (rangePieces (BitVec.ofNat 64 a) n).any fun p => s.noMemory p.1 || (s.badLine p.1 p.2).isSome

/-- Reading from outside. -/
def State.outsideRead (s : State) (a n : Nat) : State :=
  if s.rangeHeld a n then s else s.answerHost (s.mem.readN a n) (s.rangeBad a n)

/-- Writing the pieces of a range, once the caches of the device have given the lines up (R206, R364); what no memory takes is discarded. -/
def putPieces : List (Nat × Nat) → List Byte → State → State
  | [], _, s => s
  | (a, n) :: ps, bs, s => putPieces ps (bs.drop n) (if s.noMemory a then s else (s.recall [a / 128]).putMem a (bs.take n))

/-- Lines of HBM that the pieces of a range touch. -/
def State.rangeLines (s : State) (a n : Nat) : List Nat :=
  ((rangePieces (BitVec.ofNat 64 a) n).filter fun p => !s.noMemory p.1).map fun p => p.1 / 128

/-- Writing from outside; data that arrives with the poison marker poisons the lines that it is written to (R373). -/
def State.outsideWrite (s : State) (a : Nat) (bs : List Byte) (bad : Bool) : State :=
  if s.rangeHeld a bs.length then s
  else
    let t := putPieces (rangePieces (BitVec.ofNat 64 a) bs.length) bs s
    if bad then (s.rangeLines a bs.length).foldl State.poisonLine t else t

/-- The home die records that the host may hold the lines of a range (R364). -/
def State.hostTakes (s : State) (a n : Nat) (written : Bool) : State :=
  if s.rangeHeld a n then s else s.setCache ((s.rangeLines a n).foldl (fun c l => c.toHost l written) s.cache)

/-- The new value of an atomic on n bytes, none where nothing is written; min and max are signed, as those of R182 (DEDUCED). -/
def rmwResult (op : RmwOp) (n old v : Nat) : Option Nat :=
  match op with
  | .add => some ((old + v) % 2 ^ (8 * n))
  | .swap => some v
  | .and => some (old &&& v)
  | .or => some (old ||| v)
  | .min => some (if signedOf n v < signedOf n old then v else old)
  | .max => some (if signedOf n old < signedOf n v then v else old)
  | .cas e => if old = e.toNat % 2 ^ (8 * n) then some v else none
  | .binc => bincNew old v

/-- An atomic read-modify-write from outside on 4 or 8 aligned bytes (R183, R234); poison is returned and not consumed. -/
def State.outsideRmw (s : State) (a : Nat) (op : RmwOp) (wide : Bool) (v : Word) : State :=
  let n := if wide then 8 else 4
  if a % n ≠ 0 ∨ s.lineHeld (a / 128) then s
  else
    let old := s.mem.readVal a n
    let s1 := if s.rangeBad a n then s
      else match rmwResult op n old (v.toNat % 2 ^ (8 * n)) with
        | some w => (s.recall [a / 128]).putMem a (leBytes n w)
        | none => s
    s1.answerHost (leBytes n old) (s.rangeBad a n)

/-! BAR0 (R363): the control window as the host reaches it. -/

/-- The host's read of the window; reading `LSTAT` clears BADDONE (R367). -/
def State.hostWindowRead (s : State) (o n : Nat) : State :=
  if windowPoison o n then s.answerHost (List.replicate n 0) true
  else
    let r := windowRead s o n
    let s1 := r.2.answerHost r.1 false
    if o = 8 then s1.setDev { s1.dev with disp := { s1.dev.disp with badDone := false } } else s1

/-- `HOST_CXL_MEM_READ` (R234, R363, R366). -/
def execHostCxlMemRead (a n : Nat) (s : State) : Out :=
  .next (
    if s.hostSilent then s
    else match regionOf a with
      | .window o => s.hostWindowRead o n
      | _ => if hostRange a n then (s.outsideRead a n).hostTakes a n false else s)

/-- `HOST_CXL_MEM_WRITE` (R234, R363, R366). Poisoned data is not taken by a register of the window, which would consume it (R321; DESIGN CHOICE,
log entry 31). -/
def execHostCxlMemWrite (a : Nat) (d : WriteData) (s : State) : Out :=
  .next (
    if s.hostSilent then s
    else match regionOf a with
      | .window o => if d.bad then s else windowWrite s o d.bytes
      | _ => if hostRange a d.bytes.length then (s.outsideWrite a d.bytes d.bad).hostTakes a d.bytes.length true else s)

/-- `HOST_ATOMIC` (R234, R364). -/
def execHostAtomic (a : Nat) (op : RmwOp) (wide : Bool) (v : Word) (s : State) : Out :=
  .next (if s.hostSilent || !hostRange a 8 then s else s.outsideRmw a op wide v)

/-- The host takes a line of the far tier, its own memory, for writing: no cache of the device holds it any more, and the line is what the host
writes (R209, R363). -/
def State.hostLine (s : State) (line : Nat) (d : WriteData) : State :=
  let t := (s.recall [line]).putMem (line * 128) (d.bytes.take 128)
  if d.bad then t.poisonLine line else t

/-- `HOST_SNOOP` (R209, R363): the answer is the far-tier line as the device has it. -/
def execHostSnoop (o : SnoopArgs) (s : State) : Out :=
  .next (
    if s.hostSilent then s
    else match regionOf o.addr with
      | .far =>
        let line := o.addr / 128
        let t := s.outsideRead (line * 128) 128
        if s.lineHeld line then s else match o.take with
          | none => t
          | some d => t.hostLine line d
      | _ => s)

/-- The device is on the fabric: it has an id and a port is up (R369). -/
def Device.onFabric (d : Device) : Bool := d.ualId.isSome && (List.range 12).any fun p => !d.links.portDown.contains p

/-- Sizes that UALink carries (R369). -/
def peerSize (n : Nat) : Bool := decide (8 ≤ n ∧ n ≤ 128)

/-- A combination that a peer's copy asks of this device: the copy engine of the home die performs it, in one step (R371). A poisoned source element
leaves a poisoned destination (R321, R373). -/
def State.peerCombine (s : State) (a red : Nat) (t : Tag) (bs : List Byte) (bad : Bool) : State :=
  let n := bs.length
  if !redFormat red t n ∨ s.rangeHeld a n ∨ s.rangeBad a n then s
  else if bad then (s.rangeLines a n).foldl State.poisonLine (s.recall (s.rangeLines a n))
  else putPieces (rangePieces (BitVec.ofNat 64 a) n) (leBytes n (combine red t (8 * n) (s.mem.readVal a n) (Memory.leVal bs)).1) s

/-- A peer's request (R369-R371). -/
def State.peerAsks (s : State) : PeerArgs → State
  | .read a n => if hostRange a n && peerSize n then s.outsideRead a n else s
  | .write a bs bad => if hostRange a bs.length && peerSize bs.length then s.outsideWrite a bs bad else s
  | .rmw a op wide v => if hostRange a 8 then s.outsideRmw a op wide v else s
  | .combine a red fmt bs bad => if hostRange a bs.length then s.peerCombine a red fmt bs bad else s
  | .present _ _ _ _ | .ownWrite _ _ _ => s

/-- Lines that n bytes from a on touch, put into a list of lines. -/
def addLines (l : List Nat) (a n : Nat) : List Nat :=
  (rangePieces (BitVec.ofNat 64 a) n).foldl (fun l p => if l.contains (p.1 / 128) then l else p.1 / 128 :: l) l

/-- What does not come through this device's fabric: that a peer is there, and what it writes into its own memory (R369, R370, R373). -/
def State.peerActs (s : State) : PeerArgs → State
  | .present id phizon refuses ports =>
    s.setDev { s.dev with
      peers := ⟨id.toNat, phizon, refuses, ports.map (·.val)⟩ :: s.dev.peers.filter fun q => q.id != id.toNat }
  | .ownWrite a bs bad =>
    match regionOf a with
    | .peer _ =>
      if s.rangeHeld a bs.length then s
      else
        let s1 := peerWrite s a bs
        s1.setDev { s1.dev with peerBad := if bad then addLines s1.dev.peerBad a bs.length else s1.dev.peerBad }
    | _ => s
  | _ => s

/-- `PEER_REQUEST` (R370). -/
def execPeerRequest (o : PeerArgs) (s : State) : Out :=
  .next (
    let s := s.peerActs o
    if s.dev.pilot.held || !s.dev.onFabric then s else s.peerAsks o)

/-- `CONTROL_WINDOW_WRITE` (R366, R368). -/
def execControlWindowWrite (off : Nat) (bs : List Byte) (s : State) : Out :=
  .next (if s.hostSilent then s else windowWrite s off bs)

/-- `KWCMD_UNLOCK` (R333, R368). -/
def execKwcmdUnlock (s : State) : Out := .next (if s.hostSilent then s else s.unlock)

/-- `KWCMD_LOCK` (R368). -/
def execKwcmdLock (s : State) : Out := .next (if s.hostSilent then s else s.lock)

end Sys2Proof.Machine
end

