-- ==== Sys2Proof/Machine/Measure.lean ====
section
/-! DEFINITION. What a clock cycle brings: `cycle`, the stall and programmable counters, the pair table and the energy counter (R98,
R345-R348, R405); and bit errors (R320). -/

namespace Sys2Proof.Machine

/-- `cycle` advances while the thread is resident and not saved (R98). -/
def Ctx.cycleOn (c : Ctx) : Ctx :=
  if c.thr.live && !c.thr.saved then { c with u := { c.u with cycle := c.u.cycle + 1 } } else c

/-- The lowest-numbered of eight causes (R345). -/
def lowestCause (b : BitVec 8) : Option Nat := (List.range 8).find? fun c => b.getLsbD c

/-- The stall counters of one cycle: at most one per engine (R345). -/
def addStalls (v : Vector Word 80) (causes : List (BitVec 8)) : Vector Word 80 :=
  (List.range 10).foldl (fun v e =>
    match lowestCause (causes.getD e 0) with
    | none => v
    | some c => v.setIfInBounds (8 * e + c) (v.toList.getD (8 * e + c) 0 + 1)) v

/-- Times that an event of R346 occurs in a cycle: 0x50 once, 0x56 and above never; 0x51 is counted where an instruction retires, 0x52 and 0x53 where
the lanes run. -/
def eventCount (evs : List (BitVec 8)) (e : BitVec 8) : Nat :=
  if e = 0x50 then 1 else if e = 0x51 ∨ e = 0x52 ∨ e = 0x53 ∨ 0x56 ≤ e.toNat then 0 else evs.count e

/-- The programmable counters of a context, while its thread is resident (R346). -/
def Ctx.countEvents (c : Ctx) (evs : List (BitVec 8)) : Ctx :=
  if !c.thr.live || c.thr.saved then c
  else
    { c with dbg := { c.dbg with
      pmcnt := Vector.ofFn fun (k : Fin 4) =>
        let sel := c.dbg.pmsel[k]
        if c.dbg.counts c.sys.mode k then c.dbg.pmcnt[k] + BitVec.ofNat 64 (eventCount evs (sel.setWidth 8)) else c.dbg.pmcnt[k] } }

/-! The pair table (R347). -/

/-- One more lost cycle of a pair. -/
def PairRec.charge (p : PairRec) (lag : BitVec 32) : PairRec :=
  { p with lost := p.lost + 1, last := lag, most := if p.most.toNat < lag.toNat then lag else p.most }

def PairRec.names (p : PairRec) (c : PairCharge) : Bool := p.prod == c.prod && p.cons == c.cons

/-- Entries of the pair table. -/
def pairRoom : Nat := 32

/-- The lowest index of the entry with the fewest lost cycles. -/
def fewest : List PairRec → Nat
  | [] => 0
  | p :: ps =>
    match ps[fewest ps]? with
    | none => 0
    | some q => if p.lost.toNat ≤ q.lost.toNat then 0 else fewest ps + 1

/-- A pair outside the table, with its own count: it enters a table with an empty entry, or replaces the entry with the fewest lost
cycles once its count exceeds that entry's; the pair that leaves keeps its count outside (DEDUCED). -/
def enterPair (c : CoreRes) (p : PairRec) : CoreRes :=
  let rest := c.shadow.filter fun q => !(q.prod == p.prod && q.cons == p.cons)
  if c.pairs.length < pairRoom then { c with pairs := c.pairs ++ [p], shadow := rest }
  else
    let k := fewest c.pairs
    match c.pairs[k]? with
    | none => c
    | some q =>
      if q.lost.toNat < p.lost.toNat then { c with pairs := c.pairs.set k p, shadow := q :: rest }
      else { c with shadow := p :: rest }

/-- One charge. -/
def chargePair (c : CoreRes) (g : PairCharge) : CoreRes :=
  if c.pairs.any (·.names g) then
    { c with pairs := c.pairs.map fun p => if p.names g then p.charge g.lag else p }
  else enterPair c (((c.shadow.find? (·.names g)).getD ⟨g.prod, g.cons, 0, 0, 0⟩).charge g.lag)

/-- The parts of a cycle that the core shares. -/
def CoreRes.cycleOn (c : CoreRes) (o : CycleArgs) : CoreRes :=
  let c1 := o.charges.foldl chargePair c
  { c1 with stalls := addStalls c1.stalls o.causes }

/-- A cycle of one context. -/
def Ctx.oneCycle (c : Ctx) (o : CycleArgs) : Ctx := (c.cycleOn).countEvents (if c.id then o.ev1 else o.ev0)

/-! Energy (R405). -/

/-- Energy charged to launches, by id. -/
def State.chargeAll (s : State) (l : List (Nat × Nat)) : State :=
  s.setLaunches (s.dev.disp.launches.map fun j => { j with energy := j.energy + ((l.filter (·.1 == j.id)).map (·.2)).foldl (· + ·) 0 })

/-- The launch of a thread, wherever it is: resident, ended and not complete, run ahead of, saved, or on another core. -/
def State.launchOf (s : State) (tid : Word) : Option Nat :=
  match (s.cur :: s.oth :: (s.core.drains ++ s.core.saved)).find? fun c => (c.thr.live || c.thr.ended.isSome) && c.u.tid == tid with
  | some c => some c.thr.launch
  | none => (s.dev.others.find? fun t => t.tid == tid).map (·.launch)

/-- Work, by the launches of its threads; what firmware cores use has no thread. -/
def State.workCharges (s : State) (l : List (Word × Nat)) : List (Nat × Nat) :=
  l.filterMap fun w => (s.launchOf w.1).map fun id => (id, w.2)

/-- Leakage of the core: charged to the resident thread, and shared between the contexts when both hold one. -/
def State.leakCharges (s : State) (n : Nat) : List (Nat × Nat) :=
  match s.cur.thr.live, s.oth.thr.live with
  | true, true => [(s.cur.thr.launch, n - n / 2), (s.oth.thr.launch, n / 2)]
  | true, false => [(s.cur.thr.launch, n)]
  | false, true => [(s.oth.thr.launch, n)]
  | false, false => []

/-- A die's energy, in proportion to the lines that each launch moved. -/
def DieEnergy.charges (d : DieEnergy) : List (Nat × Nat) :=
  let total := (d.lines.map (·.2)).foldl (· + ·) 0
  d.lines.map fun l => (l.1, d.used * l.2 / total)

/-- What is measured: the cluster's counter, and the launches' charges. -/
def State.meter (s : State) (e : EnergyArgs) : State :=
  (s.setCore { s.core with energy := s.core.energy + e.cluster }).chargeAll
    (s.workCharges e.work ++ s.leakCharges e.leak ++ (e.dies.map DieEnergy.charges).flatten)

/-- Firmware selects the clock point of a die (R403); it runs once the device has booted. -/
def State.select (s : State) : Option (BitVec 2 × Fin 9) → State
  | none => s
  | some (die, p) =>
    if s.dev.pilot.held then s
    else s.setDev { s.dev with clocks := { s.dev.clocks with point := s.dev.clocks.point.setIfInBounds die.toNat p.val } }

/-- What a clock edge moves in the core; an idle or gated cluster has no clock (R402). -/
def State.clock (s : State) (o : CycleArgs) : State :=
  if s.core.power = .run then ((s.setCur (s.cur.oneCycle o)).setOth (s.oth.oneCycle o)).setCore (s.core.cycleOn o) else s

/-- `CORE_CYCLE` (R98, R345-R347, R403, R405): the clock stands still in a cluster that is idle or gated (R402), energy is measured there too. -/
def execCoreCycle (o : CycleArgs) (s : State) : Out := .next (((s.select o.point).meter o.energy).clock o)

/-- `PAIR_TABLE_CLEAR` (R348). -/
def execPairTableClear (s : State) : Out := .next s.clearPairs

/-! Bit errors. -/

/-- A bit of a word set. -/
def markBit (w : Word) (n : Nat) : Word := w ||| (1#64 <<< n)

/-- An item becomes poisoned (R320). -/
def State.poisonItem (s : State) : EccItem → State
  | .line addr => s.poisonLine (addr / 128)
  | .x c r => s.onCtx c fun s =>
    if r = 0 then s else s.setPoison { s.cur.poison with x := markBit s.cur.poison.x r.toNat }
  | .v c r => s.onCtx c fun s => s.setPoison { s.cur.poison with v := markBit s.cur.poison.v r.toNat }
  | .m c r => s.onCtx c fun s => s.setPoison { s.cur.poison with m := markBit s.cur.poison.m r.toNat }
  | .tile c n => s.onCtx c fun s => s.setPoison { s.cur.poison with ac := markBit s.cur.poison.ac n.toNat }
  | .keyed _ slot =>
    if (s.core.keyed.any fun k => k.slot == slot) && !s.core.keyedBad.contains slot then
      s.setCore { s.core with keyedBad := slot :: s.core.keyedBad }
    else s
  | .spad k =>
    if s.core.spadBad.contains (k / 128) then s else s.setCore { s.core with spadBad := (k / 128) :: s.core.spadBad }
  | .lane _ n => s.setCore { s.core with lanesBad := markBit s.core.lanesBad n.toNat }

/-- `ECC_ERROR` (R320): corrected in place and counted, or the item is poisoned. -/
def execEccError (o : EccArgs) (s : State) : Out :=
  .next (
    if o.correctable then s.setCore { s.core with corrected := s.core.corrected + 1 }
    else s.poisonItem o.item)

end Sys2Proof.Machine
end

