-- ==== Sys2Proof/Machine/Replay.lean ====
section
/-! DEFINITION. Replay measurement (R349-R351). The descriptor and the save area are physical memory. -/

namespace Sys2Proof.Machine

/-- Doubleword k of a replay descriptor (R349). -/
def State.replayWord (s : State) (desc k : Nat) : Nat := s.mem.readVal (desc + 8 * k) 8

/-- PASSES, SAVE and the zero fields of a descriptor are as R349 says. -/
def State.replayDescOk (s : State) (desc : Nat) : Bool :=
  decide (1 ≤ s.replayWord desc 2 ∧ s.replayWord desc 2 ≤ 16) && s.replayWord desc 3 % 65536 == 0 && s.replayWord desc 6 == 0
    && s.replayWord desc 7 == 0

/-- A pass starts: the caches of the die and the TLBs are empty (log entry 41), and the lot's thread is on the current context (R350). -/
def State.startPass (s : State) (l : Launch) (r : Replay) : State :=
  let s1 := s.setDev { s.dev with replay := some { r with got := [] } }
  let s2 := (s1.setCore { s1.core with tlb1 := [], tlb2 := [] }).flushDie
  s2.startThread l r.lot r.tid r.sp s2.cur.sys.ctxarea

/-- The request is no longer waiting. -/
def State.takeRequest (s : State) (a : Word) : State :=
  s.setDev { s.dev with win := { s.dev.win with requests := s.dev.win.requests.erase a } }

/-- The lot of a descriptor starts on a core whose contexts are free; the stack area and thread id are the dispatcher's (free values). -/
def State.beginReplay (s : State) (desc : Nat) (l : Launch) : State :=
  let p := s.pick (2 ^ 52)
  let q := p.2.pick (2 ^ 64)
  let d := q.2.dev.disp
  let l := { l with id := d.nextId, replay := true, waiting := [] }
  let s1 := q.2.setDisp { d with launches := d.launches ++ [l], nextId := d.nextId + 1 }
  let r : Replay :=
    { desc := desc, launch := l.id, lot := s.replayWord desc 1, passes := s.replayWord desc 2, pass := 0, save := s.replayWord desc 3,
      pages := s.replayWord desc 4, got := [], full := false, hash0 := 0, mismatch := false, sp := BitVec.ofNat 64 p.1,
      tid := BitVec.ofNat 64 q.1 }
  (s1.ownBy l.asid s1.core.spimg).startPass l r

/-- Nothing runs on the core or on the other cores of its cluster. -/
def State.clusterFree (s : State) : Bool :=
  s.cur.isFree && s.oth.isFree && s.core.drains.isEmpty && s.core.copies.isEmpty && s.core.slots.isEmpty
    && !s.dev.others.any fun t => s.inCluster t.die t.core

/-- The replay of a descriptor: refused with CODE 1, or begun; it waits while its core is not free, its code is not translated or a line
is held. -/
def State.startReplay (s : State) (a : Word) : State :=
  let desc := a.toNat
  let ready := s.dev.disp.ready && s.dev.replay.isNone && s.clusterFree
  if !ready then s
  else if desc % 64 ≠ 0 then s.takeRequest a
  else
    let refuse (s : State) : State := (s.replayStatus desc false 1).takeRequest a
    let r := readLaunch s (s.replayWord desc 0)
    if !s.replayDescOk desc then refuse s
    else
      match r.space s.dev.disp with
      | none => refuse s
      | some sp =>
        match checkLaunch sp r s with
        | (.error none, _) => s
        | (.error (some _), s1) => refuse s1
        | (.ok l, s1) =>
          if l.coop || decide (l.lots ≤ s.replayWord desc 1) then refuse s1
          else if !l.mayUse s1 (s.replayWord desc 1) s1.die then s
          else
            let f := findCode l s1
            if f.1.galys.isSome then f.2 else (f.2.beginReplay desc f.1).takeRequest a

/-- `REPLAY_START` (R349): the lot runs on context 0. -/
def execReplayStart (a : Word) (s : State) : Out := .next (s.onCtx false fun s => s.startReplay a)

/-! The end of a pass. -/

/-- The record of the pass (R349, R351). -/
def State.passRecord (s : State) (r : Replay) (cycles mj : Word) : State :=
  s.putMem (r.desc + 0x40 + 32 * r.pass)
    (leBytes 8 cycles.toNat ++ leBytes 8 s.cur.u.instret.toNat ++ leBytes 8 mj.toNat ++ leBytes 8 s.cur.thr.hash.toNat)

/-- The captured pages restored from the save area, with their poison (R350, R373). -/
def restorePages (save : Nat) : Nat → List (Bool × Nat) → State → State
  | _, [], s => s
  | k, (spad, page) :: rest, s =>
    let a := save / 2 ^ 16 + k
    restorePages save (k + 1) rest
      (s.putPage spad page (s.physBytes (a * 2 ^ 16) (2 ^ 16)) fun j => s.lineBad false (a * 512 + j))

/-- The captured pages of a pass restored, with no line of them in a cache. -/
def State.restored (s : State) (r : Replay) : State := restorePages r.save 0 r.got s.flushDie

/-- The replay is over. -/
def State.endReplay (s : State) (r : Replay) (mismatch : Bool) (code : Nat) : State :=
  let s1 := s.setLaunches (s.dev.disp.launches.filter fun l => l.id != r.launch)
  let s2 := (s1.setDev { s1.dev with replay := none }).setThr Thread.empty
  s2.replayStatus r.desc mismatch code

/-- A pass that needs more pages than SAVEPAGES: its thread, the entries of its queue and its engines stop, and the pages are restored
(R350). -/
def State.stopPass (s : State) (r : Replay) : State :=
  let s0 := (s.setCore (s.core.dropUnits s.cur.id)).dropExt
  let s1 := if s.cur.thr.live then s.endThread true else s0.setCur { s0.cur with viq := [] }
  let s2 := s1.setCore { s1.core with
    copies := s1.core.copies.filter fun c => !c.mine s1
    slots := s1.core.slots.filter fun p => !p.mine s1 }
  (s2.restored r).endReplay r r.mismatch 2

/-- A pass whose thread has ended. -/
def State.passDone (s : State) (r : Replay) (failed : Bool) (cycles mj : Word) : State :=
  let hash := s.cur.thr.hash
  let r1 := if r.pass = 0 then { r with hash0 := hash } else { r with mismatch := r.mismatch || hash != r.hash0 }
  let s1 := s.passRecord r cycles mj
  if failed then s1.endReplay r1 r1.mismatch 3
  else if r.passes ≤ r.pass + 1 then s1.endReplay r1 r1.mismatch 0
  else
    match s.launch r.launch with
    | none => s1.endReplay r1 r1.mismatch 3
    | some l => (s1.restored r).startPass l { r1 with pass := r.pass + 1 }

/-- `REPLAY_PASS_END` (R350). -/
def execReplayPassEnd (cycles mj : Word) (s : State) : Out :=
  .next (s.onCtx false fun s =>
    match s.dev.replay with
    | none => s
    | some r =>
      if r.full then s.stopPass r
      else
        match s.cur.thr.ended with
        | none => s
        | some failed => if s.enginesBusy || !s.cur.viq.isEmpty then s else s.passDone r failed cycles mj)

end Sys2Proof.Machine
end

