-- ==== Sys2Proof/Machine/Translator.lean ====
section
/-! DEFINITION. The translator: finished translations (R390), the translation store in flash (R390-R392), and decode tables (R385). -/

namespace Sys2Proof.Machine

/-- Erase blocks of the store: 28 GiB in blocks of 16 MiB (R390, R391). -/
def storeBlocks : Nat := 1792
def blockBytes : Nat := 2 ^ 24
/-- Erases after which a block is retired (R391). -/
def eraseLimit : Nat := 3000

/-- Bytes of a block in use: each entry has its code, its key, its length and its digest (R392; 128 bytes, DESIGN CHOICE). -/
def FlashBlock.fill (b : FlashBlock) : Nat := (b.entries.map fun e => e.code.length + 128).foldl (· + ·) 0

/-- The lowest block number that is not in the list. -/
def newBlockId (l : List FlashBlock) : Option Nat := (List.range storeBlocks).find? fun n => !l.any fun b => b.id == n

/-- The erased block with the fewest erases. -/
def erasedBlock (l : List FlashBlock) : Option FlashBlock :=
  (l.filter fun b => b.entries.isEmpty && !b.retired).foldl (fun best b =>
    match best with
    | none => some b
    | some c => if b.erases < c.erases then some b else best) none

/-- An entry at the append point, which is the first block of the list, or in the next free block (R391). -/
def appendEntry (l : List FlashBlock) (e : Translation) : List FlashBlock :=
  let fresh : List FlashBlock :=
    match newBlockId l, erasedBlock l with
    | some n, _ => { id := n, erases := 0, retired := false, entries := [e] } :: l
    | none, some b => { b with entries := [e] } :: l.filter fun c => c.id != b.id
    | none, none => l
  match l with
  | [] => fresh
  | b :: rest =>
    if !b.retired && decide (b.fill + e.code.length + 128 ≤ blockBytes) then { b with entries := b.entries ++ [e] } :: rest
    else fresh

/-- The launches that wait for a key go on with its code. -/
def State.wakeJobs (s : State) (j : GalysJob) (addr n : Nat) : State :=
  s.dev.disp.launches.foldl (fun s l =>
    if l.galys.any fun k => k.digest == j.digest && k.rev == j.rev then
      let r := s.giveCode addr n l
      r.2.updLaunch l.id fun _ => r.1
    else s) s

/-- A place for n bytes of code and their tables: in the HBM of a die that is there, and on no other translation or word of the launch list. What
else firmware owns is its own matter (DESIGN CHOICE, log entry 32). -/
def State.placeOk (s : State) (addr n : Nat) : Bool :=
  let hi := codeEnd addr n
  let clear (a m : Nat) : Bool := decide (hi ≤ a ∨ a + m ≤ addr)
  let inDie : Bool := match regionOf addr with
    | .hbm d => regionOf (hi - 1) == .hbm d && !s.dev.dieLost d
    | _ => false
  addr % 65536 == 0 && inDie && clear s.dev.disp.tail 8 && clear s.dev.disp.cursor 128
    && s.dev.store.cache.all fun c => clear c.1 (codeEnd c.1 c.2.code.length - c.1)

/-- `GALYS_TRANSLATION_DONE` (R389, R390): the code is placed and cached; a translation is stored under the revision at its start. A key whose
entry the store has is not translated again. -/
def execGalysTranslationDone (o : TranslationArgs) (s : State) : Out :=
  .next (
    let t := s.dev.store
    match t.busy.find? fun b => b.digest == o.digest && b.rev == o.rev with
    | none => s
    | some j =>
      let e : Translation := { digest := j.digest, rev := j.rev, code := galysCode j.text, whole := true, lastUse := t.tick, used := true }
      let kept := if j.rev = t.rev then t.stored j.digest else none
      let code := (kept.getD e).code
      if !s.placeOk o.addr code.length then s
      else
        let t1 := if kept.isSome then t.touch j.digest else { t with blocks := appendEntry t.blocks e, tick := t.tick + 1 }
        let s1 := s.setStore { t1 with cache := (o.addr, kept.getD e) :: t1.cache, busy := t.busy.filter fun c => c != j }
        ((s1.wakeJobs j o.addr code.length).putMem o.addr code).putMem (o.addr + codePages code.length * 65536)
          (codeTables o.addr code.length))

/-! Reclaiming (R391). -/

/-- Free blocks. -/
def TransStore.freeBlocks (t : TransStore) : Nat :=
  storeBlocks - (t.blocks.filter fun b => b.retired || !b.entries.isEmpty).length

/-- The newest last use of a block. -/
def FlashBlock.newest (b : FlashBlock) : Nat := (b.entries.map (·.lastUse)).foldl max 0

/-- The block to reclaim, other than the append point: the oldest newest use, then the fewest erases. -/
def TransStore.oldest (t : TransStore) : Option FlashBlock :=
  (t.blocks.tail.filter fun b => !b.retired && !b.entries.isEmpty).foldl (fun best b =>
    match best with
    | none => some b
    | some c => if b.newest < c.newest ∨ (b.newest = c.newest ∧ b.erases < c.erases) then some b else best) none

/-- A block after an erase. -/
def FlashBlock.erase (b : FlashBlock) : FlashBlock :=
  { b with entries := [], erases := b.erases + 1, retired := decide (eraseLimit ≤ b.erases + 1) }

/-- `TRANSLATION_STORE_RECLAIM` (R391): when fewer than 2 % of the blocks are free. -/
def execTranslationStoreReclaim (s : State) : Out :=
  .next (
    let t := s.dev.store
    if 2 * storeBlocks ≤ 100 * t.freeBlocks then s
    else
      match t.oldest with
      | none => s
      | some b =>
        let kept := (b.entries.filter (·.used)).foldl appendEntry t.blocks
        s.setStore { t with blocks := kept.map fun c => if c.id = b.id then c.erase else c })

/-- The index rebuilt at power-up: entries whose digest fails are dropped (R392). -/
def TransStore.rebuild (t : TransStore) : TransStore :=
  { t with
    cache := []
    busy := []
    blocks := t.blocks.map fun b => { b with entries := b.entries.filter (·.whole) } }

/-! Decode tables (R385). -/

/-- A signed image that Pilot lets in: its signature over its SM3 digest, and its security version (R399). -/
def Pilot.accepts (p : Pilot) (i : FlashImage) : Bool :=
  Config.sm2Verify p.rootKey (Config.sm3 i.bytes) i.signature && decide (p.rollback ≤ i.version)

/-- A table is loaded: the revision grows. -/
def TransStore.load (t : TransStore) (table : Option FlashImage) : TransStore := { t with rev := t.rev + 1, table := table }

/-- The load at boot (R399): firmware gives the revision (R385), and keeps that of the table that it stands for, so that the store outlives a
power cycle (R392; DEDUCED, log entry 32). -/
def TransStore.boot (t : TransStore) (table : Option FlashImage) : TransStore := if t.table = table then t else t.load table

/-- `DECODE_TABLE_LOAD` (R385): the table that flash holds, if its signed image passes, and only while no kernel thread is resident. Entries of
another revision are never returned again (R392). -/
def execDecodeTableLoad (s : State) : Out :=
  .next (
    if s.coreEmpty && s.core.drains.isEmpty && s.dev.others.isEmpty && !s.dev.pilot.held && s.dev.pilot.decode.any s.dev.pilot.accepts then
      s.setStore (s.dev.store.load s.dev.pilot.decode)
    else s)

end Sys2Proof.Machine
end

