-- ==== Sys2Proof/Machine/Pilot.lean ====
section
/-! DEFINITION. The Pilot controller: resets (R404), the loss of the main supply (R392), boot (R399), the controls of the Jartur vendor type
(R401, R404), and its services over MCTP, PLDM and SPDM (R397, R400). The formats of answers are the model's (log entry 30). -/

namespace Sys2Proof.Machine

def State.setPilot (s : State) (p : Pilot) : State := s.setDev { s.dev with pilot := p }

/-- An answer over the Pilot port. -/
def State.say (s : State) (bs : List Byte) : State := s.setPilot { s.dev.pilot with reply := bs }

/-- An entry of the failure log. -/
def State.logs (s : State) (e : LogEntry) : State := s.setPilot { s.dev.pilot with log := s.dev.pilot.log ++ [e] }

/-- n free bytes. -/
def State.freeBytes (s : State) : Nat → List Byte × State
  | 0 => ([], s)
  | n + 1 =>
    let p := s.pick 256
    let q := freeBytes p.2 n
    (BitVec.ofNat 8 p.1 :: q.1, q.2)

/-! Resets. -/

/-- A context whose core has been reset. -/
def Ctx.afterReset (c : Ctx) : Ctx :=
  { Ctx.reset c.id with u := { UserRegs.start with coreid := c.u.coreid, dieid := c.u.dieid } }

/-- The parts of the device that a reset clears; the standby domain, flash and the fuses keep their contents (R404). -/
def Device.afterReset (d : Device) : Device :=
  { d with
    recs := []
    mig := []
    lost := []
    ualId := none
    others := []
    disp := { Dispatcher.reset with nextId := d.disp.nextId }
    replay := none
    win := Window.reset
    links := Links.reset
    clocks := { Clocks.reset with cap := d.clocks.cap }
    store := { d.store with cache := [], busy := [] }
    pilot := { d.pilot with held := true } }

/-- The dies after a reset: nothing is in a core or in a cache. -/
def State.cleared (s : State) : State :=
  { s with
    cur := s.cur.afterReset
    oth := s.oth.afterReset
    core := CoreRes.reset
    cache := Caches.empty
    dev := s.dev.afterReset }

/-- Every die is reset and held. Engines stop first, so no completion word is held; dirty lines go to memory (log entry 41). -/
def State.resetDies (s : State) : State :=
  let s0 := s.stopEngines
  let s1 := s0.dev.disp.launches.foldl State.failLaunch s0
  s.dieStateChange s1.cleared

/-- `PILOT_RESET` (R404). -/
def execPilotReset (s : State) : Out := .next s.resetDies

/-- `HOST_CXL_RESET` (R404): discarded while a reset is in progress. The failures that the Keyway has counted stay until Pilot resets the
device (R333). -/
def execHostCxlReset (s : State) : Out :=
  .next (
    if s.dev.pilot.held then s
    else
      let t := s.resetDies
      t.setDev { t.dev with win := { t.dev.win with fails := s.dev.win.fails } })

/-- The last entry of the append point is cut short (R392). -/
def cutEntry : List FlashBlock → List FlashBlock
  | [] => []
  | b :: rest => { b with entries := b.entries.dropLast ++ (b.entries.getLast?.map fun e => { e with whole := false }).toList } :: rest

/-- `POWER_LOSS` (R392): what the main supply held is gone, HBM with it; far-tier bytes are the host's, without what only a cache held. -/
def execPowerLoss (cut : Bool) (s : State) : Out :=
  .next (
    let t := s.dev.store
    let blocks := (if cut then cutEntry t.blocks else t.blocks).map fun b =>
      { b with entries := b.entries.map fun e => { e with used := false } }
    let s1 := (s.cache.below.map (·.line)).foldl (fun s l => s.discardLine l) s
    let s2 := s.dieStateChange s1.cleared
    { s2 with
      dev := { s2.dev with store := { t with cache := [], busy := [], blocks := blocks } }
      mem := s2.mem.filter fun c => regionOf c.1 == .far
      bad := s2.bad.filter fun l => regionOf (l * 128) == .far })

/-! Boot. -/

/-- Step 1: the immutable ROM's check of Pilot's own code (R399). -/
def Pilot.codeOk (p : Pilot) : Bool :=
  Config.sm3 p.code == p.codeDigest && Config.sm2Verify p.rootKey p.codeDigest p.codeSig

/-- Both images are there and pass step 3. -/
def Pilot.imagesOk (p : Pilot) (f d : Option FlashImage) : Bool := f.any p.accepts && d.any p.accepts

/-- The images that boot: the current ones, or the previous ones when a fresh update fails step 3. -/
def Pilot.choose (p : Pilot) : Option Pilot :=
  if p.imagesOk p.firmware p.decode then
    some (if p.fresh then { p with fresh := false, prevFirmware := none, prevDecode := none } else p)
  else if p.fresh && p.imagesOk p.prevFirmware p.prevDecode then
    some { p with fresh := false, firmware := p.prevFirmware, decode := p.prevDecode, log := p.log ++ [.bootFailed 3] }
  else none

/-- The places that firmware chooses for the sentinel and the tail word (R165). -/
def State.listPlaces (s : State) (sentinel tail : Nat) : Bool :=
  sentinel % 128 == 0 && tail % 8 == 0 && regionOf sentinel == .hbm s.dev.primary && regionOf tail == .hbm s.dev.primary
    && decide (tail + 8 ≤ sentinel ∨ sentinel + 128 ≤ tail)

/-- The links after training: UALink ports come up when the device has an id (R369, R399). -/
def Links.trained (hasId : Bool) : Links := { Links.reset with portDown := if hasId then [] else List.range 12 }

/-- Firmware's values of `tvec` and `fltq` in a context (R304). -/
def Ctx.firmware (c : Ctx) (tvec fltq : Word) : Ctx :=
  { c with sys := { c.sys with tvec := tvec &&& 0xFFFFFFFFFFFFC, fltq := fltq &&& 0xFFFFFFFFFFFC0 } }

/-- Steps 4 and 5 (R165, R385, R392, R399); ports that stay down change `DIESTATE` (R368, R369). `tvec` and `fltq` are firmware's: free values. -/
def State.bootDies (s : State) (p : Pilot) (sentinel tail : Nat) : State :=
  let s1 := s.putMem sentinel (List.replicate 128 0)
  let s2 := s1.putMem tail (leBytes 8 sentinel)
  let a := s2.pick (2 ^ 52)
  let b := a.2.pick (2 ^ 52)
  let s3 := b.2
  let d := s3.dev
  s.dieStateChange { s3 with
    cur := s3.cur.firmware (BitVec.ofNat 64 a.1) (BitVec.ofNat 64 b.1)
    oth := s3.oth.firmware (BitVec.ofNat 64 a.1) (BitVec.ofNat 64 b.1)
    dev := { d with
      ualId := p.nextId
      links := Links.trained p.nextId.isSome
      store := d.store.rebuild.boot p.decode
      disp := { d.disp with ready := true, tail := tail, cursor := sentinel }
      pilot := { p with held := false } } }

/-- `POWER_ON_BOOT` (R399). `sentinel` and `tail` are firmware's choice of places (R165). -/
def execPowerOnBoot (sentinel tail : Nat) (s : State) : Out :=
  .next (
    let p := s.dev.pilot
    if !p.held || !s.listPlaces sentinel tail then s
    else if !p.codeOk then s.logs (.bootFailed 1)
    else
      match p.choose with
      | none => s.logs (.bootFailed 3)
      | some q => s.bootDies q sentinel tail)

/-! The vendor type. -/

/-- `ERASESTORE` (R404): only while no translation is running. -/
def execErasestore (s : State) : Out :=
  .next (
    let t := s.dev.store
    if t.busy.isEmpty then
      s.setStore { t with blocks := t.blocks.map fun b => if b.retired || b.entries.isEmpty then b else b.erase }
    else s)

/-- `SETUALID` (R404): for the next boot. -/
def execSetualid (id : BitVec 10) (s : State) : Out := .next (s.setPilot { s.dev.pilot with nextId := some id.toNat })

/-- `KEYWAYDIGEST` (R401): a digest of 32 bytes; the failure count returns to 0, and the log records it. -/
def execKeywaydigest (digest : List Byte) (s : State) : Out :=
  .next (
    if digest.length = 32 then
      let s1 := (s.setPilot { s.dev.pilot with digest := digest }).logs .keywayDigest
      s1.setDev { s1.dev with win := { s1.dev.win with fails := 0 } }
    else s)

/-- Certificates that chain to a root: each key is signed by the next one, and the last by the root (R401). -/
def chainsTo (root : List Byte) : List Cert → Bool
  | [] => false
  | [c] => Config.sm2Verify root (Config.sm3 c.key) c.signature
  | c :: d :: rest => Config.sm2Verify d.key (Config.sm3 c.key) c.signature && chainsTo root (d :: rest)

/-- The answer to a nonce unlocks firmware debug: signed by a key that chains to the Jartur debug root (R401). -/
def Pilot.unlocks (p : Pilot) (nonce : List Byte) (o : DebugAnswer) : Bool :=
  chainsTo p.debugRoot o.chain && o.chain.head?.any fun c => Config.sm2Verify c.key (Config.sm3 (nonce ++ p.serial)) o.signature

/-- `FWDEBUG` (R401): a nonce is issued; the next call answers it, and the nonce is used up. -/
def execFwdebug (o : DebugAnswer) (s : State) : Out :=
  .next (
    let p := s.dev.pilot
    match p.nonce with
    | none =>
      let r := s.freeBytes 32
      (r.2.setPilot { r.2.dev.pilot with nonce := some r.1 }).say r.1
    | some n =>
      let s1 := s.setPilot { p with nonce := none }
      if p.unlocks n o then
        (((s1.setPilot { s1.dev.pilot with fwDebug := true }).logs .debugUnlocked).say [1])
      else s1.say [0])

/-! MCTP control (R397). -/

/-- `I3C_DYNAMIC_ADDRESS` (R397). -/
def execI3cDynamicAddress (addr : BitVec 7) (s : State) : Out := .next (s.setPilot { s.dev.pilot with addr := some addr })

/-- `SET_ENDPOINT_ID` (R397). -/
def execSetEndpointId (eid : BitVec 8) (s : State) : Out := .next ((s.setPilot { s.dev.pilot with eid := eid }).say [eid])

/-- `GET_ENDPOINT_ID` (R397). -/
def execGetEndpointId (s : State) : Out := .next (s.say [s.dev.pilot.eid])

/-- `GET_MESSAGE_TYPE_SUPPORT` (R397): control, PLDM, SPDM and the vendor type, by their MCTP codes (PRESUMED). -/
def execGetMessageTypeSupport (s : State) : Out := .next (s.say [0x00, 0x01, 0x05, 0x7E])

/-! PLDM monitoring (R397). -/

/-- `PLDM_NUMERIC_SENSOR` (R397): a measured value, which is free. -/
def execPldmNumericSensor (_ : Nat) (s : State) : Out := .next (let r := s.freeBytes 8; r.2.say r.1)

/-- The power state of the cluster as a number. -/
def Power.code : Power → Nat
  | .run => 0
  | .idle => 1
  | .gated => 2

/-- `PLDM_STATE_SENSOR` (R397): sensor 0 is `DIESTATE`, sensor 1 the power state of the modelled cluster; those of the other clusters
are free. -/
def execPldmStateSensor (sensor : Nat) (s : State) : Out :=
  .next (
    if sensor = 0 then s.say (leBytes 8 s.dev.dieState.toNat)
    else if sensor = 1 then s.say (leBytes 1 s.core.power.code)
    else let r := s.freeBytes 1; r.2.say r.1)

/-- An entry of the log as bytes. -/
def LogEntry.bytes : LogEntry → List Byte
  | .bootFailed n => leBytes 1 0 ++ leBytes 8 n
  | .launchLost n => leBytes 1 1 ++ leBytes 8 n
  | .debugUnlocked => leBytes 9 2
  | .keywayDigest => leBytes 9 3

/-- `PLDM_EVENT_LOG` (R397, R398): the failure log, then the trace sink of firmware debug, which Pilot reads from the standby domain; one answer
for both is the model's choice (DESIGN CHOICE, log entry 30). -/
def execPldmEventLog (s : State) : Out :=
  .next (s.say ((s.dev.pilot.log.map LogEntry.bytes).flatten ++ (s.dev.pilot.fwTrace.map TraceRec.bytes).flatten))

/-! PLDM firmware update (R397): its requests in their order. -/

def State.setUpdate (s : State) (u : Update) : State := s.setPilot { s.dev.pilot with update := u }

/-- `REQUEST_UPDATE` (R397). -/
def execRequestUpdate (s : State) : Out :=
  .next (if s.dev.pilot.update = .idle then (s.setPilot { s.dev.pilot with staged := [] }).setUpdate .requested else s)

/-- `PASS_COMPONENT_TABLE` (R397). -/
def execPassComponentTable (table : List Component) (s : State) : Out :=
  .next (if s.dev.pilot.update = .requested then s.setUpdate (.table table) else s)

/-- A component's image put beside flash. -/
def State.stage (s : State) (comps : List Component) (c : Component) (i : FlashImage) : State :=
  if comps.contains c then
    (s.setPilot { s.dev.pilot with staged := (c, i) :: s.dev.pilot.staged.filter fun x => x.1 != c }).setUpdate (.sent comps)
  else s

/-- `UPDATE_COMPONENT` (R397). -/
def execUpdateComponent (comp : Component) (image : FlashImage) (s : State) : Out :=
  .next (
    match s.dev.pilot.update with
    | .table comps | .sent comps => s.stage comps comp image
    | _ => s)

/-- `TRANSFER_COMPLETE` (R397): every component of the table has come. -/
def execTransferComplete (s : State) : Out :=
  .next (
    match s.dev.pilot.update with
    | .sent comps =>
      if comps.all fun c => s.dev.pilot.staged.any fun x => x.1 == c then s.setUpdate .transferred else s
    | _ => s)

/-- `VERIFY_COMPLETE` (R397). -/
def execVerifyComplete (s : State) : Out :=
  .next (if s.dev.pilot.update = .transferred then s.setUpdate .verified else s)

/-- `APPLY_COMPLETE` (R397). -/
def execApplyComplete (s : State) : Out :=
  .next (if s.dev.pilot.update = .verified then s.setUpdate .applied else s)

/-- The staged image of a component, or the one that flash has. -/
def Pilot.stagedOr (p : Pilot) (c : Component) (old : Option FlashImage) : Option FlashImage :=
  match p.staged.find? fun x => x.1 == c with
  | some x => some x.2
  | none => old

/-- `ACTIVATE_FIRMWARE` (R397, R399): the new images are for the next boot, and flash keeps the previous ones. -/
def execActivateFirmware (s : State) : Out :=
  .next (
    let p := s.dev.pilot
    if p.update = .applied then
      s.setPilot { p with
        prevFirmware := if p.fresh then p.prevFirmware else p.firmware
        prevDecode := if p.fresh then p.prevDecode else p.decode
        firmware := p.stagedOr .firmware p.firmware
        decode := p.stagedOr .decodeTable p.decode
        fresh := true
        staged := []
        update := .idle }
    else s)

/-! SPDM (R397, R400). -/

/-- `GET_VERSION` (R397): SPDM 1.3. -/
def execGetVersion (s : State) : Out := .next (s.say [0x13])

/-- `GET_CAPABILITIES` (R397): certificates, challenges and signed measurements (PRESUMED bits). -/
def execGetCapabilities (s : State) : Out := .next (s.say [0x16])

/-- `NEGOTIATE_ALGORITHMS` (R400): SM2_P256 with SM3_256 only. -/
def execNegotiateAlgorithms (sm2 sm3 : Bool) (s : State) : Out :=
  .next ((s.setPilot { s.dev.pilot with negotiated := sm2 && sm3 }).say (leBytes 1 (sm2 && sm3).toNat))

/-- `GET_DIGESTS` (R397, R400). -/
def execGetDigests (s : State) : Out := .next (s.say (Config.sm3 s.dev.pilot.chain))

/-- `GET_CERTIFICATE` (R400). -/
def execGetCertificate (s : State) : Out := .next (s.say s.dev.pilot.chain)

/-- `CHALLENGE` (R397, R400): a signature by the device's key over the chain's digest and the nonce. -/
def execChallenge (nonce : List Byte) (s : State) : Out :=
  .next (s.say (Config.sm2Sign (Config.sm3 (Config.sm3 s.dev.pilot.chain ++ nonce))))

/-- An image's digest. -/
def imageDigest (i : Option FlashImage) : List Byte :=
  match i with
  | some i => Config.sm3 i.bytes
  | none => []

/-- A measurement (R400). -/
def State.measurement (s : State) (index : Nat) : List Byte :=
  let p := s.dev.pilot
  match index with
  | 1 => Config.sm3 p.code
  | 2 => imageDigest p.firmware
  | 3 => imageDigest p.decode ++ leBytes 4 s.dev.store.rev.toNat
  | 4 => p.digest
  | 5 => Config.sm3 p.rootKey ++ leBytes 8 p.rollback
  | _ => []

/-- `GET_MEASUREMENTS` (R400). -/
def execGetMeasurements (index : Nat) (s : State) : Out := .next (s.say (s.measurement index))

end Sys2Proof.Machine
end

