-- ==== Sys2Proof/Machine/ScalarFloat.lean ====
section
/-! DEFINITION. Scalar floating point: SOP 25-37 (R79, R80). -/

namespace Sys2Proof.Machine

/-- The format that the suffix names: `.S` FP32, `.D` FP64 (R79). -/
def sfmt (p : BitVec 3) : Fmt := if p = 0 then fmtFp32 else fmtFp64
/-- The width of that format. -/
def sfWidth (p : BitVec 3) : Nat := if p = 0 then 32 else 64
/-- An operand: bits [31:0] for FP32, all for FP64 (R79). -/
def sfBits (p : BitVec 3) (v : Word) : Nat := v.toNat % 2 ^ sfWidth p
/-- The exact value of an operand. -/
def sfVal (p : BitVec 3) (v : Word) : Exact := decodeFloat (sfmt p) (sfBits p v)

/-- Retirement with a result and its flags. -/
def fpDone (d : BitVec 5) (r : Nat × Word) (s : State) : State := ((s.writeX d (BitVec.ofNat 64 r.1)).accrueS r.2).retire 4

/-- A rounded two-operand operation (R80). -/
def fp2 (f : Rnd → Exact → Exact → Exact × Word) (o : OpF) (s : State) : Out :=
  .next (withX [o.a, o.b] s (
    let t := f s.rm (sfVal o.p (s.x o.a)) (sfVal o.p (s.x o.b))
    let r := roundTo (sfmt o.p) s.rm false false t.1
    fpDone o.d (r.1, t.2 ||| r.2) s))

/-- Minimum or maximum (R68): the operand chosen keeps its encoding, two NaNs give the canonical one. -/
def fpMinMax (wantMax : Bool) (o : OpF) (s : State) : Out :=
  .next (withX [o.a, o.b] s (
    let a := sfBits o.p (s.x o.a)
    let b := sfBits o.p (s.x o.b)
    let r := pickMinMax wantMax (decodeFloat (sfmt o.p) a) (decodeFloat (sfmt o.p) b)
    let v := match r.1 with
      | some true => a
      | some false => b
      | none => (sfmt o.p).nanBits
    fpDone o.d (v, r.2) s))

/-- A comparison (R67): integer 1 or 0. -/
def fpRel (rel : Rel) (o : OpF) (s : State) : Out :=
  .next (withX [o.a, o.b] s (
    let r := relate rel (sfVal o.p (s.x o.a)) (sfVal o.p (s.x o.b))
    fpDone o.d (r.1.toNat, r.2) s))

/-- A one-operand operation. -/
def fp1 (f : State → Word → Nat × Word) (o : OpF) (s : State) : Out :=
  .next (withX [o.a] s (fpDone o.d (f s (s.x o.a)) s))

/-- `FADD` (R80). -/
def execFadd (o : OpF) (s : State) : Out := fp2 Exact.add o s
/-- `FSUB` (R80). -/
def execFsub (o : OpF) (s : State) : Out := fp2 (fun m a b => Exact.add m a b.neg) o s
/-- `FMUL` (R80). -/
def execFmul (o : OpF) (s : State) : Out := fp2 (fun _ a b => Exact.mul a b) o s
/-- `FDIV` (R63, R80). -/
def execFdiv (o : OpF) (s : State) : Out := fp2 (fun _ a b => Exact.div a b) o s
/-- `FMIN` (R68, R80). -/
def execFmin (o : OpF) (s : State) : Out := fpMinMax false o s
/-- `FMAX` (R68, R80). -/
def execFmax (o : OpF) (s : State) : Out := fpMinMax true o s
/-- `FEQ` (R67, R80). -/
def execFeq (o : OpF) (s : State) : Out := fpRel .eq o s
/-- `FLT` (R67, R80). -/
def execFlt (o : OpF) (s : State) : Out := fpRel .lt o s
/-- `FLE` (R67, R80). -/
def execFle (o : OpF) (s : State) : Out := fpRel .le o s
/-- `FSQRT` (R80). -/
def execFsqrt (o : OpF) (s : State) : Out :=
  fp1 (fun s a =>
    let t := Exact.sqrt (sfVal o.p a)
    let r := roundTo (sfmt o.p) s.rm false false t.1
    (r.1, t.2 ||| r.2)) o s
/-- `FCVTI`: to a signed 64-bit integer, toward zero (R60, R80). -/
def execFcvti (o : OpF) (s : State) : Out := fp1 (fun _ a => floatToInt .rtz 0x018 (sfVal o.p a)) o s
/-- `FCVTF`: from a signed 64-bit integer (R60, R80). -/
def execFcvtf (o : OpF) (s : State) : Out := fp1 (fun s a => roundTo (sfmt o.p) s.rm false false (.ofInt a.toInt)) o s
/-- `FCVTW`: `.S` FP64 to FP32, `.D` FP32 to FP64 (R80). -/
def execFcvtw (o : OpF) (s : State) : Out :=
  fp1 (fun s a => roundTo (sfmt o.p) s.rm false false (sfVal (if o.p = 0 then 1 else 0) a)) o s

end Sys2Proof.Machine
end

