-- ==== Sys2Proof/Machine/ScalarMem.lean ====
section
/-! DEFINITION. Scalar loads and stores (R83, R84). -/

namespace Sys2Proof.Machine

/-- The value that a load of n bytes delivers: sign- or zero-extended (R83). -/
def extend (n : Nat) (signed : Bool) (v : Nat) : Word :=
  if signed then (BitVec.ofNat (8 * n) v).signExtend 64 else BitVec.ofNat 64 v

/-- A load of n bytes (R83). -/
def load (len n : Nat) (signed : Bool) (d a : BitVec 5) (off : Word) (s : State) : Out :=
  .next (withX [a] s (
    let ea := s.ea a off
    watched s (checkEa s ea n).isNone ea.toNat n true false fun s =>
      (scalarRead s ea n).scalar .read fun v s => (s.writeX d (extend n signed v)).retire len))

/-- A store of n bytes; the data register stands in the d field (R83). -/
def store (len n : Nat) (d a : BitVec 5) (off : Word) (s : State) : Out :=
  .next (withX [a, d] s (
    let ea := s.ea a off
    watched s (checkEa s ea n).isNone ea.toNat n false true fun s =>
      (scalarWrite s ea n ((s.x d).toNat % 2 ^ (8 * n))).scalar .write fun _ s => s.retire len))

/-- `LB` (R83). -/
def execLb (o : OpI) (s : State) : Out := load 4 1 true o.d o.a (sext o.imm) s
/-- `LB`, wide form (R37, R83). -/
def execLbWide (o : OpIW) (s : State) : Out := load 8 1 true o.d o.a (sext o.imm) s
/-- `LH` (R83). -/
def execLh (o : OpI) (s : State) : Out := load 4 2 true o.d o.a (sext o.imm) s
/-- `LH`, wide form (R37, R83). -/
def execLhWide (o : OpIW) (s : State) : Out := load 8 2 true o.d o.a (sext o.imm) s
/-- `LW` (R83). -/
def execLw (o : OpI) (s : State) : Out := load 4 4 true o.d o.a (sext o.imm) s
/-- `LW`, wide form (R37, R83). -/
def execLwWide (o : OpIW) (s : State) : Out := load 8 4 true o.d o.a (sext o.imm) s
/-- `LD` (R83). -/
def execLd (o : OpI) (s : State) : Out := load 4 8 false o.d o.a (sext o.imm) s
/-- `LD`, wide form (R37, R83). -/
def execLdWide (o : OpIW) (s : State) : Out := load 8 8 false o.d o.a (sext o.imm) s
/-- `LBU` (R83). -/
def execLbu (o : OpI) (s : State) : Out := load 4 1 false o.d o.a (sext o.imm) s
/-- `LBU`, wide form (R37, R83). -/
def execLbuWide (o : OpIW) (s : State) : Out := load 8 1 false o.d o.a (sext o.imm) s
/-- `LHU` (R83). -/
def execLhu (o : OpI) (s : State) : Out := load 4 2 false o.d o.a (sext o.imm) s
/-- `LHU`, wide form (R37, R83). -/
def execLhuWide (o : OpIW) (s : State) : Out := load 8 2 false o.d o.a (sext o.imm) s
/-- `LWU` (R83). -/
def execLwu (o : OpI) (s : State) : Out := load 4 4 false o.d o.a (sext o.imm) s
/-- `LWU`, wide form (R37, R83). -/
def execLwuWide (o : OpIW) (s : State) : Out := load 8 4 false o.d o.a (sext o.imm) s
/-- `SB` (R83). -/
def execSb (o : OpI) (s : State) : Out := store 4 1 o.d o.a (sext o.imm) s
/-- `SB`, wide form (R37, R83). -/
def execSbWide (o : OpIW) (s : State) : Out := store 8 1 o.d o.a (sext o.imm) s
/-- `SH` (R83). -/
def execSh (o : OpI) (s : State) : Out := store 4 2 o.d o.a (sext o.imm) s
/-- `SH`, wide form (R37, R83). -/
def execShWide (o : OpIW) (s : State) : Out := store 8 2 o.d o.a (sext o.imm) s
/-- `SW` (R83). -/
def execSw (o : OpI) (s : State) : Out := store 4 4 o.d o.a (sext o.imm) s
/-- `SW`, wide form (R37, R83). -/
def execSwWide (o : OpIW) (s : State) : Out := store 8 4 o.d o.a (sext o.imm) s
/-- `SD` (R83). -/
def execSd (o : OpI) (s : State) : Out := store 4 8 o.d o.a (sext o.imm) s
/-- `SD`, wide form (R37, R83). -/
def execSdWide (o : OpIW) (s : State) : Out := store 8 8 o.d o.a (sext o.imm) s

end Sys2Proof.Machine
end

