-- ==== Sys2Proof/Machine/Service.lean ====
section
/-! DEFINITION. The fault service's answers (R314, R315), the lanes' steps (R17, R174, R308), the issue of the other context (R170), the
wakes of parked threads (R171), the members of a gang on other cores (R195), and the steps of the engines. A step that its state does not
allow changes nothing. -/

namespace Sys2Proof.Machine

/-! The fault queue. -/

/-- The oldest record that waits for room is appended when there is room (R314). -/
def State.appendRec (s : State) : State :=
  match s.dev.recs.find? (·.slot.isNone) with
  | none => s
  | some r => s.onCtx r.ctx fun s =>
    if s.fqSlot.isNone then s
    else (s.setDev { s.dev with recs := s.dev.recs.filter fun q => q.rid != r.rid }).placeRec r

/-- `FAULT_QUEUE_APPEND` (R314). -/
def execFaultQueueAppend (s : State) : Out := .next s.appendRec

/-- The ring slot k of the current context's fault queue holds a record without an answer. -/
def State.slotOpen (s : State) (k : Nat) : Bool :=
  let a := s.fqWord 0 + k % (s.fqWord 1) * 320
  s.dev.recs.any fun r => r.slot == some a

/-- The service advances TAIL past answered records, at most n (R314). -/
def State.advanceTail (s : State) : Nat → State
  | 0 => s
  | n + 1 =>
    if s.fqWord 3 = s.fqWord 2 ∨ s.fqWord 1 = 0 ∨ s.slotOpen (s.fqWord 3) then s
    else advanceTail (s.putMem (s.cur.sys.fltq.toNat + 24) (leBytes 8 (s.fqWord 3 + 1))) n

/-- The record leaves the list of open records, with OUTCOME written (R315). -/
def State.answer (s : State) (r : FaultRec) (outcome : Nat) : State :=
  let s := match r.slot with
    | some a => s.putMem (a + 0x30) (leBytes 8 outcome)
    | none => s
  let s := s.setDev { s.dev with recs := s.dev.recs.filter fun q => q.rid != r.rid }
  s.onCtx r.ctx fun s => s.advanceTail (s.fqWord 1)

/-- A wait on a record is over. -/
def Ctx.release (c : Ctx) (rid : Nat) : Ctx :=
  { c with
    viq := c.viq.map fun e => if e.rid = some rid then { e with rid := none } else e
    thr := { c.thr with wait := if c.thr.wait = .record rid then .none else c.thr.wait } }

/-- A gang operation runs again when one of its parts has its answer (R353). -/
def Ctx.releaseGang (c : Ctx) (parts : List GangPart) : Ctx :=
  if parts.any fun p => p.ctx == c.id then
    { c with
      viq := c.viq.map fun e => if e.gangOperand.isSome then { e with rid := none } else e
      thr := { c.thr with wait := match c.thr.wait with
        | .record _ => .none
        | w => w } }
  else c

/-- Whatever waits on a record can go on (R315). -/
def State.releaseRec (s : State) (rid : Nat) : State :=
  let parts := s.core.parts.filter fun p => p.rid == some rid
  { s with
    cur := (s.cur.release rid).releaseGang parts
    oth := (s.oth.release rid).releaseGang parts
    core := { s.core with
      copies := s.core.copies.map fun c => if c.rid = some rid then { c with rid := none } else c
      slots := s.core.slots.map fun p => if p.rid = some rid then { p with rid := none } else p
      parts := s.core.parts.map fun p => if p.rid = some rid then { p with rid := none } else p
      aimed := s.core.aimed.map fun q => if q.rid = some rid then { q with rid := none } else q
      drains := s.core.drains.map fun c => c.release rid
      saved := s.core.saved.map fun c => c.release rid } }

/-- `FAULT_OUTCOME_RESUME` (R315): the faulting item runs again. Copies own what the service has mapped for them (R233). -/
def execFaultOutcomeResume (r : Nat) (s : State) : Out :=
  .next (
    match s.dev.recs.find? (·.rid == r) with
    | none => s
    | some q => if q.slot.isNone then s else ((s.answer q 1).releaseRec r).reown)

/-! Delivered traps (R315). -/

/-- The page of a record that a delivered CODE names: the first with that CODE, or PAGE 0 (R315). -/
def FaultRec.delivered (r : FaultRec) (code : Nat) : RecPage :=
  (r.pages.find? (·.code == code)).getD (r.pages.headD ⟨0, 0, 0⟩)

/-- The cause CODE that a page CODE of a record gives (R315). -/
def pageCause (code : Nat) : BitVec 8 :=
  match code with
  | 1 => 0x07
  | 2 => 0x08
  | 3 => 0x09
  | 4 => 0x0A
  | 6 => 0x0D
  | _ => 0x0B

/-- Cause and `tval` of a delivered record (R315). -/
def FaultRec.trapOf (r : FaultRec) (code : Nat) : BitVec 8 × Word :=
  let p := r.delivered code
  if r.source = 1 then (cFetch, r.half)
  else (pageCause p.code, if p.code = 6 then BitVec.ofNat 64 r.pline else BitVec.ofNat 64 (p.page * 2 ^ 16))

/-- The entry of a context that a record names: the one that waits on it, or, where an image has come between, the one at the record's address. -/
def Ctx.entryOf (c : Ctx) (q : FaultRec) : Option Entry :=
  match c.viq.find? fun e => e.rid == some q.rid with
  | some e => some e
  | none => if c.u.tid = q.tid ∧ 2 ≤ q.source then c.viq.find? fun e => e.addr.setWidth 64 == q.iaddr && e.reissue else none

/-- What the thread of a context owes to a delivered record. The entry of a saved thread is the oldest of its queue (R312, R329). -/
def Ctx.dueOf (c : Ctx) (q : FaultRec) (t : BitVec 8 × Word) : Option Due :=
  match c.entryOf q with
  | some e => some ⟨some (e.seq % 2 ^ 32), e.addr, t.1, t.2⟩
  | none =>
    if c.u.tid ≠ q.tid then none
    else if q.source ≤ 1 then some ⟨none, q.iaddr.setWidth 52, t.1, t.2⟩
    else if c.thr.saved then some ⟨some c.thr.oldest, q.iaddr.setWidth 52, t.1, t.2⟩
    else none

def Ctx.addDue (c : Ctx) (d : Option Due) : Ctx := { c with thr := { c.thr with due := c.thr.due ++ d.toList } }

/-- The trap of an old thread's entry, whose context the next lot has (R173, log entry 42). -/
def State.dueOld (s : State) (q : FaultRec) : State :=
  match s.core.drains.findIdx? fun d => (d.entryOf q).isSome with
  | none => s
  | some i => (s.onDrain i fun s => some (s.failOld ((s.cur.entryOf q).map (·.addr) |>.getD 0))).getD s

/-- The trap of a record goes to the thread that waits on it, or that an event has taken away from it: the leader for a part of its gang operation,
and the leader on another core for a member part, which ends here (R353). -/
def State.addDue (s : State) (q : FaultRec) (t : BitVec 8 × Word) : State :=
  if s.core.aimed.any fun a => a.rid == some q.rid then
    ((s.setCore { s.core with aimed := none }).onCtx false State.leaveLate).onCtx true State.leaveLate
  else
    match s.core.parts.find? fun p => p.rid == some q.rid with
    | some p => s.onCtx p.ctx fun s =>
      s.setCur (s.cur.addDue ((s.cur.viq.find? fun e => e.gangOperand.isSome).map fun e => ⟨some (e.seq % 2 ^ 32), e.addr, t.1, t.2⟩))
    | none =>
      ({ s with
        cur := s.cur.addDue (s.cur.dueOf q t)
        oth := s.oth.addDue (s.oth.dueOf q t)
        core := { s.core with saved := s.core.saved.map fun (c : Ctx) => c.addDue (c.dueOf q t) } }).dueOld q

/-- The delivered trap that the current thread takes now: in user mode, where a freeze need not wait (R308, R315, R324). A thread that has retired
`EXIT` and has its context is there again for it (log entry 42). -/
def State.takeDue (s : State) : Option State :=
  let c := s.cur
  if !s.user || !(c.thr.live || c.thr.ended == some false) || s.holdsFreeze then none
  else
    match c.readyDue with
    | none => none
    | some d =>
      let s1 := s.setThr { c.thr with due := (c.thr.due.filter c.stands).filter (· != d) }
      let s2 := if c.thr.live then s1 else s1.revive
      some (s2.takeTrap false (d.entry.map fun n => (n, d.at_)) d.code d.tval)

/-- The copy of a saved thread that a delivered record ends, noted for its RESTORE (R261, R315). -/
def Ctx.addEnd (c : Ctx) (q : FaultRec) (code : Nat) : Ctx :=
  if c.u.tid = q.tid ∧ c.thr.saved then { c with thr := { c.thr with ends := c.thr.ends ++ [(q.tag, code)] } } else c
def State.addEnd (s : State) (q : FaultRec) (code : Nat) : State :=
  { s with
    cur := s.cur.addEnd q code
    oth := s.oth.addEnd q code
    core := { s.core with saved := s.core.saved.map fun c => c.addEnd q code } }

/-- `FAULT_OUTCOME_DELIVER` (R315). The trap is taken as soon as the thread is where it can take it. -/
def execFaultOutcomeDeliver (r : Nat) (code : BitVec 8) (s : State) : Out :=
  .next (
    match s.dev.recs.find? (·.rid == r) with
    | none => s
    | some q =>
      if q.slot.isNone then s
      else
        let s1 := s.answer q (2 + code.toNat * 2 ^ 8)
        let page := q.delivered code.toNat
        if q.source = 3 then
          match s1.core.copies.find? (·.rid == some r) with
          | none => s1.addEnd q page.code
          | some c => s1.onCtx c.ctx fun s => s.endCopy c (tagStatus 3 page.code c.flags c.cur) true
        else if q.source = 8 then
          match s1.core.slots.find? (·.rid == some r) with
          | none => s1
          | some p => s1.freeSlot p.slot
        else
          let s2 := (s1.addDue q (q.trapOf code.toNat)).releaseRec r
          (s2.onCtx false fun s => s.takeDue.getD s).onCtx true fun s => s.takeDue.getD s)

/-! The lanes. -/

/-- A run of entry k of a context, of its old threads' entries first, whose outcome `f` accepts. -/
def laneStep (c : Bool) (hi : Entry → State → Nat) (f : EntryOut → Bool) (k : Nat) (s : State) : State :=
  s.onCtx c fun s => (s.laneMove hi f k).getD s

/-- `VIQ_ENTRY_COMPLETE` (R17): an entry performs its element effects and finishes, or a member part on this core runs (R278). -/
def execViqEntryComplete (o : CompleteEntryArgs) (s : State) : Out :=
  .next (
    match o.lane with
    | .own k => laneStep o.ctx wholeEntry (fun o => match o with | .done _ _ | .doneTrap _ _ _ _ => true | _ => false) k s
    | .member a => s.onCtx o.ctx fun s => s.memberStep a)

/-- `VIQ_ENTRY_TRAP` (R308): the oldest entry of the context's thread traps. -/
def execViqEntryTrap (c : Bool) (s : State) : Out :=
  .next (s.onCtx c fun s =>
    (s.laneMove wholeEntry (fun o => match o with | .trap _ _ _ => true | _ => false) s.oldEntries.length).getD s)

/-- `ELEMENT_GROUP_ISSUE` (R174): the next element group of an entry. -/
def execElementGroupIssue (o : GroupArgs) (s : State) : Out := .next (laneStep o.ctx groupEnd (fun _ => true) o.entry s)

/-- `CONVOY_START` (R172, R174): a boundary between convoys, at which quads move. -/
def execConvoyStart (c : Bool) (s : State) : Out := .next (s.onCtx c fun s => if s.lanesLive then s.moveQuads else s)

/-- `ISSUE_STARVATION_TIMEOUT` (R170): a context that is runnable and has not issued issues next. -/
def execIssueStarvationTimeout (c : Bool) (s : State) : Out :=
  .next (
    if s.cur.id = c then (if s.cur.runnable then { s with forced := true } else s)
    else if s.oth.runnable then { s.swap with forced := true } else s)

/-! Wakes: the parked instruction executes again (R171). -/

/-- The current context no longer waits for another agent. -/
def State.unpark (s : State) : State := if s.cur.thr.wait = .event then s.setWait .none else s

/-- `WAITA_WAKE` (R185). -/
def execWaitaWake (c : Bool) (s : State) : Out := .next (s.onCtx c State.unpark)
/-- `BARRIER_WAIT_WAKE` (R191). -/
def execBarrierWaitWake (c : Bool) (s : State) : Out := .next (s.onCtx c State.unpark)
/-- `TAG_WAIT_WAKE` (R260). -/
def execTagWaitWake (c : Bool) (s : State) : Out := .next (s.onCtx c State.unpark)
/-- `MSGRCV_WAKE` (R196). -/
def execMsgrcvWake (c : Bool) (s : State) : Out := .next (s.onCtx c State.unpark)

/-! Gang members on other cores of the cluster (R195). -/

/-- The member as the leader's operations see it (R278). -/
def mateOf (m : Nat) (o : MateArgs) : Mate :=
  { member := m, tid := o.tid, coreid := o.coreid, ctx := o.ctx
    ts := Vector.ofFn fun i : Fin 8 => match o.streams.getD i.val none with
      | some (bs, b) => TileStream.ofBytes bs b
      | none => TileStream.idle
    ac := Vector.ofFn fun i : Fin 4 => o.tiles.getD i.val 0
    acBad := 0, m15 := o.m15, xdirty := 0, banks := o.banks
    spad := o.spad.foldl (fun m p => m.write p.1 [p.2]) []
    spadBad := [], tlb1 := [], tlb2 := [] }

/-- The tiles and streams that a member has now; its part's effects on `m15` and its dirty bits stay. -/
def Mate.update (m : Mate) (o : MateArgs) : Mate :=
  let n := mateOf m.member o
  { m with ts := n.ts, ac := n.ac, m15 := n.m15, banks := n.banks, spad := n.spad }

/-- The thread of a context of this core leads the gang. -/
def State.leads (s : State) (gid : Nat) : Bool :=
  [s.cur, s.oth].any fun c => c.thr.live && gangGid c.u.gangid == gid && (c.u.gangid >>> 2 &&& 3) == 0

/-- The step on the object of a member that joins; the gang number is given with the first one. -/
def State.mateJoin (s : State) (o : MateArgs) : State :=
  let joined := s.objWord o.obj 0
  let take (s : State) : State :=
    let s1 := s.putObjWord ⟨o.obj, .normal⟩ 0 (joined + 1)
    if s1.leads o.gid then s1.setCore { s1.core with mates := s1.core.mates ++ [mateOf joined o] } else s1
  match s.gangRec o.gid with
  | some r => if r.obj = o.obj ∧ r.size = o.size ∧ joined ≠ 0 ∧ joined < r.size then take s else s
  | none =>
    if joined = 0 ∧ 2 ≤ o.size ∧ o.size ≤ 4 ∧ s.freeGang = some o.gid then
      take ((s.setCore { s.core with gangs := s.core.gangs ++ [⟨o.gid, o.obj, o.va, o.size, false⟩] }).putObjWord ⟨o.obj, .normal⟩ 1
        (gangObjWord o.gid o.size s.clus))
    else s

/-- A member on another core joins, or has other tiles and streams than it had. -/
def State.mateStep (s : State) (o : MateArgs) : State :=
  if s.core.mates.any fun m => m.tid == o.tid then
    s.setCore { s.core with mates := s.core.mates.map fun m => if m.tid = o.tid then m.update o else m }
  else s.mateJoin o

/-- `GANG_WAIT_WAKE` (R195): members on other cores have joined. -/
def execGangWaitWake (o : GangWakeArgs) (s : State) : Out := .next ((o.mates.foldl State.mateStep s).onCtx o.ctx State.unpark)

/-- Members on other cores leave their gang; the number is free with the last leave. -/
def State.matesLeave (s : State) (gid n : Nat) : State :=
  match s.gangRec gid with
  | none => s
  | some r =>
    let rest := s.objWord r.obj 0 - s.objWord r.obj 2 - r.here.toNat
    if n = 0 ∨ rest < n then s else s.departed r n

/-- `FREE_GANG_NUMBER_WAKE` (R195): members on other cores have left. -/
def execFreeGangNumberWake (o : GangFreeArgs) (s : State) : Out := .next ((s.matesLeave o.gid o.leaves).onCtx o.ctx State.unpark)


/-- The word of `WFI`. -/
def wfiWord : Nat := (std 10 false (bodyI 0 0 4 3)).toNat

/-- `WFI_WAKE` (R310): the fault queue signals a context that waits in `WFI`, which then retires. -/
def execWfiWake (c : Bool) (s : State) : Out :=
  .next (s.onCtx c fun s =>
    if s.cur.thr.live ∧ !s.user ∧ s.cur.thr.wait = .event ∧ s.mem.readVal s.cur.pc.toNat 4 = wfiWord then
      s.unpark.retire 4
    else s)

/-- `HELD_ACCESS_RESUME` (R253, R317): accesses that waited for a line execute again. -/
def execHeldAccessResume (s : State) : Out := .next ((s.onCtx false State.unpark).onCtx true State.unpark)

/-! The engines. -/

/-- `PREFETCH_LINE_ISSUE` (R220). -/
def execPrefetchLineIssue (slot : Nat) (s : State) : Out := .next (slotMove slot slotIssue s)
/-- `PREFETCH_LINE_ARRIVAL` (R220). -/
def execPrefetchLineArrival (slot : Nat) (s : State) : Out := .next (slotMove slot slotArrive s)
/-- `COPY_ENGINE_RUN` (R256): n moves of a copy. -/
def execCopyEngineRun (slot n : Nat) (s : State) : Out := .next (copyMoves slot n s)

/-- Moves that end a copy when nothing holds it up. -/
def State.movesLeft (s : State) (slot : Nat) : Nat :=
  match s.core.copies.find? (·.slot == slot) with
  | none => 0
  | some c => c.src.elems - c.cur + 1

/-- `COPY_COMPLETE` (R258). -/
def execCopyComplete (slot : Nat) (s : State) : Out := .next (copyMoves slot (s.movesLeft slot) s)
/-- `MIGRATION_COMPLETE` (R316): the remaining lines, and the end. -/
def execMigrationComplete (slot : Nat) (s : State) : Out := .next (migFinish slot 513 s)

end Sys2Proof.Machine
end

