-- ==== Sys2Proof/Machine/SysReg.lean ====
section
/-! DEFINITION. State registers: the tables of R97, R304, R385 and of chapter 16, and `SRD`, `SWR`, `SSET`, `SCLR` (R94-R99). -/

namespace Sys2Proof.Machine

/-! Reading. -/

/-- The word of a loop-state register (R94). -/
def LoopLevel.word (l : LoopLevel) : Nat → Word
  | 0 => l.idx
  | 1 => l.trip
  | 2 => l.start
  | _ => l.stop

/-- User state register n of R97, `cycle` apart; none where no register has the number. -/
def State.userReg (s : State) (n : Nat) : Option Word :=
  let u := s.cur.u
  if 0x40 ≤ n ∧ n < 0x48 then some (s.fm (BitVec.ofNat 3 n))
  else if 0x50 ≤ n ∧ n < 0x70 then some ((vget (n := 3) s.cur.lp (BitVec.ofNat 3 n)).word ((n - 0x50) / 8))
  else match n with
    | 0x000 => some u.tid
    | 0x001 => some u.coreid
    | 0x002 => some u.dieid
    | 0x003 => some (BitVec.ofNat 64 s.cur.id.toNat)
    | 0x008 => some u.cycle
    | 0x009 => some u.instret
    | 0x010 => some u.vtype
    | 0x011 => some u.vl
    | 0x012 => some u.vstart
    | 0x013 => some u.vcommit
    | 0x014 => some u.vdirty
    | 0x015 => some u.xdirty
    | 0x016 => some u.rlen
    | 0x017 => some u.vlmax
    | 0x018 => some u.fthresh
    | 0x019 => some u.lastd
    | 0x01A => some u.vflags
    | 0x01B => some u.sfctl
    | 0x020 => some u.tdone
    | 0x021 => some u.terr
    | 0x030 => some u.gangid
    | _ => none

/-- The registers of R97 that are marked R. -/
def userReadOnly (n : Nat) : Bool :=
  [0x000, 0x001, 0x002, 0x003, 0x008, 0x009, 0x010, 0x011, 0x013, 0x016, 0x017, 0x020, 0x021, 0x030].contains n

/-- Registers marked R (R97, R304, R385, chapter 16): writing one is illegal in both modes (R96; DEDUCED for those beyond R97). -/
def readOnly (n : Nat) : Bool :=
  userReadOnly n || [0x102, 0x103, 0x108, 0x10B, 0x10E].contains n || dbgReadOnly n

/-- The loop-state registers (R94). -/
def loopReg (n : Nat) : Bool := decide (0x50 ≤ n ∧ n < 0x70)

/-- `status` (R303). -/
def SysRegs.status (r : SysRegs) : Word :=
  (if r.kill then 4 else 0) ||| (if r.skipv then 8 else 0) ||| (if r.evPre then 0x100 else 0) ||| (if r.evKill then 0x200 else 0)
    ||| (if r.evStop then 0x400 else 0)

/-- System state register n (R304, R385); none where no register has the number. HELD of `quads` names the quads that the context holds
(R172, R326). -/
def State.systemReg (s : State) (n : Nat) : Option (Word × State) :=
  let r := s.cur.sys
  match n with
  | 0x100 => some (r.status, s)
  | 0x101 => some (r.epc, s)
  | 0x102 => some (r.cause, s)
  | 0x103 => some (r.tval, s)
  | 0x104 => some (r.tvec, s)
  | 0x105 => some (r.scratch, s)
  | 0x106 => some (r.asid, s)
  | 0x107 => some (r.ptbase, s)
  | 0x108 => some (r.fltq, s)
  | 0x109 => some (r.prio, s)
  | 0x10A => some (s.core.quads ||| (BitVec.ofNat 64 (if s.cur.id then s.core.held.2 else s.core.held.1) <<< 8), s)
  | 0x10B => some (r.vepc, s)
  | 0x10C => some (r.ctxarea, s)
  | 0x10D => some (r.nent <<< 8, s)
  | 0x10E => some ((1 <<< 32) ||| s.dev.store.rev.setWidth 64, s)
  | 0x10F => some (s.core.spimg, s)
  | _ => none

/-- A counter that time moves on: its value grows by a free amount (R21, R98). -/
def State.tick (s : State) (v : Word) : Word × State := let p := s.pick (2 ^ 64); (v + BitVec.ofNat 64 p.1, p.2)

/-- State register n; `cycle` has moved on by a free amount (R21, R98). -/
def State.stateReg (s : State) (n : Nat) : Option (Word × State) :=
  if n = 0x008 then
    let r := s.tick s.cur.u.cycle
    some (r.1, r.2.setU { r.2.cur.u with cycle := r.1 })
  else if n < 0x100 then (s.userReg n).map (·, s)
  else if n < 0x200 then s.systemReg n
  else (s.dbgRead n).map (·, s)

/-! Writing. -/

/-- The registers whose dirty bits a write clears read as their start values (R9, R97). -/
def State.cleanVectors (s : State) (v : Word) : State :=
  s.setCur { s.cur with
    v := Vector.ofFn fun (k : Fin 32) => if v.getLsbD k then s.cur.v[k] else VReg.start
    u := { s.cur.u with vdirty := v }
    poison := { s.cur.poison with v := s.cur.poison.v &&& v } }

/-- A unit whose dirty bit a write clears: at its start state if the context holds it, and nothing saved of it otherwise. -/
def State.cleanUnit (s : State) (u : UnitId) (keep : Bool) : State :=
  if keep then s
  else
    let s1 := if s.core.heldBy u = some s.cur.id then s.setCore (s.core.startUnit u) else s
    if s1.unitFlag s1.cur u then s1.setUnitFlag s1.cur u false else s1

/-- Masks, tiles and units likewise. -/
def State.cleanOthers (s : State) (v : Word) : State :=
  let s1 := s.setCur { s.cur with
    m := Vector.ofFn fun (k : Fin 16) => if v.getLsbD k then s.cur.m[k] else 0
    ac := Vector.ofFn fun (k : Fin 4) => if v.getLsbD (16 + k) then s.cur.ac[k] else 0
    poison := { s.cur.poison with m := s.cur.poison.m &&& v, ac := s.cur.poison.ac &&& ((v >>> 16) &&& 15) } }
  let s2 := (s1.cleanUnit .keyed (v.getLsbD 20 || !s.cur.u.xdirty.getLsbD 20)).cleanUnit .lanes
    (v.getLsbD 21 || !s.cur.u.xdirty.getLsbD 21)
  s2.setU { s2.cur.u with xdirty := v }

/-- The writable fields of a loop-state register (R94). A START or END with bit 0 set is kept as it is written (DESIGN CHOICE: R94 makes the
bit writable and R14 keeps it out of pc; log entry 18). -/
def LoopLevel.put (l : LoopLevel) (k : Nat) (v : Word) : LoopLevel :=
  match k with
  | 0 => { l with idx := v }
  | 1 => { l with trip := v }
  | 2 => { l with start := v &&& 0x9F0FFFFFFFFFFFFF }
  | _ => { l with stop := v &&& 0xFFFFFFFFFFFFF }

/-- Writing user state register n (R97). -/
def State.userSet (s : State) (n : Nat) (v : Word) : State :=
  let u := s.cur.u
  if n = 0x40 then s
  else if 0x40 < n ∧ n < 0x48 then s.setCur { s.cur with fm := vset (n := 3) s.cur.fm (BitVec.ofNat 3 n) v }
  else if 0x50 ≤ n ∧ n < 0x70 then
    let k : BitVec 3 := BitVec.ofNat 3 n
    s.setLp (vset (n := 3) s.cur.lp k ((vget (n := 3) s.cur.lp k).put ((n - 0x50) / 8) v))
  else match n with
    | 0x012 => s.setU { u with vstart := v }
    | 0x014 => s.cleanVectors (v &&& 0xFFFFFFFF)
    | 0x015 => s.cleanOthers (v &&& 0x3FFFFF)
    | 0x018 => s.setU { u with fthresh := v &&& 0xFFFFFFFF }
    | 0x019 => s.setU { u with lastd := v &&& 0x1F1F }
    | 0x01A => s.setU { u with vflags := v &&& vflagsMask }
    | 0x01B => s.setU { u with sfctl := sfctlWrite v }
    | _ => s

/-- Writing system state register n, `ctxop` apart (R303, R304, R326): fields marked R keep their value (R95). -/
def State.systemSet (s : State) (n : Nat) (v : Word) : State :=
  let r := s.cur.sys
  match n with
  | 0x100 => s.setSys { r with kill := v.getLsbD 2, skipv := v.getLsbD 3 }
  | 0x101 => s.setSys { r with epc := v }
  | 0x104 => s.setSys { r with tvec := v &&& 0xFFFFFFFFFFFFC }
  | 0x105 => s.setSys { r with scratch := v }
  | 0x106 => s.setSys { r with asid := v &&& 0xFFFF }
  | 0x107 => s.setSys { r with ptbase := v &&& 0xFFFFFFFFF8000 }
  | 0x109 => s.setSys { r with prio := v &&& 7 }
  | 0x10A => s.setCore { s.core with quads := v &&& 0x8F }
  | 0x10C => s.setSys { r with ctxarea := v &&& 0xFFFFFFFFF0000 }
  | 0x10F => s.setCore { s.core with spimg := v &&& 0xFFFFFFFFF0000 }
  | _ => s

/-- Writing state register n. -/
def State.stateSet (s : State) (n : Nat) (v : Word) : State :=
  if n < 0x100 then s.userSet n v else if n < 0x200 then s.systemSet n v else s.dbgWrite n v

/-! The four instructions. -/

/-- What one of the four writes: none for `SRD`, and for `SSET` and `SCLR` with a = 0 (R95). -/
abbrev RegWrite := Option (Word → Word)

/-- Registers of R19: in user mode their access waits until every earlier entry has completed. -/
def waitsForQueue (n : Nat) : Bool := n == 0x014 || n == 0x015 || n == 0x01A

/-- `ctxop` (R329): `v` is the written value. -/
def ctxop (o : OpI) (f3 : BitVec 3) (w : RegWrite) (v : Word) (s : State) : State :=
  let old := s.cur.sys.nent <<< 8
  let done (s : State) : State := (s.writeX o.d old).retire 4
  match w with
  | none => done s
  | some _ =>
    if v >>> 2 ≠ 0 ∨ v = 3 then s.illegal (.word (std 10 false (bodyI o.d o.a f3 o.imm)))
    else if v = 1 then
      if s.cur.frozen then done s.ctxSave else s.illegal (.word (std 10 false (bodyI o.d o.a f3 o.imm)))
    else if v = 2 then
      (if s.restoreBad then s.monitorFault else if s.restoreRoom then done s.ctxRestore else s)
    else done s

/-- An access to a state register is illegal (R95, R96): a system register in user mode, a number that user mode has no register for, a write of
a read-only register. -/
def regIllegal (n : Nat) (w : RegWrite) (s : State) : Bool :=
  (s.user && decide (0x100 ≤ n)) || (n != 0x10D && (
    match s.stateReg n with
    | none => s.user
    | some _ => w.isSome && readOnly n))

/-- An access to a state register (R95, R96); `written` is the value that `ctxop` sees. An illegal one reads no register (R35). A write of
loop state takes effect after the instruction's own retirement, which sees the loop state as it was (R94). A write of `lastd` by an
instruction whose d is not `x0` is followed by its own update of XLAST (DESIGN CHOICE: R40 and R95 give no order; log entry 18). -/
def regOp (f3 : BitVec 3) (o : OpI) (w : RegWrite) (written : Word) (s : State) : Out :=
  let n := (o.imm.setWidth 10).toNat
  let code : Code := .word (std 10 false (bodyI o.d o.a f3 o.imm))
  .next (
    if regIllegal n w s then s.illegal code
    else withX [o.a] s (
      if n = 0x10D then ctxop o f3 w written s
      else
        match s.stateReg n with
        | none => (s.writeX o.d 0).retire 4
        | some (old, s1) =>
          if s.user && waitsForQueue n && !s.cur.viq.isEmpty then s
          else
            let done (s : State) : State := (s.writeX o.d old).retire 4
            match w with
            | none => done s1
            | some f => if loopReg n then (done s1).stateSet n (f old) else done (s1.stateSet n (f old))))

/-- `SRD` (R95). -/
def execSrd (o : OpI) (s : State) : Out := regOp 0 o none 0 s
/-- `SWR` (R95). -/
def execSwr (o : OpI) (s : State) : Out := regOp 1 o (some fun _ => s.x o.a) (s.x o.a) s
/-- `SSET` (R95). -/
def execSset (o : OpI) (s : State) : Out :=
  regOp 2 o (if o.a = 0 then none else some fun v => v ||| s.x o.a) (s.x o.a) s
/-- `SCLR` (R95). -/
def execSclr (o : OpI) (s : State) : Out := regOp 3 o (if o.a = 0 then none else some fun v => v &&& ~~~(s.x o.a)) 0 s

end Sys2Proof.Machine
end

