-- ==== Sys2Proof/Machine/Dispatch.lean ====
section
/-! DEFINITION. One arm for each instruction and step: a direct call of its meaning. -/

namespace Sys2Proof.Machine

def exec (i : Instr) (s : State) : Host.Outcome State Fault Refusal :=
  match i with
  | .add o => Sys2Proof.Machine.execAdd o s
  | .sub o => Sys2Proof.Machine.execSub o s
  | .and o => Sys2Proof.Machine.execAnd o s
  | .or o => Sys2Proof.Machine.execOr o s
  | .xor o => Sys2Proof.Machine.execXor o s
  | .andn o => Sys2Proof.Machine.execAndn o s
  | .sll o => Sys2Proof.Machine.execSll o s
  | .srl o => Sys2Proof.Machine.execSrl o s
  | .sra o => Sys2Proof.Machine.execSra o s
  | .slt o => Sys2Proof.Machine.execSlt o s
  | .sltu o => Sys2Proof.Machine.execSltu o s
  | .min o => Sys2Proof.Machine.execMin o s
  | .max o => Sys2Proof.Machine.execMax o s
  | .minu o => Sys2Proof.Machine.execMinu o s
  | .maxu o => Sys2Proof.Machine.execMaxu o s
  | .mul o => Sys2Proof.Machine.execMul o s
  | .mulh o => Sys2Proof.Machine.execMulh o s
  | .mulhu o => Sys2Proof.Machine.execMulhu o s
  | .div o => Sys2Proof.Machine.execDiv o s
  | .divu o => Sys2Proof.Machine.execDivu o s
  | .rem o => Sys2Proof.Machine.execRem o s
  | .remu o => Sys2Proof.Machine.execRemu o s
  | .clz o => Sys2Proof.Machine.execClz o s
  | .ctz o => Sys2Proof.Machine.execCtz o s
  | .popc o => Sys2Proof.Machine.execPopc o s
  | .fadd o => Sys2Proof.Machine.execFadd o s
  | .fsub o => Sys2Proof.Machine.execFsub o s
  | .fmul o => Sys2Proof.Machine.execFmul o s
  | .fdiv o => Sys2Proof.Machine.execFdiv o s
  | .fmin o => Sys2Proof.Machine.execFmin o s
  | .fmax o => Sys2Proof.Machine.execFmax o s
  | .feq o => Sys2Proof.Machine.execFeq o s
  | .flt o => Sys2Proof.Machine.execFlt o s
  | .fle o => Sys2Proof.Machine.execFle o s
  | .fsqrt o => Sys2Proof.Machine.execFsqrt o s
  | .fcvti o => Sys2Proof.Machine.execFcvti o s
  | .fcvtf o => Sys2Proof.Machine.execFcvtf o s
  | .fcvtw o => Sys2Proof.Machine.execFcvtw o s
  | .addi o => Sys2Proof.Machine.execAddi o s
  | .andi o => Sys2Proof.Machine.execAndi o s
  | .ori o => Sys2Proof.Machine.execOri o s
  | .xori o => Sys2Proof.Machine.execXori o s
  | .slti o => Sys2Proof.Machine.execSlti o s
  | .sltiu o => Sys2Proof.Machine.execSltiu o s
  | .slli o => Sys2Proof.Machine.execSlli o s
  | .srli o => Sys2Proof.Machine.execSrli o s
  | .srai o => Sys2Proof.Machine.execSrai o s
  | .muli o => Sys2Proof.Machine.execMuli o s
  | .addiWide o => Sys2Proof.Machine.execAddiWide o s
  | .andiWide o => Sys2Proof.Machine.execAndiWide o s
  | .oriWide o => Sys2Proof.Machine.execOriWide o s
  | .xoriWide o => Sys2Proof.Machine.execXoriWide o s
  | .sltiWide o => Sys2Proof.Machine.execSltiWide o s
  | .sltiuWide o => Sys2Proof.Machine.execSltiuWide o s
  | .muliWide o => Sys2Proof.Machine.execMuliWide o s
  | .lup o => Sys2Proof.Machine.execLup o s
  | .lupWide o => Sys2Proof.Machine.execLupWide o s
  | .lb o => Sys2Proof.Machine.execLb o s
  | .lh o => Sys2Proof.Machine.execLh o s
  | .lw o => Sys2Proof.Machine.execLw o s
  | .ld o => Sys2Proof.Machine.execLd o s
  | .lbu o => Sys2Proof.Machine.execLbu o s
  | .lhu o => Sys2Proof.Machine.execLhu o s
  | .lwu o => Sys2Proof.Machine.execLwu o s
  | .lbWide o => Sys2Proof.Machine.execLbWide o s
  | .lhWide o => Sys2Proof.Machine.execLhWide o s
  | .lwWide o => Sys2Proof.Machine.execLwWide o s
  | .ldWide o => Sys2Proof.Machine.execLdWide o s
  | .lbuWide o => Sys2Proof.Machine.execLbuWide o s
  | .lhuWide o => Sys2Proof.Machine.execLhuWide o s
  | .lwuWide o => Sys2Proof.Machine.execLwuWide o s
  | .sb o => Sys2Proof.Machine.execSb o s
  | .sh o => Sys2Proof.Machine.execSh o s
  | .sw o => Sys2Proof.Machine.execSw o s
  | .sd o => Sys2Proof.Machine.execSd o s
  | .sbWide o => Sys2Proof.Machine.execSbWide o s
  | .shWide o => Sys2Proof.Machine.execShWide o s
  | .swWide o => Sys2Proof.Machine.execSwWide o s
  | .sdWide o => Sys2Proof.Machine.execSdWide o s
  | .beqz o => Sys2Proof.Machine.execBeqz o s
  | .bnez o => Sys2Proof.Machine.execBnez o s
  | .bltz o => Sys2Proof.Machine.execBltz o s
  | .bgez o => Sys2Proof.Machine.execBgez o s
  | .bgtz o => Sys2Proof.Machine.execBgtz o s
  | .blez o => Sys2Proof.Machine.execBlez o s
  | .bdnz o => Sys2Proof.Machine.execBdnz o s
  | .beqzWide o => Sys2Proof.Machine.execBeqzWide o s
  | .bnezWide o => Sys2Proof.Machine.execBnezWide o s
  | .bltzWide o => Sys2Proof.Machine.execBltzWide o s
  | .bgezWide o => Sys2Proof.Machine.execBgezWide o s
  | .bgtzWide o => Sys2Proof.Machine.execBgtzWide o s
  | .blezWide o => Sys2Proof.Machine.execBlezWide o s
  | .bdnzWide o => Sys2Proof.Machine.execBdnzWide o s
  | .bany o => Sys2Proof.Machine.execBany o s
  | .ball o => Sys2Proof.Machine.execBall o s
  | .bnone o => Sys2Proof.Machine.execBnone o s
  | .bnall o => Sys2Proof.Machine.execBnall o s
  | .banyWide o => Sys2Proof.Machine.execBanyWide o s
  | .ballWide o => Sys2Proof.Machine.execBallWide o s
  | .bnoneWide o => Sys2Proof.Machine.execBnoneWide o s
  | .bnallWide o => Sys2Proof.Machine.execBnallWide o s
  | .jal o => Sys2Proof.Machine.execJal o s
  | .jalWide o => Sys2Proof.Machine.execJalWide o s
  | .jalr o => Sys2Proof.Machine.execJalr o s
  | .jalrWide o => Sys2Proof.Machine.execJalrWide o s
  | .srd o => Sys2Proof.Machine.execSrd o s
  | .swr o => Sys2Proof.Machine.execSwr o s
  | .sset o => Sys2Proof.Machine.execSset o s
  | .sclr o => Sys2Proof.Machine.execSclr o s
  | .ecall o => Sys2Proof.Machine.execEcall o s
  | .ebreak o => Sys2Proof.Machine.execEbreak o s
  | .eret o => Sys2Proof.Machine.execEret o s
  | .wfi o => Sys2Proof.Machine.execWfi o s
  | .ifence o => Sys2Proof.Machine.execIfence o s
  | .tlbinv o => Sys2Proof.Machine.execTlbinv o s
  | .tlbinva o => Sys2Proof.Machine.execTlbinva o s
  | .exit o => Sys2Proof.Machine.execExit o s
  | .pgsplice o => Sys2Proof.Machine.execPgsplice o s
  | .loop o => Sys2Proof.Machine.execLoop o s
  | .loopWide o => Sys2Proof.Machine.execLoopWide o s
  | .vcfg o => Sys2Proof.Machine.execVcfg o s
  | .vcfgr o => Sys2Proof.Machine.execVcfgr o s
  | .vaddVv o => Sys2Proof.Machine.execVaddVv o s
  | .vsubVv o => Sys2Proof.Machine.execVsubVv o s
  | .vrsubVv o => Sys2Proof.Machine.execVrsubVv o s
  | .vminVv o => Sys2Proof.Machine.execVminVv o s
  | .vmaxVv o => Sys2Proof.Machine.execVmaxVv o s
  | .vandVv o => Sys2Proof.Machine.execVandVv o s
  | .vorVv o => Sys2Proof.Machine.execVorVv o s
  | .vxorVv o => Sys2Proof.Machine.execVxorVv o s
  | .vandnVv o => Sys2Proof.Machine.execVandnVv o s
  | .vsllVv o => Sys2Proof.Machine.execVsllVv o s
  | .vsrlVv o => Sys2Proof.Machine.execVsrlVv o s
  | .vsraVv o => Sys2Proof.Machine.execVsraVv o s
  | .vsaddVv o => Sys2Proof.Machine.execVsaddVv o s
  | .vssubVv o => Sys2Proof.Machine.execVssubVv o s
  | .vabsdVv o => Sys2Proof.Machine.execVabsdVv o s
  | .vavgVv o => Sys2Proof.Machine.execVavgVv o s
  | .vmulhVv o => Sys2Proof.Machine.execVmulhVv o s
  | .vdivVv o => Sys2Proof.Machine.execVdivVv o s
  | .vremVv o => Sys2Proof.Machine.execVremVv o s
  | .vceqVv o => Sys2Proof.Machine.execVceqVv o s
  | .vcneVv o => Sys2Proof.Machine.execVcneVv o s
  | .vcltVv o => Sys2Proof.Machine.execVcltVv o s
  | .vcleVv o => Sys2Proof.Machine.execVcleVv o s
  | .vcgtVv o => Sys2Proof.Machine.execVcgtVv o s
  | .vcgeVv o => Sys2Proof.Machine.execVcgeVv o s
  | .vmergeVv o => Sys2Proof.Machine.execVmergeVv o s
  | .vmvVv o => Sys2Proof.Machine.execVmvVv o s
  | .vsgnjVv o => Sys2Proof.Machine.execVsgnjVv o s
  | .vaddVx o => Sys2Proof.Machine.execVaddVx o s
  | .vsubVx o => Sys2Proof.Machine.execVsubVx o s
  | .vrsubVx o => Sys2Proof.Machine.execVrsubVx o s
  | .vminVx o => Sys2Proof.Machine.execVminVx o s
  | .vmaxVx o => Sys2Proof.Machine.execVmaxVx o s
  | .vandVx o => Sys2Proof.Machine.execVandVx o s
  | .vorVx o => Sys2Proof.Machine.execVorVx o s
  | .vxorVx o => Sys2Proof.Machine.execVxorVx o s
  | .vandnVx o => Sys2Proof.Machine.execVandnVx o s
  | .vsllVx o => Sys2Proof.Machine.execVsllVx o s
  | .vsrlVx o => Sys2Proof.Machine.execVsrlVx o s
  | .vsraVx o => Sys2Proof.Machine.execVsraVx o s
  | .vsaddVx o => Sys2Proof.Machine.execVsaddVx o s
  | .vssubVx o => Sys2Proof.Machine.execVssubVx o s
  | .vabsdVx o => Sys2Proof.Machine.execVabsdVx o s
  | .vavgVx o => Sys2Proof.Machine.execVavgVx o s
  | .vmulhVx o => Sys2Proof.Machine.execVmulhVx o s
  | .vdivVx o => Sys2Proof.Machine.execVdivVx o s
  | .vremVx o => Sys2Proof.Machine.execVremVx o s
  | .vceqVx o => Sys2Proof.Machine.execVceqVx o s
  | .vcneVx o => Sys2Proof.Machine.execVcneVx o s
  | .vcltVx o => Sys2Proof.Machine.execVcltVx o s
  | .vcleVx o => Sys2Proof.Machine.execVcleVx o s
  | .vcgtVx o => Sys2Proof.Machine.execVcgtVx o s
  | .vcgeVx o => Sys2Proof.Machine.execVcgeVx o s
  | .vmergeVx o => Sys2Proof.Machine.execVmergeVx o s
  | .vmvVx o => Sys2Proof.Machine.execVmvVx o s
  | .vsgnjVx o => Sys2Proof.Machine.execVsgnjVx o s
  | .vaddVxWide o => Sys2Proof.Machine.execVaddVxWide o s
  | .vsubVxWide o => Sys2Proof.Machine.execVsubVxWide o s
  | .vrsubVxWide o => Sys2Proof.Machine.execVrsubVxWide o s
  | .vminVxWide o => Sys2Proof.Machine.execVminVxWide o s
  | .vmaxVxWide o => Sys2Proof.Machine.execVmaxVxWide o s
  | .vandVxWide o => Sys2Proof.Machine.execVandVxWide o s
  | .vorVxWide o => Sys2Proof.Machine.execVorVxWide o s
  | .vxorVxWide o => Sys2Proof.Machine.execVxorVxWide o s
  | .vandnVxWide o => Sys2Proof.Machine.execVandnVxWide o s
  | .vsllVxWide o => Sys2Proof.Machine.execVsllVxWide o s
  | .vsrlVxWide o => Sys2Proof.Machine.execVsrlVxWide o s
  | .vsraVxWide o => Sys2Proof.Machine.execVsraVxWide o s
  | .vsaddVxWide o => Sys2Proof.Machine.execVsaddVxWide o s
  | .vssubVxWide o => Sys2Proof.Machine.execVssubVxWide o s
  | .vabsdVxWide o => Sys2Proof.Machine.execVabsdVxWide o s
  | .vavgVxWide o => Sys2Proof.Machine.execVavgVxWide o s
  | .vmulhVxWide o => Sys2Proof.Machine.execVmulhVxWide o s
  | .vdivVxWide o => Sys2Proof.Machine.execVdivVxWide o s
  | .vremVxWide o => Sys2Proof.Machine.execVremVxWide o s
  | .vceqVxWide o => Sys2Proof.Machine.execVceqVxWide o s
  | .vcneVxWide o => Sys2Proof.Machine.execVcneVxWide o s
  | .vcltVxWide o => Sys2Proof.Machine.execVcltVxWide o s
  | .vcleVxWide o => Sys2Proof.Machine.execVcleVxWide o s
  | .vcgtVxWide o => Sys2Proof.Machine.execVcgtVxWide o s
  | .vcgeVxWide o => Sys2Proof.Machine.execVcgeVxWide o s
  | .vmergeVxWide o => Sys2Proof.Machine.execVmergeVxWide o s
  | .vmvVxWide o => Sys2Proof.Machine.execVmvVxWide o s
  | .vsgnjVxWide o => Sys2Proof.Machine.execVsgnjVxWide o s
  | .vfmaVfv o => Sys2Proof.Machine.execVfmaVfv o s
  | .vfmsVfv o => Sys2Proof.Machine.execVfmsVfv o s
  | .vfnmaVfv o => Sys2Proof.Machine.execVfnmaVfv o s
  | .vmulVfv o => Sys2Proof.Machine.execVmulVfv o s
  | .vfmaVfx o => Sys2Proof.Machine.execVfmaVfx o s
  | .vfmsVfx o => Sys2Proof.Machine.execVfmsVfx o s
  | .vfnmaVfx o => Sys2Proof.Machine.execVfnmaVfx o s
  | .vmulVfx o => Sys2Proof.Machine.execVmulVfx o s
  | .vdot o => Sys2Proof.Machine.execVdot o s
  | .vssmx o => Sys2Proof.Machine.execVssmx o s
  | .vcvt o => Sys2Proof.Machine.execVcvt o s
  | .vneg o => Sys2Proof.Machine.execVneg o s
  | .vabs o => Sys2Proof.Machine.execVabs o s
  | .vsqrt o => Sys2Proof.Machine.execVsqrt o s
  | .vrcp o => Sys2Proof.Machine.execVrcp o s
  | .vrsqrt o => Sys2Proof.Machine.execVrsqrt o s
  | .vexp2 o => Sys2Proof.Machine.execVexp2 o s
  | .vlog2 o => Sys2Proof.Machine.execVlog2 o s
  | .vtanh o => Sys2Proof.Machine.execVtanh o s
  | .vsigm o => Sys2Proof.Machine.execVsigm o s
  | .verf o => Sys2Proof.Machine.execVerf o s
  | .vround o => Sys2Proof.Machine.execVround o s
  | .vpopc o => Sys2Proof.Machine.execVpopc o s
  | .vclz o => Sys2Proof.Machine.execVclz o s
  | .vid o => Sys2Proof.Machine.execVid o s
  | .vclass o => Sys2Proof.Machine.execVclass o s
  | .vld o => Sys2Proof.Machine.execVld o s
  | .vlds o => Sys2Proof.Machine.execVlds o s
  | .vldx o => Sys2Proof.Machine.execVldx o s
  | .vldff o => Sys2Proof.Machine.execVldff o s
  | .vldWide o => Sys2Proof.Machine.execVldWide o s
  | .vldsWide o => Sys2Proof.Machine.execVldsWide o s
  | .vldxWide o => Sys2Proof.Machine.execVldxWide o s
  | .vldffWide o => Sys2Proof.Machine.execVldffWide o s
  | .vst o => Sys2Proof.Machine.execVst o s
  | .vsts o => Sys2Proof.Machine.execVsts o s
  | .vstx o => Sys2Proof.Machine.execVstx o s
  | .vstu o => Sys2Proof.Machine.execVstu o s
  | .vstsu o => Sys2Proof.Machine.execVstsu o s
  | .vstxu o => Sys2Proof.Machine.execVstxu o s
  | .vstWide o => Sys2Proof.Machine.execVstWide o s
  | .vstsWide o => Sys2Proof.Machine.execVstsWide o s
  | .vstxWide o => Sys2Proof.Machine.execVstxWide o s
  | .vstuWide o => Sys2Proof.Machine.execVstuWide o s
  | .vstsuWide o => Sys2Proof.Machine.execVstsuWide o s
  | .vstxuWide o => Sys2Proof.Machine.execVstxuWide o s
  | .vamoadd o => Sys2Proof.Machine.execVamoadd o s
  | .vamobinc o => Sys2Proof.Machine.execVamobinc o s
  | .vamomin o => Sys2Proof.Machine.execVamomin o s
  | .vamomax o => Sys2Proof.Machine.execVamomax o s
  | .vamoswap o => Sys2Proof.Machine.execVamoswap o s
  | .vamoaddWide o => Sys2Proof.Machine.execVamoaddWide o s
  | .vamobincWide o => Sys2Proof.Machine.execVamobincWide o s
  | .vamominWide o => Sys2Proof.Machine.execVamominWide o s
  | .vamomaxWide o => Sys2Proof.Machine.execVamomaxWide o s
  | .vamoswapWide o => Sys2Proof.Machine.execVamoswapWide o s
  | .mand o => Sys2Proof.Machine.execMand o s
  | .mor o => Sys2Proof.Machine.execMor o s
  | .mxor o => Sys2Proof.Machine.execMxor o s
  | .mandn o => Sys2Proof.Machine.execMandn o s
  | .mnot o => Sys2Proof.Machine.execMnot o s
  | .mcnt o => Sys2Proof.Machine.execMcnt o s
  | .many o => Sys2Proof.Machine.execMany o s
  | .mfirst o => Sys2Proof.Machine.execMfirst o s
  | .msbf o => Sys2Proof.Machine.execMsbf o s
  | .msif o => Sys2Proof.Machine.execMsif o s
  | .mwhile o => Sys2Proof.Machine.execMwhile o s
  | .mfromv o => Sys2Proof.Machine.execMfromv o s
  | .mtov o => Sys2Proof.Machine.execMtov o s
  | .vconf o => Sys2Proof.Machine.execVconf o s
  | .vpart o => Sys2Proof.Machine.execVpart o s
  | .vpartb o => Sys2Proof.Machine.execVpartb o s
  | .rsum o => Sys2Proof.Machine.execRsum o s
  | .rsumu o => Sys2Proof.Machine.execRsumu o s
  | .rmax o => Sys2Proof.Machine.execRmax o s
  | .rmin o => Sys2Proof.Machine.execRmin o s
  | .rmaxi o => Sys2Proof.Machine.execRmaxi o s
  | .rmini o => Sys2Proof.Machine.execRmini o s
  | .rand o => Sys2Proof.Machine.execRand o s
  | .ror o => Sys2Proof.Machine.execRor o s
  | .rxor o => Sys2Proof.Machine.execRxor o s
  | .vscan o => Sys2Proof.Machine.execVscan o s
  | .vcmpr o => Sys2Proof.Machine.execVcmpr o s
  | .vexpd o => Sys2Proof.Machine.execVexpd o s
  | .vslup o => Sys2Proof.Machine.execVslup o s
  | .vsldn o => Sys2Proof.Machine.execVsldn o s
  | .vperm o => Sys2Proof.Machine.execVperm o s
  | .vpush o => Sys2Proof.Machine.execVpush o s
  | .vlast o => Sys2Proof.Machine.execVlast o s
  | .vget o => Sys2Proof.Machine.execVget o s
  | .vput o => Sys2Proof.Machine.execVput o s
  | .vtag o => Sys2Proof.Machine.execVtag o s
  | .vtagx o => Sys2Proof.Machine.execVtagx o s
  | .vtagr o => Sys2Proof.Machine.execVtagr o s
  | .tkinit o => Sys2Proof.Machine.execTkinit o s
  | .tkpush o => Sys2Proof.Machine.execTkpush o s
  | .tkpop o => Sys2Proof.Machine.execTkpop o s
  | .tksal o => Sys2Proof.Machine.execTksal o s
  | .mzero o => Sys2Proof.Machine.execMzero o s
  | .xacc o => Sys2Proof.Machine.execXacc o s
  | .xacct o => Sys2Proof.Machine.execXacct o s
  | .mext o => Sys2Proof.Machine.execMext o s
  | .gxacct o => Sys2Proof.Machine.execGxacct o s
  | .tset o => Sys2Proof.Machine.execTset o s
  | .cpy o => Sys2Proof.Machine.execCpy o s
  | .cpyred o => Sys2Proof.Machine.execCpyred o s
  | .pfs o => Sys2Proof.Machine.execPfs o s
  | .pfstop o => Sys2Proof.Machine.execPfstop o s
  | .twany o => Sys2Proof.Machine.execTwany o s
  | .twall o => Sys2Proof.Machine.execTwall o s
  | .tfirst o => Sys2Proof.Machine.execTfirst o s
  | .tclr o => Sys2Proof.Machine.execTclr o s
  | .tstat o => Sys2Proof.Machine.execTstat o s
  | .bankset o => Sys2Proof.Machine.execBankset o s
  | .cflush o => Sys2Proof.Machine.execCflush o s
  | .cinval o => Sys2Proof.Machine.execCinval o s
  | .pgmig o => Sys2Proof.Machine.execPgmig o s
  | .ksins o => Sys2Proof.Machine.execKsins o s
  | .kslkp o => Sys2Proof.Machine.execKslkp o s
  | .ksacc o => Sys2Proof.Machine.execKsacc o s
  | .ksdrain o => Sys2Proof.Machine.execKsdrain o s
  | .ksclr o => Sys2Proof.Machine.execKsclr o s
  | .kscnt o => Sys2Proof.Machine.execKscnt o s
  | .ltld o => Sys2Proof.Machine.execLtld o s
  | .ltst o => Sys2Proof.Machine.execLtst o s
  | .ltfill o => Sys2Proof.Machine.execLtfill o s
  | .tmbind o => Sys2Proof.Machine.execTmbind o s
  | .tmmap o => Sys2Proof.Machine.execTmmap o s
  | .tmcomp o => Sys2Proof.Machine.execTmcomp o s
  | .tmrun o => Sys2Proof.Machine.execTmrun o s
  | .tmmask o => Sys2Proof.Machine.execTmmask o s
  | .hgbind o => Sys2Proof.Machine.execHgbind o s
  | .hgint o => Sys2Proof.Machine.execHgint o s
  | .hgmrg o => Sys2Proof.Machine.execHgmrg o s
  | .hgsave o => Sys2Proof.Machine.execHgsave o s
  | .hgrest o => Sys2Proof.Machine.execHgrest o s
  | .hgsplit o => Sys2Proof.Machine.execHgsplit o s
  | .hgdone o => Sys2Proof.Machine.execHgdone o s
  | .barinit o => Sys2Proof.Machine.execBarinit o s
  | .bararr o => Sys2Proof.Machine.execBararr o s
  | .barwait o => Sys2Proof.Machine.execBarwait o s
  | .barsync o => Sys2Proof.Machine.execBarsync o s
  | .gang o => Sys2Proof.Machine.execGang o s
  | .gleave o => Sys2Proof.Machine.execGleave o s
  | .msgsnd o => Sys2Proof.Machine.execMsgsnd o s
  | .msgrcv o => Sys2Proof.Machine.execMsgrcv o s
  | .msgtry o => Sys2Proof.Machine.execMsgtry o s
  | .yield o => Sys2Proof.Machine.execYield o s
  | .vsync o => Sys2Proof.Machine.execVsync o s
  | .ldaq o => Sys2Proof.Machine.execLdaq o s
  | .strl o => Sys2Proof.Machine.execStrl o s
  | .amoadd o => Sys2Proof.Machine.execAmoadd o s
  | .amoswap o => Sys2Proof.Machine.execAmoswap o s
  | .amoand o => Sys2Proof.Machine.execAmoand o s
  | .amoor o => Sys2Proof.Machine.execAmoor o s
  | .amomin o => Sys2Proof.Machine.execAmomin o s
  | .amomax o => Sys2Proof.Machine.execAmomax o s
  | .amocas o => Sys2Proof.Machine.execAmocas o s
  | .amobinc o => Sys2Proof.Machine.execAmobinc o s
  | .fence o => Sys2Proof.Machine.execFence o s
  | .waita o => Sys2Proof.Machine.execWaita o s
  | .cAdd o => Sys2Proof.Machine.execCAdd o s
  | .cSub o => Sys2Proof.Machine.execCSub o s
  | .cAnd o => Sys2Proof.Machine.execCAnd o s
  | .cOr o => Sys2Proof.Machine.execCOr o s
  | .cXor o => Sys2Proof.Machine.execCXor o s
  | .cSll o => Sys2Proof.Machine.execCSll o s
  | .cSrl o => Sys2Proof.Machine.execCSrl o s
  | .cAddi o => Sys2Proof.Machine.execCAddi o s
  | .cMv o => Sys2Proof.Machine.execCMv o s
  | .cVadd o => Sys2Proof.Machine.execCVadd o s
  | .cVsub o => Sys2Proof.Machine.execCVsub o s
  | .cVmul o => Sys2Proof.Machine.execCVmul o s
  | .cVfma o => Sys2Proof.Machine.execCVfma o s
  | .cVmax o => Sys2Proof.Machine.execCVmax o s
  | .cVmin o => Sys2Proof.Machine.execCVmin o s
  | .cVand o => Sys2Proof.Machine.execCVand o s
  | .cVor o => Sys2Proof.Machine.execCVor o s
  | .cVxor o => Sys2Proof.Machine.execCVxor o s
  | .cVmv o => Sys2Proof.Machine.execCVmv o s
  | .faultQueueAppend => Sys2Proof.Machine.execFaultQueueAppend s
  | .faultOutcomeResume r => Sys2Proof.Machine.execFaultOutcomeResume r s
  | .faultOutcomeDeliver r code => Sys2Proof.Machine.execFaultOutcomeDeliver r code s
  | .viqEntryComplete o => Sys2Proof.Machine.execViqEntryComplete o s
  | .viqEntryTrap c => Sys2Proof.Machine.execViqEntryTrap c s
  | .convoyStart c => Sys2Proof.Machine.execConvoyStart c s
  | .elementGroupIssue o => Sys2Proof.Machine.execElementGroupIssue o s
  | .issueStarvationTimeout c => Sys2Proof.Machine.execIssueStarvationTimeout c s
  | .launchTake table => Sys2Proof.Machine.execLaunchTake table s
  | .lotPlace l => Sys2Proof.Machine.execLotPlace l s
  | .nextLotRunahead o => Sys2Proof.Machine.execNextLotRunahead o s
  | .lotComplete o => Sys2Proof.Machine.execLotComplete o s
  | .preemptionEvent c => Sys2Proof.Machine.execPreemptionEvent c s
  | .killEvent c => Sys2Proof.Machine.execKillEvent c s
  | .debugStopEvent c => Sys2Proof.Machine.execDebugStopEvent c s
  | .hostHalt c => Sys2Proof.Machine.execHostHalt c s
  | .debugResume c => Sys2Proof.Machine.execDebugResume c s
  | .traceSample c time => Sys2Proof.Machine.execTraceSample c time s
  | .traceBufferDrain => Sys2Proof.Machine.execTraceBufferDrain s
  | .traceGatingDrainTimeout => Sys2Proof.Machine.execTraceGatingDrainTimeout s
  | .waitaWake c => Sys2Proof.Machine.execWaitaWake c s
  | .barrierWaitWake c => Sys2Proof.Machine.execBarrierWaitWake c s
  | .gangWaitWake o => Sys2Proof.Machine.execGangWaitWake o s
  | .tagWaitWake c => Sys2Proof.Machine.execTagWaitWake c s
  | .msgrcvWake c => Sys2Proof.Machine.execMsgrcvWake c s
  | .wfiWake c => Sys2Proof.Machine.execWfiWake c s
  | .prefetchLineIssue slot => Sys2Proof.Machine.execPrefetchLineIssue slot s
  | .prefetchLineArrival slot => Sys2Proof.Machine.execPrefetchLineArrival slot s
  | .copyEngineRun slot n => Sys2Proof.Machine.execCopyEngineRun slot n s
  | .copyComplete slot => Sys2Proof.Machine.execCopyComplete slot s
  | .migrationComplete slot => Sys2Proof.Machine.execMigrationComplete slot s
  | .heldAccessResume => Sys2Proof.Machine.execHeldAccessResume s
  | .hostCxlMemRead addr n => Sys2Proof.Machine.execHostCxlMemRead addr n s
  | .hostCxlMemWrite addr bytes => Sys2Proof.Machine.execHostCxlMemWrite addr bytes s
  | .hostAtomic addr op wide v => Sys2Proof.Machine.execHostAtomic addr op wide v s
  | .hostSnoop addr => Sys2Proof.Machine.execHostSnoop addr s
  | .peerRequest o => Sys2Proof.Machine.execPeerRequest o s
  | .clusterIdleEntry => Sys2Proof.Machine.execClusterIdleEntry s
  | .clusterGate => Sys2Proof.Machine.execClusterGate s
  | .thermalStepDown die => Sys2Proof.Machine.execThermalStepDown die s
  | .thermalShutdown => Sys2Proof.Machine.execThermalShutdown s
  | .linkFlitCrcFail o => Sys2Proof.Machine.execLinkFlitCrcFail o s
  | .linkRetrain link => Sys2Proof.Machine.execLinkRetrain link s
  | .linkDown link => Sys2Proof.Machine.execLinkDown link s
  | .dieAnswerTimeout die => Sys2Proof.Machine.execDieAnswerTimeout die s
  | .ucieModuleDown die => Sys2Proof.Machine.execUcieModuleDown die s
  | .ucieWidthDegrade die => Sys2Proof.Machine.execUcieWidthDegrade die s
  | .ualinkPortDown port => Sys2Proof.Machine.execUalinkPortDown port s
  | .powerOnBoot sentinel tail => Sys2Proof.Machine.execPowerOnBoot sentinel tail s
  | .pilotReset => Sys2Proof.Machine.execPilotReset s
  | .hostCxlReset => Sys2Proof.Machine.execHostCxlReset s
  | .throttle die cap => Sys2Proof.Machine.execThrottle die cap s
  | .dielost die => Sys2Proof.Machine.execDielost die s
  | .erasestore => Sys2Proof.Machine.execErasestore s
  | .setualid id => Sys2Proof.Machine.execSetualid id s
  | .keywaydigest digest => Sys2Proof.Machine.execKeywaydigest digest s
  | .fwdebug o => Sys2Proof.Machine.execFwdebug o s
  | .setEndpointId eid => Sys2Proof.Machine.execSetEndpointId eid s
  | .getEndpointId => Sys2Proof.Machine.execGetEndpointId s
  | .getMessageTypeSupport => Sys2Proof.Machine.execGetMessageTypeSupport s
  | .pldmNumericSensor sensor => Sys2Proof.Machine.execPldmNumericSensor sensor s
  | .pldmStateSensor sensor => Sys2Proof.Machine.execPldmStateSensor sensor s
  | .pldmEventLog => Sys2Proof.Machine.execPldmEventLog s
  | .requestUpdate => Sys2Proof.Machine.execRequestUpdate s
  | .passComponentTable table => Sys2Proof.Machine.execPassComponentTable table s
  | .updateComponent comp image => Sys2Proof.Machine.execUpdateComponent comp image s
  | .transferComplete => Sys2Proof.Machine.execTransferComplete s
  | .verifyComplete => Sys2Proof.Machine.execVerifyComplete s
  | .applyComplete => Sys2Proof.Machine.execApplyComplete s
  | .activateFirmware => Sys2Proof.Machine.execActivateFirmware s
  | .getVersion => Sys2Proof.Machine.execGetVersion s
  | .getCapabilities => Sys2Proof.Machine.execGetCapabilities s
  | .negotiateAlgorithms sm2 sm3 => Sys2Proof.Machine.execNegotiateAlgorithms sm2 sm3 s
  | .getDigests => Sys2Proof.Machine.execGetDigests s
  | .getCertificate => Sys2Proof.Machine.execGetCertificate s
  | .challenge nonce => Sys2Proof.Machine.execChallenge nonce s
  | .getMeasurements index => Sys2Proof.Machine.execGetMeasurements index s
  | .kwcmdUnlock => Sys2Proof.Machine.execKwcmdUnlock s
  | .kwcmdLock => Sys2Proof.Machine.execKwcmdLock s
  | .replayStart addr => Sys2Proof.Machine.execReplayStart addr s
  | .replayPassEnd cycles mj => Sys2Proof.Machine.execReplayPassEnd cycles mj s
  | .lstatRead => Sys2Proof.Machine.execLstatRead s
  | .pairTableClear => Sys2Proof.Machine.execPairTableClear s
  | .ctxopSave c => Sys2Proof.Machine.execCtxopSave c s
  | .ctxopRestore c => Sys2Proof.Machine.execCtxopRestore c s
  | .controlWindowWrite off v => Sys2Proof.Machine.execControlWindowWrite off v s
  | .galysTranslationDone o => Sys2Proof.Machine.execGalysTranslationDone o s
  | .translationStoreReclaim => Sys2Proof.Machine.execTranslationStoreReclaim s
  | .decodeTableLoad => Sys2Proof.Machine.execDecodeTableLoad s
  | .coreCycle o => Sys2Proof.Machine.execCoreCycle o s
  | .eccError o => Sys2Proof.Machine.execEccError o s
  | .freeGangNumberWake o => Sys2Proof.Machine.execFreeGangNumberWake o s
  | .powerLoss cut => Sys2Proof.Machine.execPowerLoss cut s
  | .ucieLaneRepair die => Sys2Proof.Machine.execUcieLaneRepair die s
  | .ucieL1Entry die => Sys2Proof.Machine.execUcieL1Entry die s
  | .ucieL1Exit die => Sys2Proof.Machine.execUcieL1Exit die s
  | .i3cDynamicAddress addr => Sys2Proof.Machine.execI3cDynamicAddress addr s

end Sys2Proof.Machine
end

