-- ==== Sys2Proof/Machine/Fetch.lean ====
section
/-! DEFINITION. Instruction fetch (02 R24-R26, 19 R380). -/

namespace Sys2Proof.Machine

/-- The number under which fetch looks for old contents of a halfword; none where it always sees the last write. -/
def Loc.fetchKey : Loc → Option Nat
  | .mem pa _ | .peer pa _ => some pa
  | .spad k => some (spadKey k)
  | .window _ | .hole => none

/-- The two bytes that a fetch of a halfword sees: the last write, or an older one that no `IFENCE` has ordered yet, by a free choice (R380). -/
def fetchAt (s : State) (l : Loc) : List Byte × State :=
  let old := (l.fetchKey.toList.flatMap fun k => s.cur.thr.stale.filter (·.1 == k)).map (·.2)
  let now := locRead (match l with
    | .mem pa _ => s.granted (pa / 128)
    | _ => s) l 2
  if old.isEmpty then now
  else
    let p := now.2.pick (old.length + 1)
    if p.1 = 0 then (now.1, p.2) else (leBytes 2 (old.getD (p.1 - 1) 0).toNat, p.2)

/-- n halfwords from a virtual address on (R25). -/
def fetchHalves (s : State) (va : Nat) : Nat → Res (List Byte)
  | 0 => .ok [] s
  | n + 1 =>
    if va ≥ 2 ^ 52 then .trap cRange (BitVec.ofNat 64 va) s
    else
      (locate s va 2 .fetch).bind fun l s1 =>
        let r := fetchAt s1 l
        (fetchHalves r.2 (va + 2) n).bind fun bs s2 => .ok (r.1 ++ bs) s2

/-- The instruction word at pc: the first halfword gives the length (R24). -/
def fetchCode (s : State) : Res Code :=
  (fetchHalves s s.cur.pc.toNat 1).bind fun bs s1 =>
    let len := codeLen (bs.headD 0)
    (fetchHalves s1 (s.cur.pc.toNat + 2) (len / 2 - 1)).bind fun cs s2 =>
      match takeCode (bs ++ cs) with
      | some (c, _) => .ok c s2
      | none => .hold s2

/-- A thread that waits for another agent; its instruction may be tried again (R171, R175). -/
def Ctx.parked (c : Ctx) : Bool := c.thr.live && c.thr.wait == .event

end Sys2Proof.Machine
end

