-- ==== Sys2Proof/Machine/Scoreboard.lean ====
section
/-! DEFINITION. The scoreboard of `x` registers (R18): which of them an instruction of the Lamplighter reads or writes, by its words, and which
entries of the queue have still to write them. Masks are waited for by the branches that read them (R88). -/

namespace Sys2Proof.Machine

/-- The `x` registers that a scalar-domain word names, whatever it does with them, by its major (R27, R34). -/
def xFields (maj : Nat) (w : BitVec 24) : List (BitVec 5) :=
  let d := fieldD w
  let a := fieldA w
  let b := fieldB w
  match maj with
  | 0 | 5 | 25 | 28 => [d, a, b]
  | 1 | 3 | 4 | 9 | 10 | 11 => [d, a]
  | 2 | 6 | 8 => [d]
  | 12 => if (field9 w).getLsbD 8 then [d, a, b] else [d, a]
  | _ => []

/-- The `x` registers that an instruction names: a compact form has XLAST as its source (R39, R41), and a push captures those that its entry
needs (R16). -/
def xNames (c : Code) (s : State) : List (BitVec 5) :=
  match c with
  | .half h =>
    let cop := (h.extractLsb' 1 5).toNat
    let d := h.extractLsb' 6 5
    let b := h.extractLsb' 11 5
    if cop = 8 then [d, s.xlast] else if cop = 9 then [d, b] else if cop < 8 then [d, b, s.xlast] else []
  | .word w | .wide w _ =>
    match vopOf c with
    | some op => op.info.xa.toList ++ op.info.xb.toList
    | none => xFields (w.extractLsb' 3 5).toNat (w.extractLsb' 8 24)

/-- The index registers of the loop levels that may end with the instruction (R92): those whose END follows it, and all of them at a `LOOP`. -/
def xLoops (c : Code) (s : State) : List (BitVec 5) :=
  let next := s.cur.pc + BitVec.ofNat 52 c.len
  let loop := match c with
    | .half _ => false
    | .word w | .wide w _ => w.extractLsb' 3 5 == 11
  (s.cur.lp.toList.filter fun l => l.act && (loop || l.endPc == next)).map (·.xi)

/-- `x` registers that entries of the queue have still to write; a write that a loop check has overtaken is none (R92). -/
def State.xPending (s : State) : List Nat :=
  (s.cur.viq.filter fun e => !e.fin).flatMap fun e => (e.writesX s).filter fun r => !e.dead.contains r

/-- The instruction waits for an entry that writes an `x` register which it reads (R18), or which it writes: the entry is earlier in program
order (DEDUCED, log entry 37). The monitor reads and writes the registers of a frozen thread as they are (R330). -/
def State.xWaits (s : State) (c : Code) : Bool :=
  !s.cur.viq.isEmpty && !s.cur.frozen && (xNames c s ++ xLoops c s).any fun r => r != 0 && s.xPending.contains r.toNat

end Sys2Proof.Machine
end

