-- ==== Sys2Proof/Machine/Turn.lean ====
section
/-! DEFINITION. A move of the core: which context issues (R170), its delivered trap or pending event (R308, R340), its lanes, one instruction
of the Lamplighter with its stalls (R15, R18, R171) and single step (R338), and the engines while nothing issues. -/

namespace Sys2Proof.Machine

/-! The choice of the context (R170). -/

/-- The current context has something to do: an event or a trap to take, or a thread that is not parked. -/
def State.canMove (s : State) : Bool := s.pendingEvent.isSome || s.takeDue.isSome || s.cur.runnable

/-- The issue priority of a context. -/
def Ctx.rank (c : Ctx) : Nat := c.sys.prio.toNat

/-- The context that comes first: one that issues next whatever the priorities, while it can; else the one of higher priority; a parked one
only when no other can. -/
def State.choose (s : State) : State :=
  if s.forced && s.canMove then s
  else
    let s := { s with forced := false }
    if s.canMove then (if s.swap.canMove && decide (s.cur.rank < s.oth.rank) then s.swap else s)
    else if s.swap.canMove then s.swap
    else if !s.cur.parked && s.oth.parked then s.swap
    else s

/-- After an instruction: at equal priority the two alternate. -/
def State.turn (s : State) : State :=
  if s.forced then s
  else if s.swap.canMove then (if !s.canMove || decide (s.cur.rank ≤ s.oth.rank) then s.swap else s)
  else if !s.canMove && s.oth.parked then s.swap
  else s

/-! One instruction. -/

/-- Instructions with a wait half (R193). -/
def hasWaitHalf : Code → Bool
  | .word w =>
    let f := (f5Of (field9 (w.extractLsb' 8 24))).toNat
    w.extractLsb' 3 5 == 28 && (f == 3 || f == 4)
  | _ => false

/-- An instruction of the current context from fetched words: an illegal encoding traps (R35), and so does a wait half of an instruction
that has none (DEDUCED). -/
noncomputable def runCode (c : Code) (s : State) : Out :=
  match decodeCode c with
  | .ok i => if s.cur.half && !hasWaitHalf c then .next (s.illegal c) else exec i s
  | .error _ => .next (s.illegal c)

/-- The stop of single step: the instruction has retired in user mode (R335, R338). -/
def State.stepStop (before s : State) : State :=
  if before.user && s.user && s.cur.thr.live && s.stepping && s.cur.u.instret != before.cur.u.instret then
    s.debugStop none 3 0 s.headStart
  else s

/-- An instruction that retires in user mode has used up the pass of the breakpoint that let it through (R338). -/
def State.matchAgain (before s : State) : State :=
  if before.user && s.cur.u.instret != before.cur.u.instret then s.setDbg { s.cur.dbg with pass := none } else s

/-- What follows an instruction in its context. -/
def State.afterIssue (before s : State) : State :=
  s.onCtx before.cur.id fun t => State.stepStop before (State.matchAgain before t)

/-- The instruction has done something: it has retired, begun to wait, or taken a trap. A stall leaves all of this alone. -/
def Ctx.moved (c d : Ctx) : Bool :=
  !(c.u.instret == d.u.instret && c.sys.mode == d.sys.mode && c.thr.wait == d.thr.wait && c.thr.live == d.thr.live && c.half == d.half
    && c.pc == d.pc)

/-- The context with a number. -/
def State.ctx (s : State) (id : Bool) : Ctx := if s.cur.id = id then s.cur else s.oth

/-- The move of the Lamplighter stands: it has done something, and it has not frozen the VIQ where a freeze must wait (R324). -/
def State.stands (before after : State) : Bool :=
  let c := after.ctx before.cur.id
  before.cur.moved c && !(c.frozen && !before.cur.frozen && before.holdsEvent)

/-- An outcome that stands, with what follows it. -/
def settleIssue (before : State) (o : Out) : Option Out :=
  match o with
  | .next t =>
    let u := State.afterIssue before t
    if State.stands before u then some (.next u) else none
  | o => some o

/-- The current context's instruction at pc; none while it stalls: on a register of the scoreboard (R18), at a breakpoint whose stop must wait, or
as its own meaning says. -/
noncomputable def issue (s : State) : Option Out :=
  let s0 := { s.setWait .none with forced := false }
  if s0.breakpoint.isSome then none
  else
    settleIssue s0 (
      match fetchCode s0 with
      | .ok c t => if t.xWaits c then .next s0 else runCode c t
      | .trap c v t => .next (t.trap c v)
      | .svc c va p t => .next (t.scalarSvc 1 .fetch c va p)
      | .hold t => .next t.park
      | .stall _ => .next s0)

/-! The moves of a context. -/

/-- The record that the queue of the current context waits on. -/
def State.headRec (s : State) : Option Nat := (s.cur.viq.head?).bind (·.rid)

/-- The head of the queue is a `GXACCT` whose parts have not all completed. -/
def State.headInParts (s : State) : Bool := (s.cur.viq.head?.any fun e => e.gangOperand.isSome) && s.core.parts.any fun p => p.ctx == s.cur.id

/-- A thread that stalls on its queue while the queue waits on a record is parked (R171, R312); behind a `GXACCT` that waits for member parts it stays
runnable (R353). -/
noncomputable def parkOnRecord (s : State) : Option Out :=
  match s.headRec with
  | none => none
  | some rid =>
    if !s.headInParts && s.cur.runnable && s.user && (issue (s.setCur { s.cur with viq := [] })).isSome then some (.next (s.setWait (.record rid)))
    else none

/-- The other context is looked at next. -/
def turned (o : Out) : Out :=
  match o with
  | .next t => .next t.turn
  | o => o

/-- What moves first in a context: a delivered trap, then a pending event; then the lanes and the Lamplighter, in the order that `lamp` says. After an
instruction the other context is looked at next (R170). -/
noncomputable def ctxMove (lamp : Bool) (s : State) : Option Out :=
  match s.takeDue with
  | some t => some (.next t)
  | none =>
    match s.pendingEvent with
    | some t => some (.next t)
    | none =>
      let lanes : Option Out := s.runLanes.map .next
      let instr : Option Out := if s.cur.runnable then (issue s).map turned else none
      match (if lamp then instr.orElse fun _ => lanes else lanes.orElse fun _ => instr) with
      | some o => some o
      | none => parkOnRecord s

/-! The engines. -/

/-- A move of every engine that has work (R220, R256, R316). -/
def State.enginesMove (s : State) : State :=
  let s1 := (s.core.copies.map (·.slot)).foldl (fun s k => copyMove k s) s
  let s2 := (s1.core.slots.map (·.slot)).foldl (fun s k => slotMove k slotArrive (slotMove k slotIssue s)) s1
  (List.range s2.dev.mig.length).foldl (fun s i => migMove i s) s2

/-! The move. -/

/-- A parked instruction tried again (R171). -/
noncomputable def retry (s : State) : Option Out := if s.cur.parked then issue s else none

/-- No thread can go on: the engines move, and then a parked instruction executes again (R171, R175). -/
noncomputable def idleMove (s : State) : Out :=
  let t := s.enginesMove
  match retry t with
  | some o => turned o
  | none =>
    match retry t.swap with
    | some o => turned o
    | none => .next t.turn

/-- The threads' moves: of the context that comes first, else of the other one. -/
noncomputable def threadMove (lamp : Bool) (s : State) : Out :=
  match ctxMove lamp s with
  | some o => o
  | none =>
    match ctxMove lamp s.swap with
    | some o => o
    | none => idleMove s

/-- A replay that a write of `REPLAY` has asked for begins when the core is free (R349). -/
def State.startWaiting (s : State) : Option State :=
  match s.dev.win.requests.head? with
  | none => none
  | some a =>
    let t := s.onCtx false fun s => s.startReplay a
    if t.dev.win.requests.length < s.dev.win.requests.length then some t else none

/-- A move of the core. -/
noncomputable def coreMove (lamp : Bool) (s : State) : Out :=
  match s.startWaiting with
  | some t => .next t
  | none => threadMove lamp s.choose

end Sys2Proof.Machine
end

