-- ==== Sys2Proof/Machine/Step.lean ====
section
/-! DEFINITION. One step of the machine: the next step of another agent, or a move of the core (log entry 3). -/

namespace Sys2Proof.Machine

/-- One step. An entry `none` of the agenda is a move of the core in which the Lamplighter comes before the lanes (log entry 4). -/
noncomputable def step (s : State) : Host.Outcome State Fault Refusal :=
  match s.agenda with
  | some i :: r => exec i { s with agenda := r }
  | none :: r => coreMove true { s with agenda := r }
  | [] => coreMove false s

/-- The context as it runs the instruction at its pc next: a live thread that waits for nothing. -/
def Ctx.poised (c : Ctx) : Ctx :=
  { c with
    half := false
    obj := none
    viq := []
    sys := { c.sys with evPre := false, evKill := false, evStop := false }
    dbg := { c.dbg with pass := some c.pc }
    thr := { c.thr with live := true, wait := .none, stale := [], due := [] } }

/-- The frame that holds the placed instruction, and the leaf of R211 that names it: V, R, W, X, A, D. -/
def placeFrame : Nat := 0x10000
def placeLeaf (k : Nat) : Word := BitVec.ofNat 64 (placeFrame + k * 65536 + 0x6F)

/-- The TLB entries for the page of pc and the next one. -/
def placeTlb (c : Ctx) : List TlbEntry :=
  let p := c.pc.toNat / 65536
  [⟨c.sys.asid.toNat, p, false, placeLeaf 0⟩, ⟨c.sys.asid.toNat, p + 1, false, placeLeaf 1⟩]

/-- The place of the instruction at pc: physical in system mode, through the TLB entries in user mode. -/
def placeAt (c : Ctx) : Nat :=
  match c.sys.mode with
  | .user => placeFrame + c.pc.toNat % 65536
  | .system => c.pc.toNat

/-- `s` with an instruction where `step` fetches next: the current context poised on a live thread, its page mapped in the first-level
TLB, nothing on the agenda, no engine or old thread in its way, no replay waiting. -/
def State.withFetchWord (s : State) (nbits w : Nat) : State :=
  let bs := tableBytes nbits w
  let a := placeAt s.cur
  { s with
    cur := s.cur.poised
    core := { s.core with tlb1 := placeTlb s.cur ++ s.core.tlb1, copies := [], drains := [], aimed := none, parts := [] }
    dev := { s.dev with
      mig := []
      win := { s.dev.win with requests := [] } }
    mem := s.mem.write a bs
    bad := s.bad.filter fun l => !decide (l * 128 < a + bs.length ∧ a < l * 128 + 128)
    agenda := []
    forced := true }

end Sys2Proof.Machine
end

