-- ==== Sys2Proof/Safety.lean ====
section
/-! DEFINITION. What a safe run is, in the terms that claims use: every step answers a next state, and the byte arrays of the
machine stay in their canonical form. -/

namespace Sys2Proof.Machine

/-- Physical memory, the scratchpad, the lane tables and the memory of other devices are in canonical form. -/
def State.memOk (s : State) : Prop := s.mem.wf ∧ s.core.spad.wf ∧ s.core.lanes.wf ∧ s.dev.peerMem.wf

/-- A run of k steps ends in no fault and no refusal. -/
def SafeRun (k : Nat) (s : State) : Prop := ∃ t, Host.Core.run Sys2Proof.core k s = .next t

end Sys2Proof.Machine
end

