-- ==== Sys2Proof/Certificates/Slice0/Obligations.lean ====
section
/-! DEFINITION. The statements for the provers. Each docstring names the rules of the spec; `Sys2Proof.Claims` holds the words
in which they are stated. -/

namespace Sys2Proof.Claims
end Sys2Proof.Claims

open Sys2Proof Sys2Proof.Machine Sys2Proof.Claims
/-! ## Vocabulary of the statements -/

namespace Sys2Proof.Claims

open Sys2Proof.Machine

/-- The instruction answers the state t. -/
abbrev Gives (i : Instr) (s t : State) : Prop := exec i s = .next t

/-- No poisoned register among the sources rs (R321). -/
abbrev Unpoisoned (s : State) (rs : List (BitVec 5)) : Prop := s.xPoisoned rs = false

/-- The scalar result v in register d, and the retirement of an instruction of len bytes. -/
abbrev WritesX (i : Instr) (s : State) (d : BitVec 5) (v : Word) (len : Nat) : Prop :=
  Gives i s ((s.writeX d v).retire len)

/-- 1 for a true statement, 0 for a false one. -/
def flag (p : Prop) [Decidable p] : Word := if p then 1 else 0

/-- The number of leading zero bits by the position of the highest one bit. -/
def leadingZeros (a : Word) : Word := if a = 0 then 64 else BitVec.ofNat 64 (63 - Nat.log2 a.toNat)

/-- The number of bits from bit 0 on that are zero before the first one bit. -/
def trailingZeros (a : Word) : Word := BitVec.ofNat 64 (((List.range 64).takeWhile fun k => !a.getLsbD k).length)

/-- The number of one bits. -/
def oneBits (a : Word) : Word := BitVec.ofNat 64 ((List.range 64).countP fun k => a.getLsbD k)

/-- Quotient of R49: all ones for a zero divisor, the dividend on overflow, else truncated toward zero. -/
def quotientS (a b : Word) : Word :=
  if b = 0 then allOnes else if a.toInt = -2 ^ 63 ∧ b.toInt = -1 then a else BitVec.ofInt 64 (a.toInt.tdiv b.toInt)

end Sys2Proof.Claims

/-! ## The scalar domain -/

/-- R77 and R78: the integer operations of SOP, each result as the rule's table gives it. -/
def Obligations.ScalarIntegerResults : Prop :=
  ∀ (o : OpR) (s : State), Unpoisoned s [o.a] →
    let a := s.x o.a
    let b := s.x o.b
    (Unpoisoned s [o.b] →
      WritesX (.add o) s o.d (a + b) 4 ∧ WritesX (.sub o) s o.d (a - b) 4 ∧
      WritesX (.and o) s o.d (a &&& b) 4 ∧ WritesX (.or o) s o.d (a ||| b) 4 ∧
      WritesX (.xor o) s o.d (a ^^^ b) 4 ∧ WritesX (.andn o) s o.d (a &&& ~~~b) 4 ∧
      WritesX (.sll o) s o.d (a <<< (b.toNat % 64)) 4 ∧ WritesX (.srl o) s o.d (a >>> (b.toNat % 64)) 4 ∧
      WritesX (.sra o) s o.d (a.sshiftRight (b.toNat % 64)) 4 ∧
      WritesX (.slt o) s o.d (flag (a.toInt < b.toInt)) 4 ∧ WritesX (.sltu o) s o.d (flag (a.toNat < b.toNat)) 4 ∧
      WritesX (.min o) s o.d (if a.toInt ≤ b.toInt then a else b) 4 ∧
      WritesX (.max o) s o.d (if b.toInt ≤ a.toInt then a else b) 4 ∧
      WritesX (.minu o) s o.d (if a.toNat ≤ b.toNat then a else b) 4 ∧
      WritesX (.maxu o) s o.d (if b.toNat ≤ a.toNat then a else b) 4 ∧
      WritesX (.mul o) s o.d (BitVec.ofNat 64 (a.toNat * b.toNat)) 4 ∧
      WritesX (.mulh o) s o.d (BitVec.ofInt 64 (a.toInt * b.toInt / 2 ^ 64)) 4 ∧
      WritesX (.mulhu o) s o.d (BitVec.ofNat 64 (a.toNat * b.toNat / 2 ^ 64)) 4 ∧
      WritesX (.div o) s o.d (quotientS a b) 4 ∧
      WritesX (.divu o) s o.d (if b = 0 then allOnes else BitVec.ofNat 64 (a.toNat / b.toNat)) 4 ∧
      WritesX (.rem o) s o.d (if b = 0 then a else a - b * quotientS a b) 4 ∧
      WritesX (.remu o) s o.d (if b = 0 then a else BitVec.ofNat 64 (a.toNat % b.toNat)) 4) ∧
    WritesX (.clz o) s o.d (leadingZeros a) 4 ∧ WritesX (.ctz o) s o.d (trailingZeros a) 4 ∧
    WritesX (.popc o) s o.d (oneBits a) 4

/-- R81 and R82: immediates of 11 and 43 bits, shift amounts, and `LUP`. -/
def Sys2Proof.Claims.ImmediateResults : Prop :=
  (∀ (d a : BitVec 5) (i : BitVec 11) (w : BitVec 43) (s : State), Unpoisoned s [a] →
    let x := s.x a
    let m := i.signExtend 64
    let n := w.signExtend 64
    WritesX (.addi ⟨d, a, i⟩) s d (x + m) 4 ∧ WritesX (.addiWide ⟨d, a, w⟩) s d (x + n) 8 ∧
    WritesX (.andi ⟨d, a, i⟩) s d (x &&& m) 4 ∧ WritesX (.andiWide ⟨d, a, w⟩) s d (x &&& n) 8 ∧
    WritesX (.ori ⟨d, a, i⟩) s d (x ||| m) 4 ∧ WritesX (.oriWide ⟨d, a, w⟩) s d (x ||| n) 8 ∧
    WritesX (.xori ⟨d, a, i⟩) s d (x ^^^ m) 4 ∧ WritesX (.xoriWide ⟨d, a, w⟩) s d (x ^^^ n) 8 ∧
    WritesX (.slti ⟨d, a, i⟩) s d (flag (x.toInt < m.toInt)) 4 ∧
    WritesX (.sltiWide ⟨d, a, w⟩) s d (flag (x.toInt < n.toInt)) 8 ∧
    WritesX (.sltiu ⟨d, a, i⟩) s d (flag (x.toNat < m.toNat)) 4 ∧
    WritesX (.sltiuWide ⟨d, a, w⟩) s d (flag (x.toNat < n.toNat)) 8 ∧
    WritesX (.muli ⟨d, a, i⟩) s d (BitVec.ofNat 64 (x.toNat * m.toNat)) 4 ∧
    WritesX (.muliWide ⟨d, a, w⟩) s d (BitVec.ofNat 64 (x.toNat * n.toNat)) 8) ∧
  (∀ (o : OpSh) (s : State), Unpoisoned s [o.a] →
    WritesX (.slli o) s o.d (s.x o.a <<< o.sh.toNat) 4 ∧ WritesX (.srli o) s o.d (s.x o.a >>> o.sh.toNat) 4 ∧
    WritesX (.srai o) s o.d ((s.x o.a).sshiftRight o.sh.toNat) 4) ∧
  (∀ (d : BitVec 5) (i : BitVec 19) (w : BitVec 51) (s : State),
    WritesX (.lup ⟨d, i⟩) s d (BitVec.ofInt 64 (i.toInt * 2 ^ 11)) 4 ∧
    WritesX (.lupWide ⟨d, w⟩) s d (BitVec.ofInt 64 (w.toInt * 2 ^ 11)) 8)

/-- R39 and R41: a compact scalar op has the effect of its standard instruction with the last destination as operand a, and
2 bytes. -/
def Sys2Proof.Claims.CompactScalarResults : Prop :=
  ∀ (o : OpC) (s : State), Unpoisoned s [s.cur.u.lastd.setWidth 5] →
    let a := s.x (s.cur.u.lastd.setWidth 5)
    let b := s.x o.b
    (Unpoisoned s [o.b] →
      WritesX (.cAdd o) s o.d (a + b) 2 ∧ WritesX (.cSub o) s o.d (a - b) 2 ∧
      WritesX (.cAnd o) s o.d (a &&& b) 2 ∧ WritesX (.cOr o) s o.d (a ||| b) 2 ∧
      WritesX (.cXor o) s o.d (a ^^^ b) 2 ∧ WritesX (.cSll o) s o.d (a <<< (b.toNat % 64)) 2 ∧
      WritesX (.cSrl o) s o.d (a >>> (b.toNat % 64)) 2) ∧
    WritesX (.cAddi o) s o.d (a + o.b.signExtend 64) 2 ∧ WritesX (.cMv o) s o.d a 2

/-- R75: a register reads zero as `x0`; a write reaches exactly the named register, and one of `x0` none; R40: `lastd`. -/
def Obligations.RegisterWrite : Prop :=
  ∀ (s : State) (d r : BitVec 5) (v : Word),
    s.x 0 = 0 ∧
    (s.writeX d v).x r = (if r = 0 then 0 else if r = d then v else s.x r) ∧
    (s.writeX d v).xlast = (if d = 0 then s.xlast else d) ∧
    (s.writeX d v).vlast = s.vlast ∧
    (∀ k, 13 ≤ k ∨ 5 ≤ k ∧ k < 8 → (s.writeX d v).cur.u.lastd.getLsbD k = s.cur.u.lastd.getLsbD k) ∧
    (∀ q : BitVec 5, (s.writeX d v).xPoisoned [q] = (if q = d then false else s.xPoisoned [q])) ∧
    (∃ x p l, s.writeX d v =
      { s with cur := { s.cur with x := x, poison := { s.cur.poison with x := p }, u := { s.cur.u with lastd := l } } })

/-! ## Vocabulary of the vector domain -/

namespace Sys2Proof.Claims

open Sys2Proof.Machine

/-- EW in bits, G and `rlen` in bytes, as `vtype` gives them (R10). -/
def ew (s : State) : Nat := 8 <<< (s.cur.u.vtype &&& 3).toNat
def grp (s : State) : Nat := 1 <<< ((s.cur.u.vtype >>> 2) &&& 3).toNat
def rlen (s : State) : Nat := 1024 <<< ((s.cur.u.vtype >>> 8) &&& 7).toNat
/-- TP, MP, and the flushes of inputs and results (R10, R61). -/
def tp (s : State) : Bool := s.cur.u.vtype.getLsbD 4
def mp (s : State) : Bool := s.cur.u.vtype.getLsbD 5
def fin (s : State) : Bool := s.cur.u.vtype.getLsbD 6
def fres (s : State) : Bool := s.cur.u.vtype.getLsbD 7
def vl (s : State) : Nat := s.cur.u.vl.toNat
def vstart (s : State) : Nat := s.cur.u.vstart.toNat

/-- Registers of a span of element width w (R104). -/
def span (s : State) (w : Nat) : Nat := max 1 (grp s * w / ew s)

/-- The span condition (R104). -/
def Aligned (s : State) (w : Nat) (r : BitVec 5) : Prop := r.toNat % span s w = 0 ∧ r.toNat + span s w ≤ 32

/-- No register of the span is poisoned (R321). -/
def Clean (s : State) (w : Nat) (r : BitVec 5) : Prop :=
  ∀ k, k < span s w → s.cur.poison.v.getLsbD (r.toNat + k) = false

/-- A source span that an instruction may read. -/
abbrev Source (s : State) (w : Nat) (r : BitVec 5) : Prop := Aligned s w r ∧ Clean s w r

/-- The spans share no register. -/
def Apart (s : State) (w : Nat) (r : BitVec 5) (w' : Nat) (r' : BitVec 5) : Prop :=
  r.toNat + span s w ≤ r'.toNat ∨ r'.toNat + span s w' ≤ r.toNat

/-- A destination span as R107 allows it beside a source span: apart, or the same elements at the same places. -/
def DestBeside (s : State) (w : Nat) (d : BitVec 5) (w' : Nat) (r : BitVec 5) : Prop :=
  Apart s w d w' r ∨ d = r ∧ w = w'

/-- Element i of a span (R104). -/
def el (s : State) (w : Nat) (r : BitVec 5) (i : Nat) : Nat := elem w (s.regBits (rlen s) r.toNat (span s w)) i

/-- A mask that an instruction may read (R321). -/
def MaskFree (s : State) (k : BitVec 4) : Prop := s.cur.poison.m.getLsbD k.toNat = false

/-- A governing mask that an instruction may read; 15 reads none (R27). -/
def GovFree (s : State) (mk : BitVec 4) : Prop := mk = 15 ∨ MaskFree s mk

/-- Bit i of a mask. -/
def bit (s : State) (k : BitVec 4) (i : Nat) : Bool := (vget (n := 4) s.cur.m k).testBit i

/-- Element i is active (R106). -/
def on (s : State) (mk : BitVec 4) (i : Nat) : Bool :=
  decide (i < vl s) && decide (vstart s ≤ i) && (decide (mk = 15) || bit s mk i)

/-- A push of class cls that reads the `x` registers xs is accepted, no older entry waits, of this thread or of one that had the context before
(R173), and the lanes of the context have a quad (R15, R31, R309, R321, R326). -/
structure Ready (s : State) (cls : Cls) (c : Bool) (xs : List (BitVec 5)) : Prop where
  user : s.user = true
  clean : s.xPoisoned xs = false
  legal : (nextConvoy s.cur.convoy c cls).legal = true
  idle : s.cur.viq = []
  old : s.oldEntries = []
  quad : s.hasQuad = true
  lanes : s.lanesNext = false

/-- `Ready`, and the instruction has elements (R12). -/
structure Works (s : State) (cls : Cls) (c : Bool) (xs : List (BitVec 5)) : Prop where
  ready : Ready s cls c xs
  some : vstart s < vl s

/-- What every completed vector instruction leaves: its convoy (R30), at whose start the quads are assigned (R172), `vstart` 0 (R11), one more
completed entry (R17), its flags (R62), its last destinations (R40). -/
def completed (s : State) (cls : Cls) (c : Bool) (vd xd : Option (BitVec 5)) (fl : Word) : State :=
  let s1 : State := { s with
    cur := { s.cur with
      convoy := some (nextConvoy s.cur.convoy c cls)
      u := { s.cur.u with vstart := 0, vcommit := s.cur.u.vcommit + 1, vflags := s.cur.u.vflags ||| (fl &&& 0x13F) } }
    core := { s.core with held := if c || s.cur.convoy.isNone then s.quadsMoved else s.core.held } }
  let s2 := match vd with
    | some d => s1.setVlast d
    | none => s1
  match xd with
  | some d => s2.setXlast d
  | none => s2

/-- The flags of the active elements, together. -/
def flagsOf (s : State) (act : Nat → Bool) (f : Nat → Word) : Word :=
  ((List.range (vl s)).map fun i => if act i then f i else 0).foldl (· ||| ·) 0

/-- Element i of a destination by R106: `old` before `vstart`; the result where active; by MP where masked off; by TP beyond `vl`. -/
def want (s : State) (act : Nat → Bool) (old f : Nat → Nat) (i : Nat) : Nat :=
  if i < vstart s then old i
  else if i < vl s then (if act i then f i else if mp s then 0 else old i)
  else if tp s then 0 else old i

/-- Element i of a destination is written by R106. -/
def wrote (s : State) (act : Nat → Bool) (i : Nat) : Bool :=
  if i < vstart s then false else if i < vl s then act i || mp s else tp s

/-- All elements of width w of register k of a span are written. -/
def filled (size w : Nat) (wr : Nat → Bool) (k : Nat) : Bool := (List.range (8 * size / w)).all fun j => wr (k * (8 * size / w) + j)

/-- `u` is `s0` with n registers from d on written, whose elements of width w `wr` names: dirty (R9), of tag t, and unpoisoned where they are
written whole (R321); every other register, and all else, is as in `s0`. -/
structure SpanWritten (s0 u : State) (size : Nat) (d : BitVec 5) (n : Nat) (t : Tag) (w : Nat) (wr : Nat → Bool) : Prop where
  frame : ∃ v dirty bad, u = { s0 with cur := { s0.cur with
    v := v, u := { s0.cur.u with vdirty := dirty }, poison := { s0.cur.poison with v := bad } } }
  dirty : ∀ k, k < 64 → u.cur.u.vdirty.getLsbD k = (s0.cur.u.vdirty.getLsbD k || decide (d.toNat ≤ k ∧ k < d.toNat + n))
  clean : ∀ k, k < 64 → u.cur.poison.v.getLsbD k =
    (s0.cur.poison.v.getLsbD k && !(decide (d.toNat ≤ k ∧ k < d.toNat + n) && filled size w wr (k - d.toNat)))
  others : ∀ r : BitVec 5, ¬ (d.toNat ≤ r.toNat ∧ r.toNat < d.toNat + n) → vget (n := 5) u.cur.v r = vget (n := 5) s0.cur.v r
  tags : ∀ r : BitVec 5, d.toNat ≤ r.toNat → r.toNat < d.toNat + n →
    (vget (n := 5) u.cur.v r).tag = t ∧ (vget (n := 5) u.cur.v r).bits < 2 ^ (8 * size)

/-- Every element of d's span, of width w and old bits in `s`, is as R106 says. -/
def ElementsAre (s u : State) (w : Nat) (d : BitVec 5) (act : Nat → Bool) (f : Nat → Nat) : Prop :=
  ∀ i, w * (i + 1) ≤ 8 * rlen s * span s w →
    elem w (u.regBits (rlen s) d.toNat (span s w)) i = want s act (el s w d) (fun i => f i % 2 ^ w) i

/-- An element-wise instruction of len bytes completes: the active elements of d's span, of width w, become f, under tag t, and
raise their flags. `s1` is the state with whatever else it does. -/
def VecDoneOn (s1 : State) (i : Instr) (s : State) (len : Nat) (cls : Cls) (c : Bool) (d : BitVec 5) (w : Nat) (t : Tag)
    (act : Nat → Bool) (f : Nat → Nat × Word) : Prop :=
  ∃ u, Gives i s (u.retire len) ∧
    SpanWritten (completed s1 cls c (some d) none (flagsOf s act fun i => (f i).2)) u (rlen s) d (span s w) t w
      (wrote s act) ∧
    ElementsAre s u w d act (fun i => (f i).1)

/-- `VecDoneOn` where nothing else happens. -/
abbrev VecDone (i : Instr) (s : State) (len : Nat) (cls : Cls) (c : Bool) (d : BitVec 5) (w : Nat) (t : Tag)
    (act : Nat → Bool) (f : Nat → Nat × Word) : Prop := VecDoneOn s i s len cls c d w t act f

/-- `u` is `s0` with mask k written, whose bits `wr` names of n: dirty, and unpoisoned where it is written whole. -/
structure MaskWritten (s0 u : State) (k : BitVec 4) (n : Nat) (wr : Nat → Bool) : Prop where
  frame : ∃ m dirty bad, u = { s0 with cur := { s0.cur with
    m := m, u := { s0.cur.u with xdirty := dirty }, poison := { s0.cur.poison with m := bad } } }
  dirty : u.cur.u.xdirty = s0.cur.u.xdirty ||| (1#64 <<< k.toNat)
  clean : u.cur.poison.m = if (List.range n).all wr then s0.cur.poison.m &&& ~~~(1#64 <<< k.toNat) else s0.cur.poison.m
  others : ∀ j : BitVec 4, j ≠ k → vget (n := 4) u.cur.m j = vget (n := 4) s0.cur.m j

/-- An instruction with a mask destination completes: bit i of mask d becomes f i where active, by R105 and R106 elsewhere. -/
def MaskDone (i : Instr) (s : State) (len : Nat) (c : Bool) (d : BitVec 5) (act : Nat → Bool) (f : Nat → Bool × Word) : Prop :=
  ∃ u, Gives i s (u.retire len) ∧
    MaskWritten (completed s .alu c none none (flagsOf s act fun i => (f i).2)) u (d.setWidth 4) (8 * rlen s) (wrote s act) ∧
    ∀ i, bit u (d.setWidth 4) i =
      (if i < vstart s then bit s (d.setWidth 4) i
       else if i < vl s then (if act i then (f i).1 else if mp s then false else bit s (d.setWidth 4) i)
       else if tp s then false else bit s (d.setWidth 4) i)

/-- An instruction that delivers v to `x[d]` completes. -/
def ScalarDone (i : Instr) (s : State) (len : Nat) (cls : Cls) (c : Bool) (d : BitVec 5) (v fl : Word) : Prop :=
  Gives i s (((completed s cls c none (some d) fl).putX d v).retire len)

/-- An instruction without element effect completes and writes nothing (R12). -/
def NothingDone (i : Instr) (s : State) (len : Nat) (cls : Cls) (c : Bool) (d : Option (BitVec 5)) : Prop :=
  Gives i s ((completed s cls c d none 0).retire len)

/-! ### The operations of R110 -/

/-- The number that an encoding stands for: integers by tag, floats decoded, after the input flush of R61 where it is an operand that
comes from a register (`reg`) and no immediate. -/
def numOf (reg : Bool) (s : State) (t : Tag) (b : Nat) : Exact :=
  if (tagKind t).isFloat then decodeFloat (fmtOf t) (flushIn (reg && fin s) (fmtOf t) b) else .ofInt (ival t b)

/-- The number that an element holds. -/
abbrev num (s : State) (t : Tag) (b : Nat) : Exact := numOf true s t b

/-- `round_to(x, tag, 0, 0)` under the result flush of R61. -/
def rounded (s : State) (t : Tag) (x : Exact × Word) : Nat × Word :=
  ((roundTo (fmtOf t) .rne false (fres s) x.1).1, x.2 ||| (roundTo (fmtOf t) .rne false (fres s) x.1).2)

/-- An operation on numbers: integers exactly and modulo 2^W, floats by one rounding. -/
def onNumbers (gi : Int → Int → Int) (gf : Exact → Exact → Exact × Word) (s : State) (reg : Bool) (t : Tag) (w a b : Nat) : Nat × Word :=
  if (tagKind t).isFloat then rounded s t (gf (num s t a) (numOf reg s t b)) else (cut w (gi (ival t a) (ival t b)), 0)

/-- An operation on integers alone. -/
def onIntegers (g : Int → Int → Int) (_ : State) (_ : Bool) (t : Tag) (w a b : Nat) : Nat × Word := (cut w (g (ival t a) (ival t b)), 0)

/-- An operation on encodings of w bits. -/
def onBits (g : (w : Nat) → BitVec w → BitVec w → BitVec w) (_ : State) (_ : Bool) (_ : Tag) (w a b : Nat) : Nat × Word :=
  ((g w (BitVec.ofNat w a) (BitVec.ofNat w b)).toNat, 0)

/-- A sum clamped to the range of the tag, with SAT (bit 5) on a clamp. -/
def clamped (g : Int → Int → Int) (_ : State) (_ : Bool) (t : Tag) (w a b : Nat) : Nat × Word :=
  let v := g (ival t a) (ival t b)
  if v < imin t then (cut w (imin t), 32) else if imax t < v then (cut w (imax t), 32) else (cut w v, 0)

/-- The smaller or the larger under R68. -/
def chosen (larger : Bool) (x y : Exact) : Exact × Word :=
  (match (pickMinMax larger x y).1 with | some true => x | some false => y | none => .nan false, (pickMinMax larger x y).2)

/-- One row of R110 with a vector destination. `kinds` are the kinds of a; `shift` rows take any I or X tag of a's width for b. The element
function gets whether b comes from a register. -/
structure Row where
  vv : OpVa → Instr
  vx : OpVa → Instr
  wide : OpVaW → Instr
  kinds : Kind → Bool
  shift : Bool
  tag : Tag → Tag
  f : State → Bool → Tag → Nat → Nat → Nat → Nat × Word

/-- I, X, F, B. -/
def numbers (k : Kind) : Bool := k.isIXFB
/-- All but W. -/
def notRow (k : Kind) : Bool := k != .row
/-- The tag itself. -/
def same (t : Tag) : Tag := t

/-- R110, rows 0–4. -/
noncomputable def sumRows : List Row :=
  [⟨.vaddVv, .vaddVx, .vaddVxWide, numbers, false, same, onNumbers (fun a b => a + b) (Exact.add .rne)⟩,
   ⟨.vsubVv, .vsubVx, .vsubVxWide, numbers, false, same, onNumbers (fun a b => a - b) fun a b => Exact.add .rne a b.neg⟩,
   ⟨.vrsubVv, .vrsubVx, .vrsubVxWide, numbers, false, same, onNumbers (fun a b => b - a) fun a b => Exact.add .rne b a.neg⟩,
   ⟨.vminVv, .vminVx, .vminVxWide, numbers, false, same, onNumbers min (chosen false)⟩,
   ⟨.vmaxVv, .vmaxVx, .vmaxVxWide, numbers, false, same, onNumbers max (chosen true)⟩]

/-- R110, rows 5–11. -/
noncomputable def bitRows : List Row :=
  [⟨.vandVv, .vandVx, .vandVxWide, notRow, false, same, onBits fun _ a b => a &&& b⟩,
   ⟨.vorVv, .vorVx, .vorVxWide, notRow, false, same, onBits fun _ a b => a ||| b⟩,
   ⟨.vxorVv, .vxorVx, .vxorVxWide, notRow, false, same, onBits fun _ a b => a ^^^ b⟩,
   ⟨.vandnVv, .vandnVx, .vandnVxWide, notRow, false, same, onBits fun _ a b => a &&& ~~~b⟩,
   ⟨.vsllVv, .vsllVx, .vsllVxWide, Kind.isIX, true, same, onBits fun w a b => a <<< (b.toNat % w)⟩,
   ⟨.vsrlVv, .vsrlVx, .vsrlVxWide, Kind.isIX, true, same, onBits fun w a b => a >>> (b.toNat % w)⟩,
   ⟨.vsraVv, .vsraVx, .vsraVxWide, Kind.isIX, true, same, onBits fun w a b => a.sshiftRight (b.toNat % w)⟩]

/-- The sign of b on the magnitude of a; a binary8 zero or NaN stays (R110). -/
def signOf (_ : State) (_ : Bool) (t : Tag) (w a b : Nat) : Nat × Word :=
  if tagKind t = .b8 ∧ a % 2 ^ (w - 1) = 0 then (a, 0) else (a % 2 ^ (w - 1) + b / 2 ^ (w - 1) % 2 * 2 ^ (w - 1), 0)

/-- R110, rows 12–18 and 27. -/
noncomputable def intRows : List Row :=
  [⟨.vsaddVv, .vsaddVx, .vsaddVxWide, Kind.isInt, false, same, clamped fun a b => a + b⟩,
   ⟨.vssubVv, .vssubVx, .vssubVxWide, Kind.isInt, false, same, clamped fun a b => a - b⟩,
   ⟨.vabsdVv, .vabsdVx, .vabsdVxWide, (fun k => k.isInt || k.isFloat), false,
     (fun t => if (tagKind t).isInt then tagUint (tagWidth t) else t),
     onNumbers (fun a b => (a - b).natAbs) fun a b => ((Exact.add .rne a b.neg).1.abs, (Exact.add .rne a b.neg).2)⟩,
   ⟨.vavgVv, .vavgVx, .vavgVxWide, Kind.isInt, false, same, onIntegers fun a b => (a + b + 1) / 2⟩,
   ⟨.vmulhVv, .vmulhVx, .vmulhVxWide, Kind.isInt, false, same, fun s r t w => onIntegers (fun a b => a * b / 2 ^ w) s r t w⟩,
   ⟨.vdivVv, .vdivVx, .vdivVxWide, (fun k => k.isInt || k.isFloat), false, same,
     onNumbers (fun a b => if b = 0 then -1 else a.tdiv b) Exact.div⟩,
   ⟨.vremVv, .vremVx, .vremVxWide, Kind.isInt, false, same, onIntegers fun a b => if b = 0 then a else a.tmod b⟩]

/-- `VSGNJ`. -/
noncomputable def signRow : Row :=
  ⟨.vsgnjVv, .vsgnjVx, .vsgnjVxWide, fun k => k.isF || k == .b8, false, same, signOf⟩

/-- The element width of a tag; nibbles and rows go by whole bytes (R104, R110). -/
def bytesOf (t : Tag) : Nat := if (tagKind t).isNW then 8 else tagWidth t

/-- An immediate of a wide VX form under tag t (R109): sign-extended and cut, or the FP32 value converted, in a rounding that
flushes tiny results where `flush` says so: as R61 lets arithmetic flush them (log entry 22), and never in `VMV` and `VMERGE` (R111). -/
def immediate (flush : Bool) (t : Tag) (w : Nat) (v : BitVec 32) : Nat :=
  if (tagKind t).isFloat then (roundTo (fmtOf t) .rne false flush (decodeFloat fmtFp32 v.toNat)).1 else cut w v.toInt

/-- Operand a and the destination of an operation whose result has a's width: a well-formed tag of an accepted kind and of width EW
(R47), both spans as R104 demands, nothing poisoned. -/
structure Operand (s : State) (kinds : Kind → Bool) (d a : BitVec 5) (mk : BitVec 4) : Prop where
  tag : tagOk (s.vtag a) = true
  kind : kinds (tagKind (s.vtag a)) = true
  width : bytesOf (s.vtag a) = ew s
  source : Source s (ew s) a
  dest : Aligned s (ew s) d
  gov : GovFree s mk

/-- A row of R110 in its three forms: the element function on a and b, in the destination's active elements. -/
def Row.Holds (r : Row) : Prop :=
  (∀ (o : OpVa) (s : State), Works s .alu o.c [] → Operand s r.kinds o.d o.a o.m → Source s (ew s) o.b →
    (if r.shift then tagOk (s.vtag o.b) ∧ (tagKind (s.vtag o.b)).isIX ∧ tagWidth (s.vtag o.b) = ew s
      else s.vtag o.b = s.vtag o.a) →
    VecDone (r.vv o) s 4 .alu o.c o.d (ew s) (r.tag (s.vtag o.a)) (on s o.m) fun i =>
      r.f s true (s.vtag o.a) (ew s) (el s (ew s) o.a i) (el s (ew s) o.b i)) ∧
  (∀ (o : OpVa) (s : State), Works s .alu o.c [o.b] → Operand s r.kinds o.d o.a o.m →
    VecDone (r.vx o) s 4 .alu o.c o.d (ew s) (r.tag (s.vtag o.a)) (on s o.m) fun i =>
      r.f s true (s.vtag o.a) (ew s) (el s (ew s) o.a i) ((s.x o.b).toNat % 2 ^ ew s)) ∧
  (∀ (o : OpVaW) (s : State), Works s .alu o.c [] → Operand s r.kinds o.d o.a o.m → numbers (tagKind (s.vtag o.a)) = true →
    VecDone (r.wide o) s 8 .alu o.c o.d (ew s) (r.tag (s.vtag o.a)) (on s o.m) fun i =>
      r.f s false (s.vtag o.a) (ew s) (el s (ew s) o.a i) (immediate (fres s) (s.vtag o.a) (ew s) o.imm))

/-- A comparison of R110: the relation on numbers (R67), 1 or 0 in a mask bit. -/
structure CmpRow where
  vv : OpVa → Instr
  vx : OpVa → Instr
  wide : OpVaW → Instr
  rel : Rel

noncomputable def cmpRows : List CmpRow :=
  [⟨.vceqVv, .vceqVx, .vceqVxWide, .eq⟩, ⟨.vcneVv, .vcneVx, .vcneVxWide, .ne⟩, ⟨.vcltVv, .vcltVx, .vcltVxWide, .lt⟩,
   ⟨.vcleVv, .vcleVx, .vcleVxWide, .le⟩, ⟨.vcgtVv, .vcgtVx, .vcgtVxWide, .gt⟩, ⟨.vcgeVv, .vcgeVx, .vcgeVxWide, .ge⟩]

/-- Operand a of an instruction without a vector destination. -/
structure Reads (s : State) (kinds : Kind → Bool) (a : BitVec 5) (mk : BitVec 4) : Prop where
  tag : tagOk (s.vtag a) = true
  kind : kinds (tagKind (s.vtag a)) = true
  width : bytesOf (s.vtag a) = ew s
  source : Source s (ew s) a
  gov : GovFree s mk

/-- The relation holds between the numbers (R67, R110). -/
def holds (r : Rel) (s : State) (reg : Bool) (t : Tag) (a b : Nat) : Bool × Word :=
  if (tagKind t).isFloat then relate r (num s t a) (numOf reg s t b)
  else
    (match r with
      | .eq => decide (ival t a = ival t b)
      | .ne => decide (ival t a ≠ ival t b)
      | .lt => decide (ival t a < ival t b)
      | .le => decide (ival t a ≤ ival t b)
      | .gt => decide (ival t b < ival t a)
      | .ge => decide (ival t b ≤ ival t a), 0)

def CmpRow.Holds (r : CmpRow) : Prop :=
  (∀ (o : OpVa) (s : State), Works s .alu o.c [] → Reads s numbers o.a o.m → Source s (ew s) o.b → s.vtag o.b = s.vtag o.a →
    MaskDone (r.vv o) s 4 o.c o.d (on s o.m) fun i => holds r.rel s true (s.vtag o.a) (el s (ew s) o.a i) (el s (ew s) o.b i)) ∧
  (∀ (o : OpVa) (s : State), Works s .alu o.c [o.b] → Reads s numbers o.a o.m →
    MaskDone (r.vx o) s 4 o.c o.d (on s o.m) fun i =>
      holds r.rel s true (s.vtag o.a) (el s (ew s) o.a i) ((s.x o.b).toNat % 2 ^ ew s)) ∧
  (∀ (o : OpVaW) (s : State), Works s .alu o.c [] → Reads s numbers o.a o.m →
    MaskDone (r.wide o) s 8 o.c o.d (on s o.m) fun i =>
      holds r.rel s false (s.vtag o.a) (el s (ew s) o.a i) (immediate (fres s) (s.vtag o.a) (ew s) o.imm))

end Sys2Proof.Claims

/-! ## Vector arithmetic -/

/-- R110: sums, differences, the smaller and the larger. -/
def Sys2Proof.Claims.VectorSums : Prop := ∀ r ∈ sumRows, r.Holds

/-- R110: bitwise operations and shifts. -/
def Sys2Proof.Claims.VectorBits : Prop := ∀ r ∈ bitRows, r.Holds

/-- R110 and R49: the clamped, halved, high, divided and absolute forms, and `VSGNJ` on F and signed binary8. -/
def Sys2Proof.Claims.VectorIntegers : Prop :=
  (∀ r ∈ intRows, r.Holds) ∧
  (∀ (o : OpVa) (s : State), Works s .alu o.c [o.b] → Operand s signRow.kinds o.d o.a o.m → tagUns (s.vtag o.a) = false →
    VecDone (signRow.vx o) s 4 .alu o.c o.d (ew s) (s.vtag o.a) (on s o.m) fun i =>
      signOf s true (s.vtag o.a) (ew s) (el s (ew s) o.a i) ((s.x o.b).toNat % 2 ^ ew s)) ∧
  (∀ (o : OpVa) (s : State), Works s .alu o.c [] → Operand s signRow.kinds o.d o.a o.m → tagUns (s.vtag o.a) = false →
    Source s (ew s) o.b → s.vtag o.b = s.vtag o.a →
    VecDone (signRow.vv o) s 4 .alu o.c o.d (ew s) (s.vtag o.a) (on s o.m) fun i =>
      signOf s true (s.vtag o.a) (ew s) (el s (ew s) o.a i) (el s (ew s) o.b i)) ∧
  (∀ (o : OpVaW) (s : State), Works s .alu o.c [] → Operand s signRow.kinds o.d o.a o.m → tagUns (s.vtag o.a) = false →
    VecDone (signRow.wide o) s 8 .alu o.c o.d (ew s) (s.vtag o.a) (on s o.m) fun i =>
      signOf s false (s.vtag o.a) (ew s) (el s (ew s) o.a i) (immediate (fres s) (s.vtag o.a) (ew s) o.imm))

/-- R110, R67 and R105: the six comparisons write the mask that d names. -/
def Sys2Proof.Claims.VectorComparisons : Prop := ∀ r ∈ cmpRows, r.Holds

/-- R111: `VMERGE` selects by the mask, for all kinds; `VMV` moves. -/
def Sys2Proof.Claims.VectorMoves : Prop :=
  (∀ (o : OpVa) (s : State), Works s .alu o.c [] → o.m ≠ 15 → Operand s (fun _ => true) o.d o.a o.m → Source s (ew s) o.b →
    s.vtag o.b = s.vtag o.a →
    VecDone (.vmergeVv o) s 4 .alu o.c o.d (ew s) (s.vtag o.a) (on s 15) fun i =>
      (if bit s o.m i then el s (ew s) o.b i else el s (ew s) o.a i, 0)) ∧
  (∀ (o : OpVa) (s : State), Works s .alu o.c [o.b] → o.m ≠ 15 → Operand s (fun _ => true) o.d o.a o.m →
    VecDone (.vmergeVx o) s 4 .alu o.c o.d (ew s) (s.vtag o.a) (on s 15) fun i =>
      (if bit s o.m i then (s.x o.b).toNat % 2 ^ ew s else el s (ew s) o.a i, 0)) ∧
  (∀ (o : OpVaW) (s : State), Works s .alu o.c [] → o.m ≠ 15 → Operand s numbers o.d o.a o.m →
    VecDone (.vmergeVxWide o) s 8 .alu o.c o.d (ew s) (s.vtag o.a) (on s 15) fun i =>
      (if bit s o.m i then immediate false (s.vtag o.a) (ew s) o.imm else el s (ew s) o.a i, 0)) ∧
  (∀ (o : OpVa) (s : State), Works s .alu o.c [] → Operand s (fun _ => true) o.d o.a o.m →
    VecDone (.vmvVv o) s 4 .alu o.c o.d (ew s) (s.vtag o.a) (on s o.m) fun i => (el s (ew s) o.a i, 0)) ∧
  (∀ (o : OpVa) (s : State), Works s .alu o.c [o.b] → tagOk (s.vtag o.a) → numbers (tagKind (s.vtag o.a)) →
    tagWidth (s.vtag o.a) = ew s → Aligned s (ew s) o.a → Aligned s (ew s) o.d → GovFree s o.m →
    VecDone (.vmvVx o) s 4 .alu o.c o.d (ew s) (s.vtag o.a) (on s o.m) fun _ => ((s.x o.b).toNat % 2 ^ ew s, 0)) ∧
  (∀ (o : OpVaW) (s : State), Works s .alu o.c [] → tagOk (s.vtag o.a) → numbers (tagKind (s.vtag o.a)) →
    tagWidth (s.vtag o.a) = ew s → Aligned s (ew s) o.a → Aligned s (ew s) o.d → GovFree s o.m →
    VecDone (.vmvVxWide o) s 8 .alu o.c o.d (ew s) (s.vtag o.a) (on s o.m) fun _ =>
      (immediate false (s.vtag o.a) (ew s) o.imm, 0))

/-! ## Fused, unary and special operations -/

namespace Sys2Proof.Claims

open Sys2Proof.Machine

/-- A format override, or the tag (R64). -/
def given (o t : Tag) : Tag := if o = 0 then t else o

/-- One rounding to D (R113): a float format by `round_to`; an integer from integers wrapped or clamped; an integer from floats by R60. -/
def finish (s : State) (f : FmtReg) (d : Tag) (floats : Bool) (x : Exact) : Nat × Word :=
  if (tagKind d).isFloat then roundTo (fmtOf d) f.rnd f.sat (fres s) x
  else if floats then floatToInt f.rnd d x
  else intToInt f.rnd f.sat d x

/-- A zero of integers has no sign. -/
def unsigned : Exact → Exact
  | .fin _ 0 d => .fin false 0 d
  | x => x

/-- The exact product under a's tag (R58). -/
def times (ta : Tag) (x y : Exact) : Exact × Word :=
  (if (tagKind ta).isFloat then (Exact.mul x y).1 else unsigned (Exact.mul x y).1, (Exact.mul x y).2)

/-- `VFMA`, `VFMS`, `VFNMA`, `VMUL`: the exact t before the last scale, from the change of sign of products, the product and the addend
(R113). -/
structure FusedRow where
  vfv : OpVf → Instr
  vfx : OpVf → Instr
  addend : Bool
  t : Rnd → (Exact → Exact) → Exact → Exact → Exact × Word

noncomputable def fusedRows : List FusedRow :=
  [⟨.vfmaVfv, .vfmaVfx, true, fun r _ p c => Exact.add r p c⟩,
   ⟨.vfmsVfv, .vfmsVfx, true, fun r _ p c => Exact.add r p c.neg⟩,
   ⟨.vfnmaVfv, .vfnmaVfx, true, fun r n p c => Exact.add r (n p) c⟩,
   ⟨.vmulVfv, .vmulVfx, false, fun _ _ p _ => (p, 0)⟩]

/-- One element of R113. -/
def FusedRow.element (r : FusedRow) (s : State) (f : FmtReg) (ta tb d : Tag) (a b c : Nat) : Nat × Word :=
  let p := times ta ((num s ta a).scale f.sa) ((num s tb b).scale f.sb)
  let t := r.t f.rnd (fun x => if (tagKind ta).isFloat then x.neg else unsigned x.neg) p.1 (num s d c)
  let y := finish s f d (tagKind ta).isFloat (t.1.scale f.sd)
  (y.1, p.2 ||| t.2 ||| y.2)

/-- Both integers, or both floats. -/
def sameClass (a b : Tag) : Prop :=
  (tagKind a).isInt = true ∧ (tagKind b).isInt = true ∨ (tagKind a).isFloat = true ∧ (tagKind b).isFloat = true

/-- The formats and operands of R112 but for operand b. -/
structure Fused (r : FusedRow) (s : State) (o : OpVf) (f : FmtReg) (ta tb d : Tag) : Prop where
  fmt : fmtReg (s.fm o.fs) = .ok f
  isA : ta = given f.atag (s.vtag o.a) ∧ tagOk ta
  isB : tagOk tb
  cls : sameClass ta tb
  isD : d = given f.dfmt ta ∧ (f.dfmt ≠ 0 ∨ ta = tb) ∧ tagOk d
  kind : tagKind d ≠ .row ∧ (r.addend = true → tagKind d ≠ .nib)
  source : Source s (tagWidth ta) o.a
  dest : Aligned s (numWidth d) o.d
  beside : DestBeside s (numWidth d) o.d (tagWidth ta) o.a
  addend : r.addend = true → s.vtag o.d = d ∧ Clean s (numWidth d) o.d
  gov : GovFree s o.m

/-- Operand b in a register. -/
structure FusedReg (s : State) (o : OpVf) (f : FmtReg) (tb d : Tag) : Prop where
  tag : tb = given f.btag (s.vtag o.b)
  source : Source s (tagWidth tb) o.b
  beside : DestBeside s (numWidth d) o.d (tagWidth tb) o.b

/-- A row of R113 in VFV and VFX. -/
def FusedRow.Holds (r : FusedRow) : Prop :=
  (∀ (o : OpVf) (s : State) (f : FmtReg) (ta tb d : Tag), Works s .fma o.c [] → Fused r s o f ta tb d → FusedReg s o f tb d →
    VecDone (r.vfv o) s 4 .fma o.c o.d (numWidth d) d (on s o.m) fun i =>
      r.element s f ta tb d (el s (tagWidth ta) o.a i) (el s (tagWidth tb) o.b i) (el s (numWidth d) o.d i)) ∧
  (∀ (o : OpVf) (s : State) (f : FmtReg) (ta tb d : Tag), Works s .fma o.c [o.b] → Fused r s o f ta tb d →
    tb = given f.btag ta →
    VecDone (r.vfx o) s 4 .fma o.c o.d (numWidth d) d (on s o.m) fun i =>
      r.element s f ta tb d (el s (tagWidth ta) o.a i) ((s.x o.b).toNat % 2 ^ tagWidth tb) (el s (numWidth d) o.d i))

/-- A row of R116. `D` relates DFMT, a's format and the destination format. -/
structure UnaryRow where
  i : OpVu → Instr
  cls : Cls
  kinds : Tag → Bool
  D : Tag → Tag → Tag → Prop
  f : State → FmtReg → Tag → Tag → Nat → Nat × Word

/-- DFMT is 0 or the result tag r of R116. -/
def fixedD (r : Tag → Tag) (dfmt t d : Tag) : Prop := d = r t ∧ (dfmt = 0 ∨ dfmt = d)
/-- DFMT names D. -/
def givenD (dfmt _ d : Tag) : Prop := d = dfmt ∧ dfmt ≠ 0 ∧ tagOk d ∧ tagKind d ≠ .row
/-- a's format, or any F or B format of at most 32 bits. -/
def floatD (dfmt t d : Tag) : Prop :=
  d = t ∧ dfmt = 0 ∨ d = dfmt ∧ dfmt ≠ 0 ∧ tagOk d ∧ (tagKind d).isFloat ∧ tagWidth d ≤ 32

/-- An integer result modulo 2^W, or clamped with SAT when the format register says so. -/
def wrapOrClamp (f : FmtReg) (t : Tag) (v : Int) : Nat × Word :=
  if f.sat then
    (if v < imin t then (cut (tagWidth t) (imin t), 32) else if imax t < v then (cut (tagWidth t) (imax t), 32)
      else (cut (tagWidth t) v, 0))
  else (cut (tagWidth t) v, 0)

/-- The sign bit of an encoding changed; a binary8 zero or NaN stays (R54, R57). -/
def changeSign (t : Tag) (a : Nat) : Nat :=
  if tagKind t = .b8 ∧ a % 2 ^ (tagWidth t - 1) = 0 then a else a ^^^ 2 ^ (tagWidth t - 1)

/-- The sign bit cleared, but for unsigned binary8 and the binary8 NaN (R54, R57). -/
def clearSign (t : Tag) (a : Nat) : Nat :=
  if tagKind t = .b8 ∧ (tagUns t = true ∨ a = 0x80) then a else a % 2 ^ (tagWidth t - 1)

/-- The class numbers of R116; a value is subnormal where its exponent field is 0. -/
def classNumber (t : Tag) (a : Nat) : Nat :=
  let g := fmtOf t
  let small := (if g.signed then a % 2 ^ (g.width - 1) else a) / 2 ^ (g.prec - 1) = 0
  match decodeFloat g a with
  | .inf true => 0
  | .inf false => 7
  | .nan true => 8
  | .nan false => 9
  | .fin neg 0 _ => if neg then 3 else 4
  | .fin true _ _ => if small then 2 else 1
  | .fin false _ _ => if small then 5 else 6

/-- `VROUND` (R116). -/
def toInteger (s : State) (f : FmtReg) (t d : Tag) (a : Nat) : Nat × Word :=
  match (num s t a).scale f.sa with
  | .fin neg n m =>
    let q := roundInt f.rnd neg n m
    let y := roundTo (fmtOf d) f.rnd f.sat (fres s) ((Exact.fin neg q.1.natAbs 1).scale f.sd)
    (y.1, if q.2 then y.2 else y.2 ||| 1)
  | x => roundTo (fmtOf d) f.rnd f.sat (fres s) x

/-- The unsigned integer tag of a's width. -/
def unsignedOf (t : Tag) : Tag := tagUint (tagWidth t)

/-- R116 without the special functions and `VID`. -/
noncomputable def unaryRows : List UnaryRow :=
  [⟨.vcvt, .alu, (fun t => (tagKind t).isIXFB || tagKind t == .nib), givenD, fun s f t d a =>
      convert f.rnd f.sat (fres s) (!(tagKind t).isFloat) d ((num s t a).scale (f.sa + f.sd))⟩,
   ⟨.vneg, .alu, (fun t => (tagKind t).isInt || (tagKind t).isF || (tagKind t == .b8 && !tagUns t)), fixedD same,
     fun _ f t _ a => if (tagKind t).isInt then wrapOrClamp f t (-(ival t a)) else (changeSign t a, 0)⟩,
   ⟨.vabs, .alu, (fun t => (tagKind t).isInt || (tagKind t).isFloat), fixedD same,
     fun _ f t _ a => if (tagKind t).isInt then wrapOrClamp f t (ival t a).natAbs else (clearSign t a, 0)⟩,
   ⟨.vsqrt, .alu, (fun t => (tagKind t).isFloat), fixedD same, fun s f t d a =>
     let q := Exact.sqrt ((num s t a).scale f.sa)
     let y := roundTo (fmtOf d) f.rnd f.sat (fres s) (q.1.scale f.sd)
     (y.1, q.2 ||| y.2)⟩,
   ⟨.vround, .alu, (fun t => (tagKind t).isFloat), fixedD same, toInteger⟩,
   ⟨.vpopc, .alu, (fun t => (tagKind t).isIX), fixedD unsignedOf, fun _ _ t _ a =>
     ((List.range (tagWidth t)).countP fun k => a.testBit k, 0)⟩,
   ⟨.vclz, .alu, (fun t => (tagKind t).isIX), fixedD unsignedOf, fun _ _ t _ a => (tagWidth t - Nat.size a, 0)⟩,
   ⟨.vclass, .alu, (fun t => (tagKind t).isFloat), fixedD unsignedOf, fun _ _ t _ a => (classNumber t a, 0)⟩]

/-- A special function: q of R117 from the scaled input, × 2^SD, rounded to D; a free value with NX where the model's enclosures do
not settle q (log entry 8). -/
def special (fn : SpecialFn) (s : State) (f : FmtReg) (t d : Tag) (a : Nat) : Nat × Word :=
  match specialQ fn (fres s) ((num s t a).scale f.sa) with
  | some q => ((roundTo (fmtOf d) f.rnd f.sat (fres s) (q.1.scale f.sd)).1,
      q.2 ||| (roundTo (fmtOf d) f.rnd f.sat (fres s) (q.1.scale f.sd)).2)
  | none => ((s.pick (2 ^ 64)).1 % 2 ^ tagWidth d, 1)

noncomputable def specialRows : List UnaryRow :=
  [(.vrcp, .rcp), (.vrsqrt, .rsqrt), (.vexp2, .exp2), (.vlog2, .log2), (.vtanh, .tanh), (.vsigm, .sigm), (.verf, .erf)].map
    fun (p : (OpVu → Instr) × SpecialFn) =>
      ⟨p.1, .sfu, (fun t => (tagKind t).isFloat && t != tagFp64), floatD, special p.2⟩

/-- A row of R116 or R117. The step draws one free value, which only a special function may use. -/
def UnaryRow.Holds (r : UnaryRow) : Prop :=
  ∀ (o : OpVu) (s : State) (f : FmtReg) (t d : Tag), Works s r.cls o.c [] → fmtReg (s.fm o.fs) = .ok f →
    t = given f.atag (s.vtag o.a) → tagOk t → r.kinds t = true → r.D f.dfmt t d →
    Source s (numWidth t) o.a → Aligned s (numWidth d) o.d → DestBeside s (numWidth d) o.d (numWidth t) o.a → GovFree s o.m →
    VecDoneOn (s.setFree (s.free + 1)) (r.i o) s 4 r.cls o.c o.d (numWidth d) d (on s o.m) fun i =>
      r.f s f t d (el s (numWidth t) o.a i)

/-- One element of `VDOT`: the exact sum of n products of sub-elements, then R113 for D (R114). -/
def dotElement (s : State) (f : FmtReg) (ta tb d : Tag) (n : Nat) (a b : Nat → Nat) (c : Nat) (i : Nat) : Nat × Word :=
  let ps := (List.range' (n * i) n).map fun k => times ta (num s ta (a k)) (num s tb (b k))
  let sm := Exact.sum f.rnd (ps.map (·.1))
  let t := Exact.add f.rnd (sm.1.scale (f.sa + f.sb)) (num s d c)
  let y := finish s f d false (t.1.scale f.sd)
  (y.1, (ps.map (·.2)).foldl (· ||| ·) 0 ||| sm.2 ||| t.2 ||| y.2)

/-- The pairs of R114: both 8-bit integers, both nibbles, both binary8; the sub-element width and D. -/
inductive DotPair : Tag → Tag → Nat → Tag → Prop
  | ints (a b) (ha : a = 0x000 ∨ a = 0x001) (hb : b = 0x000 ∨ b = 0x001) :
      DotPair a b 8 (if a = 0x001 ∧ b = 0x001 then 0x011 else 0x010)
  | nibbles (a b) (ha : a = 0x007 ∨ a = 0x107) (hb : b = 0x007 ∨ b = 0x107) :
      DotPair a b 4 (if a = 0x107 ∧ b = 0x107 then 0x011 else 0x010)
  | binary8 (a b) (ha : tagOk a ∧ tagKind a = .b8) (hb : tagOk b ∧ tagKind b = .b8) : DotPair a b 8 tagFp32

/-- The score x of R120: value × 2^SA in FP32, and its flags. -/
def score (s : State) (f : FmtReg) (ta : Tag) (a : Nat) : Exact × Word :=
  let y := roundTo fmtFp32 .rne false (fres s) ((num s ta a).scale f.sa)
  (decodeFloat fmtFp32 y.1, y.2)

/-- c and p of R120 where N is above −∞, and their flags. -/
def weights (s : State) (f : FmtReg) (dt : Tag) (m x n : Exact) : Nat × Nat × Word :=
  let free := (s.pick (2 ^ 64)).1
  let dc := Exact.add .rne m n.neg
  let c := pow2 dc.1 fmtFp32 .rne false (fres s) 0 free
  let dp := Exact.add .rne x n.neg
  let p := pow2 dp.1 (fmtOf dt) f.rnd f.sat (fres s) f.sd free
  (c.1, p.1, dc.2 ||| c.2 ||| dp.2 ||| p.2)

/-- The new M, S, C, the weight p and the flags of one row (R120), from the encodings of a, M and S. -/
def softmaxRow (s : State) (f : FmtReg) (ta dt : Tag) (a mv sv : Nat) : (Nat × Nat × Nat) × Nat × Word :=
  let x := score s f ta a
  if x.1.isNan then ((mv, 0x7FC00000, 0x3F800000), (fmtOf dt).nanBits, x.2)
  else
    let n := chosen true (num s tagFp32 mv) x.1
    let cp : Nat × Nat × Word :=
      if n.1 = .inf true then (0x3F800000, 0, 0) else weights s f dt (num s tagFp32 mv) x.1 n.1
    let pr := Exact.mul (num s tagFp32 sv) (decodeFloat fmtFp32 cp.1)
    let sm := Exact.add .rne pr.1 (decodeFloat (fmtOf dt) cp.2.1)
    let y := roundTo fmtFp32 .rne false (fres s) sm.1
    (((roundTo fmtFp32 .rne false false n.1).1, y.1, cp.1), cp.2.1, x.2 ||| n.2 ||| cp.2.2 ||| pr.2 ||| sm.2 ||| y.2)

/-- Register b + kG of the three state spans of R119. -/
def stateReg (s : State) (o : OpVf) (k : Nat) : BitVec 5 := BitVec.ofNat 5 (o.b.toNat + k * grp s)

/-- The limits of R119. -/
structure Softmax (s : State) (o : OpVf) (f : FmtReg) (ta dt : Tag) : Prop where
  fmt : fmtReg (s.fm o.fs) = .ok f
  width : ew s = 32
  a : ta = given f.atag (s.vtag o.a) ∧ tagOk ta
  kind : ta = tagFp32 ∨ ta = tagFp16 ∨ ta = tagBf16 ∨ tagKind ta = .b8
  d : dt = given f.dfmt tagFp32 ∧ tagOk dt ∧ (tagKind dt).isFloat ∧ tagWidth dt ≤ 32
  place : o.b.toNat % grp s = 0 ∧ o.b.toNat + 3 * grp s ≤ 32
  tags : ∀ k, k < 3 * grp s → s.vtag (BitVec.ofNat 5 (o.b.toNat + k)) = tagFp32
  clean : ∀ k, k < 3 * grp s → s.cur.poison.v.getLsbD (o.b.toNat + k) = false
  source : Source s (tagWidth ta) o.a
  dest : Aligned s (tagWidth dt) o.d
  beside : DestBeside s (tagWidth dt) o.d (tagWidth ta) o.a
  apart : o.d.toNat + span s (tagWidth dt) ≤ o.b.toNat ∨ o.b.toNat + 3 * grp s ≤ o.d.toNat
  states : ∀ k, k < 3 → DestBeside s 32 (stateReg s o k) (tagWidth ta) o.a
  gov : GovFree s o.m

end Sys2Proof.Claims

/-- R112, R113: the fused operations in VFV and VFX, with every format and scale. -/
def Sys2Proof.Claims.FusedFloats : Prop := ∀ r ∈ fusedRows, r.Holds

/-- R113 for integers without scales: products and sums exactly, wrapped modulo 2^W or clamped to D with SAT. -/
def Sys2Proof.Claims.FusedIntegers : Prop :=
  ∀ (s : State) (f : FmtReg) (ta tb d : Tag) (a b c : Nat), f.sa = 0 → f.sb = 0 → f.sd = 0 →
    (tagKind ta).isInt → (tagKind tb).isInt → (tagKind d).isInt →
    let out (v : Int) : Nat × Word :=
      if f.sat = false then (cut (tagWidth d) v, 0)
      else if v < imin d then (cut (tagWidth d) (imin d), 32)
      else if imax d < v then (cut (tagWidth d) (imax d), 32) else (cut (tagWidth d) v, 0)
    let p := ival ta a * ival tb b
    fusedRows.map (fun r => r.element s f ta tb d a b c) =
      [out (p + ival d c), out (p - ival d c), out (-p + ival d c), out p]

/-- R116: conversions, signs, roots, rounding, counts and classes. -/
def Obligations.UnaryResults : Prop := ∀ r ∈ unaryRows, r.Holds

/-- R117 by the model's enclosures (log entry 8), and R116's `VID`. -/
def Sys2Proof.Claims.SpecialResults : Prop :=
  (∀ r ∈ specialRows, r.Holds) ∧
  (∀ (o : OpVu) (s : State) (f : FmtReg), Works s .alu o.c [] → fmtReg (s.fm o.fs) = .ok f →
    (f.dfmt = 0 ∨ f.dfmt = tagId (ew s)) → Aligned s (ew s) o.d → GovFree s o.m →
    VecDone (.vid o) s 4 .alu o.c o.d (ew s) (if ew s = 8 then 0x001 else if ew s = 16 then 0x009 else if ew s = 32 then 0x015
      else 0x01D) (on s o.m) fun i => (i % 2 ^ ew s, 0))

/-- R117: the values that the rule names at the ends of the special functions, with their flags (NV 16, DZ 8). -/
def Sys2Proof.Claims.SpecialValues : Prop :=
  ∀ b : Bool,
    specialQ .rcp b (.zero false) = some (.inf false, 8) ∧ specialQ .rcp b (.zero true) = some (.inf true, 8) ∧
    specialQ .rsqrt b (.zero false) = some (.inf false, 8) ∧ specialQ .rsqrt b (.zero true) = some (.inf true, 8) ∧
    (∀ n d, 0 < n → 0 < d → specialQ .rsqrt b (.fin true n d) = some (.nan false, 16)) ∧
    (∃ z, specialQ .exp2 b (.inf true) = some (z, 0) ∧ z.isZero = true ∧ z.sign = false) ∧
    specialQ .log2 b (.zero false) = some (.inf true, 8) ∧ specialQ .log2 b (.zero true) = some (.inf true, 8) ∧
    (∀ n d, 0 < n → 0 < d → specialQ .log2 b (.fin true n d) = some (.nan false, 16)) ∧
    (∀ neg, specialQ .tanh b (.zero neg) = some (.zero neg, 0)) ∧
    (∀ fn sig, ∃ q fl, specialQ fn b (.nan sig) = some (q, fl) ∧ q.isNan = true ∧ fl = if sig then 16 else 0)

/-- R114: dot products of narrow elements. -/
def Sys2Proof.Claims.DotProducts : Prop :=
  ∀ (o : OpVf) (s : State) (f : FmtReg) (ta tb d : Tag) (w : Nat), Works s .fma o.c [] → fmtReg (s.fm o.fs) = .ok f → ew s = 32 →
    ta = given f.atag (s.vtag o.a) → tb = given f.btag (s.vtag o.b) → DotPair ta tb w d → (f.dfmt = 0 ∨ f.dfmt = d) →
    s.vtag o.d = d → Source s 32 o.a → Source s 32 o.b → Source s 32 o.d → GovFree s o.m →
    VecDone (.vdot o) s 4 .fma o.c o.d 32 d (on s o.m) fun i =>
      dotElement s f ta tb d (32 / w) (el s w o.a) (el s w o.b) (el s 32 o.d i) i

/-- R119, R120: the strip softmax updates M, S and C of the active rows and writes the weights. -/
def Sys2Proof.Claims.StripSoftmax : Prop :=
  ∀ (o : OpVf) (s : State) (f : FmtReg) (ta dt : Tag), Works s .sfu o.c [] → Softmax s o f ta dt →
    let row (i : Nat) := softmaxRow s f ta dt (el s (tagWidth ta) o.a i) (el s 32 (stateReg s o 0) i) (el s 32 (stateReg s o 1) i)
    ∃ u, Gives (.vssmx o) s (u.retire 4) ∧
      (∃ v dirty bad, u =
        let s0 := completed (s.setFree (s.free + 1)) .sfu o.c (some o.d) none (flagsOf s (on s o.m) fun i => (row i).2.2)
        { s0 with cur := { s0.cur with v := v, u := { s0.cur.u with vdirty := dirty }, poison := { s0.cur.poison with v := bad } } }) ∧
      (∀ r : BitVec 5, ¬ (o.d.toNat ≤ r.toNat ∧ r.toNat < o.d.toNat + span s (tagWidth dt)) →
        ¬ (o.b.toNat ≤ r.toNat ∧ r.toNat < o.b.toNat + 3 * grp s) → vget (n := 5) u.cur.v r = vget (n := 5) s.cur.v r) ∧
      (∀ r : BitVec 5, o.d.toNat ≤ r.toNat → r.toNat < o.d.toNat + span s (tagWidth dt) → (vget (n := 5) u.cur.v r).tag = dt) ∧
      (∀ r : BitVec 5, o.b.toNat ≤ r.toNat → r.toNat < o.b.toNat + 3 * grp s → (vget (n := 5) u.cur.v r).tag = tagFp32) ∧
      ElementsAre s u (tagWidth dt) o.d (on s o.m) (fun i => (row i).2.1) ∧
      (∀ i, 32 * (i + 1) ≤ 8 * rlen s * span s 32 →
        let new (k : Nat) := elem 32 (u.regBits (rlen s) (stateReg s o k).toNat (span s 32)) i
        if on s o.m i then new 0 = (row i).1.1 % 2 ^ 32 ∧ new 1 = (row i).1.2.1 % 2 ^ 32 ∧ new 2 = (row i).1.2.2 % 2 ^ 32
        else ∀ k, k < 3 → new k = el s 32 (stateReg s o k) i)

/-! ## Masks, reductions and element moves -/

namespace Sys2Proof.Claims

open Sys2Proof.Machine

/-- The active elements in ascending order. -/
def actives (s : State) (mk : BitVec 4) : List Nat := (List.range (vl s)).filter (on s mk)

/-- The mask that a mask-number field names. -/
abbrev mask (r : BitVec 5) : BitVec 4 := r.setWidth 4

/-- A data operand of R137 and R141: kind I, X, F or B, of width EW. -/
structure Data (s : State) (a : BitVec 5) (mk : BitVec 4) : Prop where
  tag : tagOk (s.vtag a) = true
  kind : (tagKind (s.vtag a)).isIXFB = true
  width : tagWidth (s.vtag a) = ew s
  source : Source s (ew s) a
  gov : GovFree s mk

/-- `s` with `vstart` read as 0 (R141, R152, R153). -/
def fromZero (s : State) : State := { s with cur := { s.cur with u := { s.cur.u with vstart := 0 } } }

/-- A whole-vector instruction completes: it has no use of `vstart`. -/
def WholeDoneBy (wr : Nat → Bool) (i : Instr) (s : State) (cls : Cls) (c : Bool) (d : BitVec 5) (w : Nat) (t : Tag) (act : Nat → Bool)
    (f : Nat → Nat) : Prop :=
  ∃ u, Gives i s (u.retire 4) ∧ SpanWritten (completed s cls c (some d) none 0) u (rlen s) d (span s w) t w wr ∧
    ElementsAre (fromZero s) u w d act f

/-- One that gives every active element a result. -/
abbrev WholeDone (i : Instr) (s : State) (cls : Cls) (c : Bool) (d : BitVec 5) (w : Nat) (t : Tag) (act : Nat → Bool)
    (f : Nat → Nat) : Prop := WholeDoneBy (wrote (fromZero s) act) i s cls c d w t act f

/-- A step of the scan of R140: the sum so far (an encoding; `fresh` says that it is an operand read from a register, so that R61 flushes it). -/
def scanStep (s : State) (t : Tag) (fresh : Bool) (acc x : Nat) : Nat × Word :=
  if (tagKind t).isFloat then
    rounded s t (Exact.add .rne (if fresh then num s t acc else decodeFloat (fmtOf t) acc) (num s t x))
  else (cut (ew s) (ival t acc + ival t x), 0)

/-- The sum after the elements of a list, with the flags of its last step. -/
def scanned (s : State) (t : Tag) (a : Nat → Nat) (init : Bool × Nat) (l : List Nat) : Nat × Word :=
  (l.foldl (fun (r : Bool × Nat × Word) i => (false, scanStep s t r.1 r.2.1 (a i))) (init.1, init.2, 0)).2

/-- The highest active element below `vstart`. -/
def scanBelow (s : State) (o : OpVa) : Option Nat :=
  ((List.range (min (vl s) (vstart s))).filter fun i => decide (o.m = 15) || bit s o.m i).getLast?

/-- The start of a scan: the highest active element of vd below `vstart`, else `x[b]` in element form (R140). -/
def scanInit (s : State) (o : OpVa) : Nat × Word :=
  match scanBelow s o with
  | some j => (el s (ew s) o.d j, 0)
  | none => elementForm (fin s) (fres s) (s.vtag o.a) (s.x o.b).toNat

/-- A partial sum of R70: absent or a value, with the flags so far. -/
abbrev Part := Option Exact × Word

/-- One rounded addition in format F. -/
def addRounded (s : State) (F : Fmt) (x y : Exact) : Exact × Word :=
  let t := Exact.add .rne x y
  let r := roundTo F .rne false (fres s) t.1
  (decodeFloat F r.1, t.2 ||| r.2)

/-- `comb` of R70. -/
def combine (s : State) (F : Fmt) (p q : Part) : Part :=
  match p.1, q.1 with
  | none, _ => (q.1, p.2 ||| q.2)
  | some _, none => (p.1, p.2 ||| q.2)
  | some x, some y => (some (addRounded s F x y).1, p.2 ||| q.2 ||| (addRounded s F x y).2)

/-- The value at place j after k levels of the pairwise tree (R70). -/
def pairwise (s : State) (F : Fmt) (t : Nat → Part) : Nat → Nat → Part
  | 0, j => t j
  | k + 1, j => combine s F (pairwise s F t k j) (pairwise s F t k (j + 2 ^ k))

/-- The sum of R70 over n blocks: encoding, value, flags. -/
def blockSum (s : State) (F : Fmt) (t : Nat → Part) (init : Nat × Exact × Word) : Nat → Nat × Exact × Word
  | 0 => init
  | n + 1 =>
    let acc := blockSum s F t init n
    let p := pairwise s F t 6 (64 * n)
    match p.1 with
    | none => (acc.1, acc.2.1, acc.2.2 ||| p.2)
    | some x =>
      let y := Exact.add .rne acc.2.1 x
      let r := roundTo F .rne false (fres s) y.1
      (r.1, decodeFloat F r.1, acc.2.2 ||| p.2 ||| y.2 ||| r.2)

/-- The accumulation format of R137: `fp64` for an `fp64` tag, else `fp32`. -/
def accTagOf (t : Tag) : Tag := if t = tagFp64 then tagFp64 else tagFp32

/-- The initial value `x[b]` in the accumulation format. -/
def initial (s : State) (t : Tag) (b : Word) : Nat × Exact × Word :=
  let v := b.toNat % 2 ^ tagWidth (accTagOf t)
  (v, num s (accTagOf t) v, 0)

/-- y is a sum of the terms, each with its flags, in some order and grouping: any two give way to their rounded sum until one is left (R73). -/
inductive SomeSum (s : State) (F : Fmt) : List (Exact × Word) → Exact × Word → Prop
  | one (x) : SomeSum s F [x] x
  | join (l r x z y) (h : l.Perm (x :: z :: r))
      (t : SomeSum s F (((addRounded s F x.1 z.1).1, x.2 ||| z.2 ||| (addRounded s F x.1 z.1).2) :: r) y) : SomeSum s F l y

/-- The sum of the scalar forms of the active elements modulo 2^64. -/
def wordSum (s : State) (o : OpVa) : Word :=
  s.x o.b + ((actives s o.m).map fun i => BitVec.ofNat 64 (scalarForm (s.vtag o.a) (el s (ew s) o.a i))).sum

/-- The extreme of the initial value and the active elements, floats under R68. -/
def extreme (larger : Bool) (s : State) (o : OpVa) : Word × Word :=
  let t := s.vtag o.a
  if (tagKind t).isFloat then
    let r := (actives s o.m).foldl (fun (a : Exact × Word) i =>
      ((chosen larger a.1 (num s t (el s (ew s) o.a i))).1, a.2 ||| (chosen larger a.1 (num s t (el s (ew s) o.a i))).2))
      ((initial s t (s.x o.b)).2.1, 0)
    (BitVec.ofNat 64 (roundTo (fmtOf (accTagOf t)) .rne false false r.1).1, r.2)
  else
    let b : Int := if tagKind t = .sint then (s.x o.b).toInt else (s.x o.b).toNat
    (BitVec.ofInt 64 ((actives s o.m).foldl (fun a i =>
      if larger then max a (ival t (el s (ew s) o.a i)) else min a (ival t (el s (ew s) o.a i))) b), 0)

/-- y ranks above x in R69: a number above a NaN, else by the order of R68. -/
def ranksAbove (larger : Bool) (x y : Exact) : Bool :=
  !y.isNan && (x.isNan || if larger then x.below y else y.below x)

/-- The index of R69: the first of the best. -/
def bestOf (larger : Bool) (v : Nat → Exact) : List Nat → Option Nat
  | [] => none
  | i :: l => some (l.foldl (fun b j => if ranksAbove larger (v b) (v j) then j else b) i)

/-- What `RMAXI` and `RMINI` leave: the index in `x[d]`, the element in `x[b]` unless d = b (R138). -/
def indexState (c : State) (o : OpVa) (i v : Word) : State := (if o.d = o.b then c else c.putX o.b v).putX o.d i

/-- The run of R153: elements in order until one depends on a member, or a break element has closed it. -/
def runOf (dep : Nat → Nat) (brk : Nat → Bool) : List Nat → List Nat → List Nat
  | run, [] => run
  | run, i :: l =>
    if 1 ≤ dep i ∧ dep i - 1 ∈ run then run else if brk i then run ++ [i] else runOf dep brk (run ++ [i]) l

end Sys2Proof.Claims

/-! ## Masks -/

/-- R133, R134, R151: the instructions that write a mask. -/
def Sys2Proof.Claims.MaskResults : Prop :=
  ∀ (o : OpVa) (s : State),
    (Works s .alu o.c [] → MaskFree s (mask o.a) → GovFree s o.m →
      (MaskFree s (mask o.b) →
        MaskDone (.mand o) s 4 o.c o.d (on s o.m) (fun i => (bit s (mask o.a) i && bit s (mask o.b) i, 0)) ∧
        MaskDone (.mor o) s 4 o.c o.d (on s o.m) (fun i => (bit s (mask o.a) i || bit s (mask o.b) i, 0)) ∧
        MaskDone (.mxor o) s 4 o.c o.d (on s o.m) (fun i => (bit s (mask o.a) i ^^ bit s (mask o.b) i, 0)) ∧
        MaskDone (.mandn o) s 4 o.c o.d (on s o.m) (fun i => (bit s (mask o.a) i && !bit s (mask o.b) i, 0))) ∧
      MaskDone (.mnot o) s 4 o.c o.d (on s o.m) (fun i => (!bit s (mask o.a) i, 0)) ∧
      MaskDone (.msbf o) s 4 o.c o.d (on s o.m)
        (fun i => (decide (∀ j ∈ actives s o.m, j ≤ i → bit s (mask o.a) j = false), 0)) ∧
      MaskDone (.msif o) s 4 o.c o.d (on s o.m)
        (fun i => (decide (∀ j ∈ actives s o.m, j < i → bit s (mask o.a) j = false), 0))) ∧
    (Works s .alu o.c [o.a, o.b] → GovFree s o.m →
      MaskDone (.mwhile o) s 4 o.c o.d (on s o.m) fun i => (decide ((s.x o.a).toNat + i < (s.x o.b).toNat), 0)) ∧
    (Works s .alu o.c [] → Data s o.a o.m →
      MaskDone (.mfromv o) s 4 o.c o.d (on s o.m) fun i => (el s (ew s) o.a i != 0, 0)) ∧
    (Works s .alu o.c [] → MaskFree s (mask o.a) → GovFree s o.m → Aligned s (ew s) o.d →
      VecDone (.mtov o) s 4 .alu o.c o.d (ew s) (tagUint (ew s)) (on s o.m) fun i => ((bit s (mask o.a) i).toNat, 0))

/-- R135: counts, presence and the first index of set active bits, and what an instruction without elements gives (R12). -/
def Sys2Proof.Claims.MaskQueries : Prop :=
  ∀ (o : OpVa) (s : State), Ready s .alu o.c [] →
    (vstart s < vl s → MaskFree s (mask o.a) → GovFree s o.m →
      let l := (actives s o.m).filter (bit s (mask o.a))
      ScalarDone (.mcnt o) s 4 .alu o.c o.d (BitVec.ofNat 64 l.length) 0 ∧
      ScalarDone (.many o) s 4 .alu o.c o.d (flag (l ≠ [])) 0 ∧
      ScalarDone (.mfirst o) s 4 .alu o.c o.d ((l.head?.map (BitVec.ofNat 64)).getD allOnes) 0) ∧
    (vl s ≤ vstart s →
      ScalarDone (.mcnt o) s 4 .alu o.c o.d 0 0 ∧ ScalarDone (.many o) s 4 .alu o.c o.d 0 0 ∧
      ScalarDone (.mfirst o) s 4 .alu o.c o.d allOnes 0)

/-- R152, R153: conflicts, and the run that `VPART` and `VPARTB` cut; both read `vstart` as 0. -/
def Sys2Proof.Claims.RunPartitions : Prop :=
  (∀ (o : OpVa) (s : State), Works s .alu o.c [] → Data s o.a o.m → Data s o.b o.m → Aligned s 32 o.d →
    Apart s 32 o.d (ew s) o.a → Apart s 32 o.d (ew s) o.b →
    let z := fromZero s
    WholeDone (.vconf o) s .alu o.c o.d 32 0x015 (on z o.m) fun i =>
      match ((actives z o.m).filter fun j => decide (j < i) && el s (ew s) o.a j == el s (ew s) o.b i).getLast? with
        | some j => j + 1
        | none => 0) ∧
  (∀ (o : OpVa) (s : State) (w : Nat), Works s .alu o.c [] →
    (s.vtag o.a = 0x011 ∨ s.vtag o.a = 0x015) ∧ w = 32 ∨ (s.vtag o.a = 0x019 ∨ s.vtag o.a = 0x01D) ∧ w = 64 →
    Source s w o.a → GovFree s o.m →
    let z := fromZero s
    let run (brk : Nat → Bool) := runOf (el s w o.a) brk [] (actives z o.m)
    let Cut (i : Instr) (brk : Nat → Bool) : Prop :=
      ∃ u, Gives i s (u.retire 4) ∧ MaskWritten (completed s .alu o.c none none 0) u (mask o.d) (8 * rlen s) (wrote z (on z o.m)) ∧
        ∀ k, bit u (mask o.d) k =
          if k < vl s then (if on z o.m k then decide (k ∈ run brk) else if mp s then false else bit s (mask o.d) k)
          else if tp s then false else bit s (mask o.d) k
    Cut (.vpart o) (fun _ => false) ∧ (MaskFree s (mask o.b) → Cut (.vpartb o) (bit s (mask o.b))))

/-! ## Reductions -/

/-- R70, R137: `RSUM` by the pairwise tree in blocks of 64; integers modulo 2^64; `RSUMU` in some order and grouping (R73, log entry 9). -/
def Sys2Proof.Claims.SumReductions : Prop :=
  ∀ (o : OpVa) (s : State), Works s .xl o.c [o.b] → Data s o.a o.m →
    let t := s.vtag o.a
    let F := fmtOf (accTagOf t)
    let v (i : Nat) := num s t (el s (ew s) o.a i)
    (actives s o.m = [] → ScalarDone (.rsum o) s 4 .xl o.c o.d (s.x o.b) 0) ∧
    (actives s o.m ≠ [] → (tagKind t).isFloat = false → ScalarDone (.rsum o) s 4 .xl o.c o.d (wordSum s o) 0) ∧
    (actives s o.m ≠ [] → (tagKind t).isFloat = true →
      let r := blockSum s F (fun i => (if on s o.m i then some (v i) else none, 0)) (initial s t (s.x o.b)) ((vl s + 63) / 64)
      ScalarDone (.rsum o) s 4 .xl o.c o.d (BitVec.ofNat 64 r.1) r.2.2) ∧
    (∃ k r, SomeSum s F (((initial s t (s.x o.b)).2.1, 0) :: (actives s o.m).map fun i => (v i, 0)) r ∧
      let y : Word × Word :=
        if actives s o.m = [] then (s.x o.b, 0) else if (tagKind t).isFloat = false then (wordSum s o, 0)
        else (BitVec.ofNat 64 (roundTo F .rne false false r.1).1, r.2)
      Gives (.rsumu o) s (((completed (s.setFree k) .xl o.c none (some o.d) y.2).putX o.d y.1).retire 4))

/-- R68, R69, R137, R138: extremes, bitwise reductions, and the index forms. -/
def Sys2Proof.Claims.OtherReductions : Prop :=
  ∀ (o : OpVa) (s : State), Data s o.a o.m → vstart s < vl s →
    let v (i : Nat) := num s (s.vtag o.a) (el s (ew s) o.a i)
    let bits (f : Word → Word → Word) := ((actives s o.m).map fun i => BitVec.ofNat 64 (el s (ew s) o.a i)).foldl f (s.x o.b)
    (Ready s .xl o.c [o.b] →
      (actives s o.m = [] → ScalarDone (.rmax o) s 4 .xl o.c o.d (s.x o.b) 0 ∧ ScalarDone (.rmin o) s 4 .xl o.c o.d (s.x o.b) 0) ∧
      (actives s o.m ≠ [] → ScalarDone (.rmax o) s 4 .xl o.c o.d (extreme true s o).1 (extreme true s o).2 ∧
        ScalarDone (.rmin o) s 4 .xl o.c o.d (extreme false s o).1 (extreme false s o).2) ∧
      ScalarDone (.rand o) s 4 .xl o.c o.d (bits fun a b => a &&& b) 0 ∧
      ScalarDone (.ror o) s 4 .xl o.c o.d (bits fun a b => a ||| b) 0 ∧
      ScalarDone (.rxor o) s 4 .xl o.c o.d (bits fun a b => a ^^^ b) 0) ∧
    (Ready s .xl o.c [] → ∀ p ∈ [((.rmaxi o : Instr), true), (.rmini o, false)],
      Gives p.1 s ((match bestOf p.2 v (actives s o.m) with
        | none => indexState (completed s .xl o.c none (some o.d) 0) o allOnes 0
        | some i => indexState (completed s .xl o.c none (some o.d) (if (actives s o.m).any (fun j => (v j).isSig) then 16 else 0)) o (BitVec.ofNat 64 i)
            (BitVec.ofNat 64 (scalarForm (s.vtag o.a) (el s (ew s) o.a i)))).retire 4))

/-- R140: the inclusive running sum, rounded in element order. -/
def Sys2Proof.Claims.Scans : Prop :=
  ∀ (o : OpVa) (s : State), Works s .xl o.c [o.b] → Data s o.a o.m → Aligned s (ew s) o.d →
    let t := s.vtag o.a
    let at' (i : Nat) := scanned s t (el s (ew s) o.a) ((scanBelow s o).isSome || tagWidth t == 64, (scanInit s o).1) ((actives s o.m).filter fun j => decide (j ≤ i))
    ∃ u, Gives (.vscan o) s (u.retire 4) ∧
      SpanWritten (completed s .xl o.c (some o.d) none ((flagsOf s (on s o.m) fun i => (at' i).2) ||| (scanInit s o).2)) u
        (rlen s) o.d (span s (ew s)) t (ew s) (wrote s (on s o.m)) ∧
      ElementsAre s u (ew s) o.d (on s o.m) fun i => (at' i).1

/-! ## Element moves -/

/-- R141–R144: `VEXPD`, the slides and `VPERM`. -/
def Sys2Proof.Claims.ElementMoves : Prop :=
  ∀ (o : OpVa) (s : State), Data s o.a o.m → vstart s < vl s → Aligned s (ew s) o.d → Apart s (ew s) o.d (ew s) o.a →
    let z := fromZero s
    let a := el s (ew s) o.a
    let Moves (i : Instr) (f : Nat → Nat) := WholeDone i s .xl o.c o.d (ew s) (s.vtag o.a) (on z o.m) f
    (Ready s .xl o.c [] → Moves (.vexpd o) fun i => a ((actives z o.m).countP fun j => decide (j < i))) ∧
    (Ready s .xl o.c [o.b] →
      let k := (s.x o.b).toNat
      WholeDoneBy (fun i => if on z o.m i then decide (k ≤ i) else wrote z (on z o.m) i) (.vslup o) s .xl o.c o.d (ew s) (s.vtag o.a)
        (on z o.m) (fun i => if k ≤ i then a (i - k) else el s (ew s) o.d i) ∧
      Moves (.vsldn o) (fun i => if i + k < vl s then a (i + k) else 0)) ∧
    (∀ tb, Ready s .xl o.c [] → s.vtag o.b = tb → tagOk tb → (tagKind tb).isIX → Source s (tagWidth tb) o.b →
      Apart s (ew s) o.d (tagWidth tb) o.b →
      Moves (.vperm o) fun i => if el s (tagWidth tb) o.b i < vl s then a (el s (tagWidth tb) o.b i) else 0)

/-- R142, R145: `VCMPR` packs the active elements, `VPUSH` scatters them; the mask policy does not apply. -/
def Sys2Proof.Claims.ElementPacking : Prop :=
  ∀ (o : OpVa) (s : State), Works s .xl o.c [] → Data s o.a o.m → Aligned s (ew s) o.d → Apart s (ew s) o.d (ew s) o.a →
    let z := fromZero s
    let l := actives z o.m
    let Packs (i : Instr) (wr : Nat → Bool) (f : Nat → Nat) : Prop :=
      ∃ u, Gives i s (u.retire 4) ∧
        SpanWritten (completed s .xl o.c (some o.d) none 0) u (rlen s) o.d (span s (ew s)) (s.vtag o.a) (ew s) wr ∧
        ∀ i, ew s * (i + 1) ≤ 8 * rlen s * span s (ew s) → elem (ew s) (u.regBits (rlen s) o.d.toNat (span s (ew s))) i = f i
    let rest (i : Nat) := if tp s then 0 else el s (ew s) o.d i
    (Packs (.vcmpr o) (fun i => decide (i < l.length) || tp s) fun i => match l[i]? with
      | some j => el s (ew s) o.a j
      | none => rest i) ∧
    (∀ tb, s.vtag o.b = tb → tagOk tb → (tagKind tb).isIX → Source s (tagWidth tb) o.b → Apart s (ew s) o.d (tagWidth tb) o.b →
      Packs (.vpush o) (fun j => if j < vl s then l.any fun i => el s (tagWidth tb) o.b i == j else tp s) fun j =>
        if j < vl s then
          match (l.filter fun i => el s (tagWidth tb) o.b i == j).getLast? with
          | some i => el s (ew s) o.a i
          | none => el s (ew s) o.d j
        else rest j)

/-- R146, R147: single elements and tags; they ignore `vstart`, except `VLAST`. -/
def Sys2Proof.Claims.SingleElements : Prop :=
  ∀ (o : OpVa) (s : State),
    (Works s .xl o.c [o.b] → Data s o.a o.m →
      ScalarDone (.vlast o) s 4 .xl o.c o.d (match (actives s o.m).getLast? with
        | some i => BitVec.ofNat 64 (scalarForm (s.vtag o.a) (el s (ew s) o.a i))
        | none => s.x o.b) 0) ∧
    (Ready s .xl o.c [o.b] → Data s o.a 15 →
      ScalarDone (.vget o) s 4 .xl o.c o.d (if (s.x o.b).toNat < vl s
        then BitVec.ofNat 64 (scalarForm (s.vtag o.a) (el s (ew s) o.a (s.x o.b).toNat)) else 0) 0) ∧
    (Ready s .xl o.c [o.a, o.b] → tagOk (s.vtag o.d) → (tagKind (s.vtag o.d)).isIXFB → tagWidth (s.vtag o.d) = ew s →
      Aligned s (ew s) o.d →
      let i := (s.x o.b).toNat
      let v := elementForm (fin s) (fres s) (s.vtag o.d) (s.x o.a).toNat
      (vl s ≤ i → NothingDone (.vput o) s 4 .xl o.c (some o.d)) ∧
      (i < vl s → ew s * (i + 1) ≤ 8 * rlen s * span s (ew s) →
        (∀ r : BitVec 5, (vget (n := 5) s.cur.v r).bits < 2 ^ (8 * rlen s)) →
        ∃ u, Gives (.vput o) s (u.retire 4) ∧
          (∃ w dirty bad, u = let c := completed s .xl o.c (some o.d) none v.2
            { c with cur := { c.cur with v := w, u := { c.cur.u with vdirty := dirty }, poison := { c.cur.poison with v := bad } } }) ∧
          (∀ r, (vget (n := 5) u.cur.v r).tag = s.vtag r) ∧
          (∀ j, ew s * (j + 1) ≤ 8 * rlen s * span s (ew s) →
            elem (ew s) (u.regBits (rlen s) o.d.toNat (span s (ew s))) j =
              if j = i then v.1 % 2 ^ ew s else el s (ew s) o.d j))) ∧
    (∀ t : Tag, tagOk t → Aligned s (tagWidth t) o.d →
      let Retags (i : Instr) : Prop :=
        ∃ u, Gives i s (u.retire 4) ∧
          (∃ w dirty, u = let c := completed s .xl o.c (some o.d) none 0
            { c with cur := { c.cur with v := w, u := { c.cur.u with vdirty := dirty } } }) ∧
          (∀ r, (vget (n := 5) u.cur.v r).bits = (vget (n := 5) s.cur.v r).bits) ∧
          (∀ r : BitVec 5, s.vtag r ≠ t → (u.vtag r = t ↔ o.d.toNat ≤ r.toNat ∧ r.toNat < o.d.toNat + span s (tagWidth t))) ∧
          (∀ r : BitVec 5, ¬ (o.d.toNat ≤ r.toNat ∧ r.toNat < o.d.toNat + span s (tagWidth t)) → u.vtag r = s.vtag r) ∧
          (∀ k, k < 64 → u.cur.u.vdirty.getLsbD k =
            (s.cur.u.vdirty.getLsbD k || decide (o.d.toNat ≤ k ∧ k < o.d.toNat + span s (tagWidth t))))
      (Ready s .xl o.c [] → t = o.b ++ o.a → Retags (.vtag o)) ∧
      (Ready s .xl o.c [o.a] → s.x o.a = t.setWidth 64 → Retags (.vtagx o))) ∧
    (Ready s .xl o.c [] → ScalarDone (.vtagr o) s 4 .xl o.c o.d ((s.vtag o.a).setWidth 64) 0)

/-! ## Scalar floating point -/

namespace Sys2Proof.Claims

open Sys2Proof.Machine

/-- The format and the width of a suffix (R79). -/
def sfmtOf (p : BitVec 3) : Fmt := if p = 0 then fmtFp32 else fmtFp64
/-- The encoding in a register: bits [31:0], or all (R79). -/
def sbits (p : BitVec 3) (v : Word) : Nat := if p = 0 then v.toNat % 2 ^ 32 else v.toNat
/-- Its exact value. -/
def sval' (p : BitVec 3) (v : Word) : Exact := decodeFloat (sfmtOf p) (sbits p v)

/-- A scalar float instruction: the result in d, its flags in `sfctl` (R63), 4 bytes. -/
def FloatGives (i : Instr) (s : State) (d : BitVec 5) (v : Nat) (fl : Word) : Prop :=
  Gives i s ((let t := s.writeX d (BitVec.ofNat 64 v)
    { t with cur := { t.cur with u := { t.cur.u with sfctl := t.cur.u.sfctl ||| (fl &&& 31) } } }).retire 4)

/-- One rounding under the mode of `sfctl`. -/
def FloatRounds (i : Instr) (s : State) (d : BitVec 5) (p : BitVec 3) (x : Exact × Word) : Prop :=
  FloatGives i s d (roundTo (sfmtOf p) s.rm false false x.1).1 (x.2 ||| (roundTo (sfmtOf p) s.rm false false x.1).2)

end Sys2Proof.Claims

/-- R79, R80, R60, R63, R67, R68: the floating-point SOP, `.S` and `.D`. -/
def Sys2Proof.Claims.ScalarFloats : Prop :=
  ∀ (o : OpF) (s : State), o.p = 0 ∨ o.p = 1 → Unpoisoned s [o.a] →
    let a := sval' o.p (s.x o.a)
    let b := sval' o.p (s.x o.b)
    (Unpoisoned s [o.b] →
      FloatRounds (.fadd o) s o.d o.p (Exact.add s.rm a b) ∧ FloatRounds (.fsub o) s o.d o.p (Exact.add s.rm a b.neg) ∧
      FloatRounds (.fmul o) s o.d o.p (Exact.mul a b) ∧ FloatRounds (.fdiv o) s o.d o.p (Exact.div a b) ∧
      (∀ q ∈ [((.fmin o : Instr), false), (.fmax o, true)],
        FloatGives q.1 s o.d (match (pickMinMax q.2 a b).1 with
          | some true => sbits o.p (s.x o.a)
          | some false => sbits o.p (s.x o.b)
          | none => (sfmtOf o.p).nanBits) (pickMinMax q.2 a b).2) ∧
      (∀ q ∈ [((.feq o : Instr), Rel.eq), (.flt o, .lt), (.fle o, .le)],
        FloatGives q.1 s o.d (relate q.2 a b).1.toNat (relate q.2 a b).2)) ∧
    FloatRounds (.fsqrt o) s o.d o.p (Exact.sqrt a) ∧
    FloatGives (.fcvti o) s o.d (floatToInt .rtz 0x018 a).1 (floatToInt .rtz 0x018 a).2 ∧
    FloatRounds (.fcvtf o) s o.d o.p (.ofInt (s.x o.a).toInt, 0) ∧
    FloatRounds (.fcvtw o) s o.d o.p (sval' (if o.p = 0 then 1 else 0) (s.x o.a), 0)

/-- R58, R63, R67, R68 on the special values that the rules name: NaN operands, infinities, zeros. -/
def Sys2Proof.Claims.SpecialOperands : Prop :=
  (∀ (m : Rnd) (x : Exact) (sig : Bool), Exact.add m (.nan sig) x = (.nan false, if sig || x.isSig then 16 else 0) ∧
    Exact.mul (.nan sig) x = (.nan false, if sig || x.isSig then 16 else 0) ∧
    Exact.div (.nan sig) x = (.nan false, if sig || x.isSig then 16 else 0)) ∧
  (∀ (m : Rnd) (b : Bool), Exact.add m (.inf b) (.inf !b) = (.nan false, 16) ∧ Exact.add m (.inf b) (.inf b) = (.inf b, 0)) ∧
  (∀ (b c : Bool), Exact.mul (.inf b) (.zero c) = (.nan false, 16) ∧ Exact.div (.zero b) (.zero c) = (.nan false, 16) ∧
    Exact.div (.inf b) (.inf c) = (.nan false, 16)) ∧
  (∀ (b c : Bool) (n d : Nat), 0 < n → Exact.div (.fin b n d) (.zero c) = (.inf (b != c), 8) ∧
    Exact.sqrt (.fin true n d) = (.nan false, 16)) ∧
  (∀ (m : Rnd) (b : Bool) (n d : Nat), 0 < n → (Exact.add m (.fin b n d) (.fin (!b) n d)).1 = .zero (m == .rdn)) ∧
  (∀ (r : Rel) (x : Exact) (sig : Bool), (relate r (.nan sig) x).1 = (r == .ne) ∧ (relate r x (.nan sig)).1 = (r == .ne)) ∧
  (∀ b c : Bool, (relate .eq (.zero b) (.zero c)).1 = true)

/-! ## Scalar memory -/

namespace Sys2Proof.Claims

open Sys2Proof.Machine

/-- n bytes extended to 64 bits: by the sign, or by zeros (R83). -/
def extended (n : Nat) (signed : Bool) (v : Nat) : Word :=
  if signed then (BitVec.ofNat (8 * n) v).signExtend 64 else BitVec.ofNat 64 v

/-- The loads of R83: bytes and sign. -/
noncomputable def loads : List ((OpI → Instr) × (OpIW → Instr) × Nat × Bool) :=
  [(.lb, .lbWide, 1, true), (.lh, .lhWide, 2, true), (.lw, .lwWide, 4, true), (.ld, .ldWide, 8, false),
   (.lbu, .lbuWide, 1, false), (.lhu, .lhuWide, 2, false), (.lwu, .lwuWide, 4, false)]

/-- The stores of R83. -/
noncomputable def stores : List ((OpI → Instr) × (OpIW → Instr) × Nat) :=
  [(.sb, .sbWide, 1), (.sh, .shWide, 2), (.sw, .swWide, 4), (.sd, .sdWide, 8)]

/-- Both forms of a row with an immediate: the instruction, d, a, the sign-extended offset, the length (R27, R37). -/
def Forms (f : OpI → Instr) (g : OpIW → Instr) (P : Instr → BitVec 5 → BitVec 5 → Word → Nat → Prop) : Prop :=
  (∀ o : OpI, P (f o) o.d o.a (o.imm.signExtend 64) 4) ∧ (∀ o : OpIW, P (g o) o.d o.a (o.imm.signExtend 64) 8)

/-- How an access passes the caches, before it reads or writes (R206, R208). -/
abbrev Touch := Loc → Bool → State → State

/-- The read of n bytes at place l, as one access (R4) that passes the caches by `touch`; running prefetch slots see it (R220). -/
def readAt (touch : Touch) (s : State) (ea : Word) (l : Loc) (n : Nat) : Nat × State :=
  (Memory.leVal (locRead (touch l false s) l n).1, (locRead (touch l false s) l n).2.noteRead ea.toNat n)

/-- The first n bytes of memory at pa are the bytes of v, and every other byte is as in `s`. -/
def Stored (s t : State) (pa n v : Nat) : Prop :=
  t.mem.readVal pa n = v % 2 ^ (8 * n) ∧ ∀ a, a < pa ∨ pa + n ≤ a → t.mem.read a = s.mem.read a

end Sys2Proof.Claims

/-- R83, R84: an access in range and aligned whose translation gives a place, and which no entry of the VIQ comes before (R20), loads from
there; `x0` discards the value. -/
def Sys2Proof.Claims.ScalarLoads : Prop :=
  ∀ q ∈ loads, Forms q.1 q.2.1 fun i d a off len => ∀ (s s1 : State) (l : Loc), Unpoisoned s [a] →
    let ea := s.x a + off
    let n := q.2.2.1
    s.watch ea.toNat n true false = none → scalarLoc s ea n .read = .ok l s1 →
    let r := readAt Loc.scalarTouch s1 ea l n
    Gives i s ((r.2.writeX d (extended n q.2.2.2 r.1)).retire len)

/-- R83, R84: a store writes the low n bytes of `x[d]` at the place, and no other byte of memory. -/
def Sys2Proof.Claims.ScalarStores : Prop :=
  ∀ q ∈ stores, Forms q.1 q.2.1 fun i d a off len => ∀ (s s1 : State) (l : Loc), Unpoisoned s [a, d] →
    let ea := s.x a + off
    let n := q.2.2
    s.watch ea.toNat n false true = none → scalarLoc s ea n .write = .ok l s1 →
    let t := (locWrite (l.scalarTouch true s1) l (leBytes n ((s.x d).toNat % 2 ^ (8 * n)))).retire len
    Gives i s t ∧ (∀ pa m, l = .mem pa m → s1.dev.replay = none → Stored s1 t pa n (s.x d).toNat)

/-- R6, R83: an address at or above 2^52 raises the address-range fault, one that is not a multiple of the size the misaligned-access
fault, without effect beyond the trap. -/
def Sys2Proof.Claims.ScalarAccessTraps : Prop :=
  (∀ q ∈ loads, Forms q.1 q.2.1 fun i _ a off _ => ∀ s : State, Unpoisoned s [a] →
    let ea := s.x a + off
    (2 ^ 52 ≤ ea.toNat → Gives i s (s.trap 0x05 ea)) ∧
    (ea.toNat < 2 ^ 52 → ea.toNat % q.2.2.1 ≠ 0 → Gives i s (s.trap 0x06 ea))) ∧
  (∀ q ∈ stores, Forms q.1 q.2.1 fun i d a off _ => ∀ s : State, Unpoisoned s [a, d] →
    let ea := s.x a + off
    (2 ^ 52 ≤ ea.toNat → Gives i s (s.trap 0x05 ea)) ∧
    (ea.toNat < 2 ^ 52 → ea.toNat % q.2.2 ≠ 0 → Gives i s (s.trap 0x06 ea)))

/-! ## Atomics -/

namespace Sys2Proof.Claims

open Sys2Proof.Machine

/-- n of R181. -/
def amoBytes (o : OpAmo) : Nat := if o.w = 0 then 4 else 8

/-- The signed value of n bytes. -/
def signedN (n v : Nat) : Int := if v < 2 ^ (8 * n - 1) then v else v - 2 ^ (8 * n)

/-- The read-modify-writes of R182: the new word from w, b and `x[d]` cut to n bytes; none where memory keeps w. -/
noncomputable def rmws : List ((OpAmo → Instr) × (Nat → Nat → Nat → Nat → Option Nat)) :=
  [(.amoadd, fun n w b _ => some ((w + b) % 2 ^ (8 * n))), (.amoswap, fun _ _ b _ => some b),
   (.amoand, fun _ w b _ => some (w &&& b)), (.amoor, fun _ w b _ => some (w ||| b)),
   (.amomin, fun n w b _ => some (if signedN n w ≤ signedN n b then w else b)),
   (.amomax, fun n w b _ => some (if signedN n b ≤ signedN n w then w else b)),
   (.amocas, fun _ w b d => if w = d then some b else none), (.amobinc, fun _ w b _ => if w < b then some (w + 1) else none)]

/-- No earlier entry that accesses memory keeps a release waiting (R180). -/
abbrev Drained (s : State) : Prop := s.releaseWaits = false

end Sys2Proof.Claims

/-- R181, R182: each read-modify-write at `x[a]` is one step; `x[d]` receives the old word, zero-extended. Of peers only a Phizon device
performs `AMOBINC` (R370). -/
def Sys2Proof.Claims.AtomicResults : Prop :=
  ∀ q ∈ rmws, ∀ (o : OpAmo) (s s1 : State) (l : Loc), Unpoisoned s [o.a, o.b] → Unpoisoned s [o.d] → Drained s →
    let n := amoBytes o
    let ea := s.x o.a
    let r := readAt Loc.amoTouch s1 ea l n
    s.watch ea.toNat n true true = none → scalarLoc s ea n .amo = .ok l s1 →
    let new := q.2 n r.1 ((s.x o.b).toNat % 2 ^ (8 * n)) ((s.x o.d).toNat % 2 ^ (8 * n))
    let t := ((match new with
      | some v => locWrite (l.amoTouch true r.2) l (leBytes n v)
      | none => r.2).writeX o.d (BitVec.ofNat 64 r.1)).retire 4
    ((q.1 o = .amobinc o → ∀ pa m, l = .peer pa m → s1.phizonPeer pa = true) → Gives (q.1 o) s t ∧
      (∀ pa m, l = .mem pa m → s1.dev.replay = none → Stored s1 t pa n (new.getD (s1.mem.readVal pa n)))) ∧
    (∀ pa m, l = .peer pa m → s1.phizonPeer pa = false → Gives (.amobinc o) s (s1.trap 0x0C ea))

/-- R181, R182, R184, R185: the acquire load, the release store, the fence, which wait for earlier accesses (R180), and `WAITA` once its condition holds. -/
def Sys2Proof.Claims.OrderedAccesses : Prop :=
  ∀ (o : OpAmo) (s s1 : State) (l : Loc),
    let n := amoBytes o
    let ea := s.x o.a
    let r := readAt Loc.amoTouch s1 ea l n
    (Unpoisoned s [o.a] → s.watch ea.toNat n true false = none → scalarLoc s ea n .read = .ok l s1 →
      Gives (.ldaq o) s ((r.2.writeX o.d (BitVec.ofNat 64 r.1)).retire 4) ∧
      (Unpoisoned s [o.b] →
        (r.1 ≠ (s.x o.b).toNat % 2 ^ (8 * n) ∨ r.2.cur.thr.mailbox ≠ [] →
          Gives (.waita o) s ((r.2.writeX o.d (BitVec.ofNat 64 r.1)).retire 4)) ∧
        (r.1 = (s.x o.b).toNat % 2 ^ (8 * n) → r.2.cur.thr.mailbox = [] → Gives (.waita o) s (r.2.setWait .event)))) ∧
    (Unpoisoned s [o.a, o.b] → Drained s → s.watch ea.toNat n false true = none → scalarLoc s ea n .write = .ok l s1 →
      let t := (locWrite (l.amoTouch true s1) l (leBytes n ((s.x o.b).toNat % 2 ^ (8 * n)))).retire 4
      Gives (.strl o) s t ∧ (∀ pa m, l = .mem pa m → s1.dev.replay = none → Stored s1 t pa n (s.x o.b).toNat)) ∧
    (Drained s → Gives (.fence o) s (s.retire 4)) ∧
    (s.releaseWaits = true → Gives (.fence o) s s ∧ (Unpoisoned s [o.a, o.b] → Gives (.strl o) s s))

/-! ## Control flow -/

namespace Sys2Proof.Claims

open Sys2Proof.Machine

/-- A branch that is taken to `pc + 2·off` when `taken`, after the register effect `k` (R85): a target at or above 2^52 raises the
address-range fault with no effect. -/
def Branches (i : Instr) (s : State) (len : Nat) (off : Int) (taken : Bool) (k : State → State) : Prop :=
  let t := BitVec.ofInt 64 ((s.cur.pc.toNat : Int) + 2 * off)
  (taken = false → Gives i s ((k s).retireBranch len)) ∧
  (taken = true → t.toNat < 2 ^ 52 → Gives i s ((k s).transfer (t.setWidth 52))) ∧
  (taken = true → 2 ^ 52 ≤ t.toNat → Gives i s (s.trap 0x05 t))

/-- The conditions of R86 on `x[a]` as a signed number. -/
noncomputable def regBranches : List ((OpB → Instr) × (OpBW → Instr) × (Int → Bool)) :=
  [(.beqz, .beqzWide, fun v => v == 0), (.bnez, .bnezWide, fun v => v != 0), (.bltz, .bltzWide, fun v => v < 0),
   (.bgez, .bgezWide, fun v => 0 ≤ v), (.bgtz, .bgtzWide, fun v => 0 < v), (.blez, .blezWide, fun v => v ≤ 0)]

/-- The conditions of R87 on the count c of set bits among the first n. -/
noncomputable def maskBranches : List ((OpM → Instr) × (OpMW → Instr) × (Nat → Nat → Bool)) :=
  [(.bany, .banyWide, fun c _ => c ≠ 0), (.ball, .ballWide, fun c n => c = n), (.bnone, .bnoneWide, fun c _ => c = 0),
   (.bnall, .bnallWide, fun c n => c < n)]

/-- The latest entry that writes mask k has finished; of `m15` every entry has completed (R88). -/
def MaskReady (s : State) (k : BitVec 4) : Prop :=
  if k = 15 then s.cur.viq = []
  else ∀ l e r, s.cur.viq = l ++ e :: r → e.writesMask s k.toNat = true → (∀ f ∈ r, f.writesMask s k.toNat = false) → e.fin = true

/-- Set bits of mask k among the first `vl`. -/
def setBits (s : State) (k : BitVec 4) : Nat := (List.range (vl s)).countP (bit s k)

/-- `pc + 2·off` modulo 2^64 (R85). -/
def aim (s : State) (off : Int) : Word := BitVec.ofInt 64 ((s.cur.pc.toNat : Int) + 2 * off)

/-- A branch of len bytes with a target below 2^52 completes: it is taken, or it is not. -/
def Completes (i : Instr) (s : State) (len : Nat) (off : Int) (taken : Prop) [Decidable taken] : Prop :=
  exec i s = .next (if taken then s.transfer ((aim s off).setWidth 52) else s.retireBranch len)

end Sys2Proof.Claims

/-- R85, R86: every branch on a register completes from every state in which `x[a]` is not poisoned and the target lies below 2^52. -/
def Sys2Proof.Claims.RegisterBranchesComplete : Prop :=
  (∀ (o : OpB) (s : State), Unpoisoned s [o.a] → (aim s o.off.toInt).toNat < 2 ^ 52 →
    let x := (s.x o.a).toInt
    Completes (.beqz o) s 4 o.off.toInt (x = 0) ∧ Completes (.bnez o) s 4 o.off.toInt (x ≠ 0) ∧
    Completes (.bltz o) s 4 o.off.toInt (x < 0) ∧ Completes (.bgez o) s 4 o.off.toInt (0 ≤ x) ∧
    Completes (.bgtz o) s 4 o.off.toInt (0 < x) ∧ Completes (.blez o) s 4 o.off.toInt (x ≤ 0) ∧
    exec (.bdnz o) s = .next (if s.x o.a = 1 then (s.writeX o.a 0).retireBranch 4
      else (s.writeX o.a (s.x o.a - 1)).transfer ((aim s o.off.toInt).setWidth 52))) ∧
  (∀ (o : OpBW) (s : State), Unpoisoned s [o.a] → (aim s o.off.toInt).toNat < 2 ^ 52 →
    let x := (s.x o.a).toInt
    Completes (.beqzWide o) s 8 o.off.toInt (x = 0) ∧ Completes (.bnezWide o) s 8 o.off.toInt (x ≠ 0) ∧
    Completes (.bltzWide o) s 8 o.off.toInt (x < 0) ∧ Completes (.bgezWide o) s 8 o.off.toInt (0 ≤ x) ∧
    Completes (.bgtzWide o) s 8 o.off.toInt (0 < x) ∧ Completes (.blezWide o) s 8 o.off.toInt (x ≤ 0) ∧
    exec (.bdnzWide o) s = .next (if s.x o.a = 1 then (s.writeX o.a 0).retireBranch 8
      else (s.writeX o.a (s.x o.a - 1)).transfer ((aim s o.off.toInt).setWidth 52)))

/-- R85, R87, R88: every branch on a mask completes once the mask is ready, with a target below 2^52. -/
def Sys2Proof.Claims.MaskBranchesComplete : Prop :=
  (∀ (o : OpM) (s : State), MaskReady s o.k → MaskFree s o.k → (aim s o.off.toInt).toNat < 2 ^ 52 →
    let c := setBits s o.k
    Completes (.bany o) s 4 o.off.toInt (c ≠ 0) ∧ Completes (.ball o) s 4 o.off.toInt (c = vl s) ∧
    Completes (.bnone o) s 4 o.off.toInt (c = 0) ∧ Completes (.bnall o) s 4 o.off.toInt (c < vl s)) ∧
  (∀ (o : OpMW) (s : State), MaskReady s o.k → MaskFree s o.k → (aim s o.off.toInt).toNat < 2 ^ 52 →
    let c := setBits s o.k
    Completes (.banyWide o) s 8 o.off.toInt (c ≠ 0) ∧ Completes (.ballWide o) s 8 o.off.toInt (c = vl s) ∧
    Completes (.bnoneWide o) s 8 o.off.toInt (c = 0) ∧ Completes (.bnallWide o) s 8 o.off.toInt (c < vl s))

/-- R85, R89, R90: every jump completes from every state in which its source is not poisoned and its target lies below 2^52. -/
def Sys2Proof.Claims.JumpsComplete : Prop :=
  let link (s : State) (len : Nat) : Word := BitVec.ofNat 64 ((s.cur.pc.toNat + len) % 2 ^ 52)
  (∀ (o : OpU) (s : State), (aim s o.imm.toInt).toNat < 2 ^ 52 →
    exec (.jal o) s = .next ((s.writeX o.d (link s 4)).transfer ((aim s o.imm.toInt).setWidth 52))) ∧
  (∀ (o : OpUW) (s : State), (aim s o.imm.toInt).toNat < 2 ^ 52 →
    exec (.jalWide o) s = .next ((s.writeX o.d (link s 8)).transfer ((aim s o.imm.toInt).setWidth 52))) ∧
  (∀ (o : OpI) (s : State), Unpoisoned s [o.a] →
    let t := (s.x o.a + o.imm.signExtend 64) &&& 0xFFFFFFFFFFFFFFFE
    t.toNat < 2 ^ 52 → exec (.jalr o) s = .next ((s.writeX o.d (link s 4)).transfer (t.setWidth 52))) ∧
  (∀ (o : OpIW) (s : State), Unpoisoned s [o.a] →
    let t := (s.x o.a + o.imm.signExtend 64) &&& 0xFFFFFFFFFFFFFFFE
    t.toNat < 2 ^ 52 → exec (.jalrWide o) s = .next ((s.writeX o.d (link s 8)).transfer (t.setWidth 52)))

/-- R85, R86: branches on a register, `BDNZ` among them. -/
def Sys2Proof.Claims.RegisterBranches : Prop :=
  (∀ q ∈ regBranches, (∀ (o : OpB) (s : State), Unpoisoned s [o.a] → Branches (q.1 o) s 4 o.off.toInt (q.2.2 (s.x o.a).toInt) id) ∧
    (∀ (o : OpBW) (s : State), Unpoisoned s [o.a] → Branches (q.2.1 o) s 8 o.off.toInt (q.2.2 (s.x o.a).toInt) id)) ∧
  (∀ (o : OpB) (s : State), Unpoisoned s [o.a] →
    Branches (.bdnz o) s 4 o.off.toInt (s.x o.a ≠ 1) (·.writeX o.a (s.x o.a - 1))) ∧
  (∀ (o : OpBW) (s : State), Unpoisoned s [o.a] →
    Branches (.bdnzWide o) s 8 o.off.toInt (s.x o.a ≠ 1) (·.writeX o.a (s.x o.a - 1)))

/-- R87, R88: branches on a mask, once it is ready; until then the branch stalls. -/
def Sys2Proof.Claims.MaskBranches : Prop :=
  ∀ q ∈ maskBranches,
    (∀ (o : OpM) (s : State),
      (MaskReady s o.k → MaskFree s o.k → Branches (q.1 o) s 4 o.off.toInt (q.2.2 (setBits s o.k) (vl s)) id) ∧
      (¬ MaskReady s o.k → Gives (q.1 o) s s)) ∧
    (∀ (o : OpMW) (s : State),
      (MaskReady s o.k → MaskFree s o.k → Branches (q.2.1 o) s 8 o.off.toInt (q.2.2 (setBits s o.k) (vl s)) id) ∧
      (¬ MaskReady s o.k → Gives (q.2.1 o) s s))

/-- R85, R89, R90: jumps write the address of the next instruction; a target at or above 2^52 raises the address-range fault. -/
def Sys2Proof.Claims.Jumps : Prop :=
  let Jump (i : Instr) (s : State) (d : BitVec 5) (len : Nat) (t : Word) : Prop :=
    (t.toNat < 2 ^ 52 → Gives i s ((s.writeX d (BitVec.ofNat 64 ((s.cur.pc.toNat + len) % 2 ^ 52))).transfer (t.setWidth 52))) ∧
    (2 ^ 52 ≤ t.toNat → Gives i s (s.trap 0x05 t))
  (∀ (o : OpU) (s : State), Jump (.jal o) s o.d 4 (BitVec.ofInt 64 (s.cur.pc.toNat + 2 * o.imm.toInt))) ∧
  (∀ (o : OpUW) (s : State), Jump (.jalWide o) s o.d 8 (BitVec.ofInt 64 (s.cur.pc.toNat + 2 * o.imm.toInt))) ∧
  (∀ (o : OpI) (s : State), Unpoisoned s [o.a] → Jump (.jalr o) s o.d 4 ((s.x o.a + o.imm.signExtend 64) &&& 0xFFFFFFFFFFFFFFFE)) ∧
  (∀ (o : OpIW) (s : State), Unpoisoned s [o.a] →
    Jump (.jalrWide o) s o.d 8 ((s.x o.a + o.imm.signExtend 64) &&& 0xFFFFFFFFFFFFFFFE))

/-- R93: a taken transfer in user mode makes inactive exactly the levels whose body does not hold the target; in system mode it
leaves the loop state alone. It counts in `instret` (R98). -/
def Sys2Proof.Claims.Transfers : Prop :=
  ∀ (s : State) (a : BitVec 52), s.tracing = false →
    (s.transfer a).cur.pc = a ∧ (s.transfer a).cur.u.instret = s.cur.u.instret + 1 ∧ (s.transfer a).cur.x = s.cur.x ∧
    (s.transfer a).mem = s.mem ∧ (s.transfer a).cur.sys = s.cur.sys ∧
    ∀ k : BitVec 3, let l := vget (n := 3) s.cur.lp k; let l' := vget (n := 3) (s.transfer a).cur.lp k
      l'.idx = l.idx ∧ l'.trip = l.trip ∧ l'.stop = l.stop ∧ l'.start.setWidth 63 = l.start.setWidth 63 ∧
      (l'.start.getLsbD 63 = true ↔
        l.start.getLsbD 63 = true ∧ (s.user = true → l.start.setWidth 52 ≤ a ∧ a < l.stop.setWidth 52))

namespace Sys2Proof.Claims

open Sys2Proof.Machine

/-- The registers of a loop (R91): index, trip count, body. -/
structure Body where
  lo : Nat
  bound : Nat
  start : Nat
  stop : Nat

/-- `LOOP` of `len` bytes with a body of n halfwords: the iterations of a temporal level, or those of the lot on a spatial one
(R91, R176). -/
def bodyOf (s : State) (len : Nat) (a : BitVec 5) (v : BitVec 3) (n : Nat) : Body :=
  match s.cur.thr.ranges.find? (·.1 == v.toNat) with
  | some (_, lo, hi) => ⟨lo, min hi (s.x a).toNat, s.cur.pc.toNat + len, s.cur.pc.toNat + len + 2 * n⟩
  | none => ⟨0, (s.x a).toNat, s.cur.pc.toNat + len, s.cur.pc.toNat + len + 2 * n⟩

/-- What a loop level holds when its body begins. -/
def loopLevel (b : Body) (d : BitVec 5) : LoopLevel :=
  ⟨BitVec.ofNat 64 b.lo, BitVec.ofNat 64 b.bound, BitVec.ofNat 64 (2 ^ 63 + d.toNat * 2 ^ 56 + b.start),
    BitVec.ofNat 64 (b.stop % 2 ^ 52)⟩

/-- `LOOP`: a body with iterations begins; one without is skipped; its next address obeys R6. Either way it retires as no transfer, so that the
loop check sees that address (R92). -/
def Loops (i : Instr) (s : State) (len : Nat) (d a : BitVec 5) (v : BitVec 3) (n : Nat) : Prop :=
  let b := bodyOf s len a v n
  (b.lo < b.bound → n ≠ 0 → b.start < 2 ^ 52 →
    let s1 : State := { s with cur := { s.cur with lp := vset (n := 3) s.cur.lp v (loopLevel b d) } }
    Gives i s ((s1.writeX d (BitVec.ofNat 64 b.lo)).retireTo (BitVec.ofNat 52 b.start))) ∧
  (b.lo < b.bound → n ≠ 0 → b.start < 2 ^ 52 →
    (∀ k : BitVec 3, k ≠ v → s.user = true → (vget (n := 3) s.cur.lp k).act = true → (vget (n := 3) s.cur.lp k).holds s.cur.pc = true →
      b.start < (vget (n := 3) s.cur.lp k).endPc.toNat) →
    ∃ t, Gives i s t ∧ t.cur.pc = BitVec.ofNat 52 b.start ∧ t.x d = (if d = 0 then 0 else BitVec.ofNat 64 b.lo) ∧
      t.cur.lp = vset (n := 3) s.cur.lp v (loopLevel b d) ∧ t.cur.u.instret = s.cur.u.instret + 1 ∧ t.mem = s.mem ∧
      t.cur.v = s.cur.v ∧ t.cur.sys = s.cur.sys ∧ ∀ r, r ≠ d → t.x r = s.x r) ∧
  (b.lo < b.bound → n ≠ 0 → 2 ^ 52 ≤ b.start → Gives i s (s.trap 0x05 (BitVec.ofNat 64 b.start))) ∧
  (b.bound ≤ b.lo ∨ n = 0 → b.stop < 2 ^ 52 → Gives i s (s.retireTo (BitVec.ofNat 52 b.stop))) ∧
  (b.bound ≤ b.lo ∨ n = 0 → 2 ^ 52 ≤ b.stop → Gives i s (s.trap 0x05 (BitVec.ofNat 64 b.stop)))

end Sys2Proof.Claims

/-- R91, R176: loop entry. -/
def Sys2Proof.Claims.LoopEntry : Prop :=
  (∀ (o : OpL) (s : State), Unpoisoned s [o.a] → Loops (.loop o) s 4 o.d o.a o.v o.len.toNat) ∧
  (∀ (o : OpLW) (s : State), Unpoisoned s [o.a] → Loops (.loopWide o) s 8 o.d o.a o.v o.len.toNat)

/-- R92: at the end of the body of the innermost active level the next iteration begins, or the level ends; beyond it the level and those within it
end; elsewhere control falls through; in system mode no loop closes. -/
def Sys2Proof.Claims.LoopClose : Prop :=
  ∀ (s : State) (len : Nat),
    let a := s.cur.pc + BitVec.ofNat 52 len
    (s.user = false ∨ (∀ k : Fin 8, s.cur.lp[k].act = false ∨ s.cur.lp[k].holds s.cur.pc = false) → (s.retire len).cur.pc = a ∧
      (s.retire len).cur.lp = s.cur.lp ∧ (s.retire len).cur.x = s.cur.x) ∧
    (∀ (k : Fin 8), s.user = true → s.cur.lp[k].act = true → s.cur.lp[k].holds s.cur.pc = true →
      (∀ j : Fin 8, j ≠ k → s.cur.lp[j].act = true → s.cur.lp[j].holds s.cur.pc = true → s.cur.lp[j].startPc < s.cur.lp[k].startPc) →
      let l := s.cur.lp[k]
      (a < l.endPc → (s.retire len).cur.pc = a ∧ (s.retire len).cur.lp = s.cur.lp) ∧
      (a = l.endPc → l.idx.toNat + 1 < l.trip.toNat →
        (s.retire len).cur.pc = (l.startPc >>> 1) <<< 1 ∧ (s.retire len).cur.lp = s.cur.lp.set k { l with idx := l.idx + 1 } ∧
        (s.retire len).x l.xi = (if l.xi = 0 then 0 else l.idx + 1)) ∧
      (a = l.endPc → l.trip.toNat ≤ l.idx.toNat + 1 →
        (s.retire len).cur.lp[k].act = false ∧ (s.retire len).cur.lp[k].idx = l.trip) ∧
      (l.endPc < a → (s.retire len).cur.pc = a ∧ ∀ j : Fin 8,
        (s.retire len).cur.lp[j].act = (s.cur.lp[j].act && !(j = k || decide (l.startPc < s.cur.lp[j].startPc)))))

/-! ## State registers -/

namespace Sys2Proof.Claims

open Sys2Proof.Machine

/-- The state-register number of R95. -/
def number (o : OpI) : Nat := (o.imm.setWidth 10).toNat

/-- The access of R95 goes ahead: system registers in system mode only (R96); in user mode the registers of R19 once no entry is queued. -/
structure MayAccess (s : State) (o : OpI) : Prop where
  clean : Unpoisoned s [o.a]
  mode : s.user = true → number o < 0x100
  queue : s.user = true → number o = 0x014 ∨ number o = 0x015 ∨ number o = 0x01A → s.cur.viq = []

/-- Registers whose written bits R97 and R304 give: number, the bits that a write reaches. -/
def writable : List (Nat × Word) :=
  [(0x012, allOnes), (0x014, 0xFFFFFFFF), (0x015, 0x3FFFFF), (0x018, 0xFFFFFFFF), (0x019, 0x1F1F), (0x01A, 0x13F),
   (0x041, allOnes), (0x042, allOnes), (0x043, allOnes), (0x044, allOnes), (0x045, allOnes), (0x046, allOnes), (0x047, allOnes),
   (0x101, allOnes), (0x104, 0xFFFFFFFFFFFFC), (0x105, allOnes), (0x106, 0xFFFF), (0x107, 0xFFFFFFFFF8000), (0x109, 7),
   (0x10C, 0xFFFFFFFFF0000), (0x10F, 0xFFFFFFFFF0000)]

/-- The word of an SYS instruction with selector f3 (R27). -/
def sysWord (o : OpI) (f3 : BitVec 3) : Word := (o.imm ++ f3 ++ o.a ++ o.d ++ (10 : BitVec 5) ++ (0 : BitVec 1) ++ (1 : BitVec 2)).setWidth 64

end Sys2Proof.Claims

/-- R95: `SRD` reads; `SWR`, `SSET`, `SCLR` read and write as one step; the old value goes to `x[d]`. A write of loop state takes
effect after the instruction's own retirement (R94). -/
def Sys2Proof.Claims.RegisterAccess : Prop :=
  ∀ (o : OpI) (s s1 : State) (old : Word), MayAccess s o → number o ≠ 0x10D → s.stateReg (number o) = some (old, s1) →
    let read := (s1.writeX o.d old).retire 4
    let Writes (i : Instr) (v : Word) : Prop :=
      if 0x50 ≤ number o ∧ number o < 0x70 then Gives i s (read.stateSet (number o) v)
      else Gives i s (((s1.stateSet (number o) v).writeX o.d old).retire 4)
    Gives (.srd o) s read ∧
    (o.a = 0 → Gives (.sset o) s read ∧ Gives (.sclr o) s read) ∧
    (readOnly (number o) = false → Writes (.swr o) (s.x o.a) ∧
      (o.a ≠ 0 → Writes (.sset o) (old ||| s.x o.a) ∧ Writes (.sclr o) (old &&& ~~~(s.x o.a))))

/-- R19: in user mode the access to `vdirty`, `xdirty` or `vflags` stalls while an entry is queued. -/
def Sys2Proof.Claims.RegisterWaits : Prop :=
  ∀ (o : OpI) (s : State), Unpoisoned s [o.a] → s.user = true → number o = 0x014 ∨ number o = 0x015 ∨ number o = 0x01A → s.cur.viq ≠ [] →
    Gives (.srd o) s s ∧ Gives (.swr o) s s ∧ Gives (.sset o) s s ∧ Gives (.sclr o) s s

/-- R62, R63, R95, R97, R304: what a register reads after a write; the bits that its map marks R keep their value, 0. -/
def Sys2Proof.Claims.RegisterBits : Prop :=
  (∀ q ∈ writable, ∀ (s : State) (v : Word), ((s.stateSet q.1 v).stateReg q.1).map (·.1) = some (v &&& q.2)) ∧
  (∀ (s : State) (v : Word), (s.stateSet 0x040 v).stateReg 0x040 = some (0, s)) ∧
  (∀ (s : State) (v : Word) (rm : BitVec 3), rm.toNat < 5 → v.extractLsb' 5 3 = rm →
    ((s.stateSet 0x01B v).stateReg 0x01B).map (·.1) = some (v &&& 0xFF)) ∧
  (∀ (s : State) (v : Word), ((s.stateSet 0x100 v).stateReg 0x100).map (·.1) =
    some ((v &&& 0xC) ||| (s.cur.sys.status &&& 0x700)))

/-- R96: an unassigned number and a system number in user mode, and a write of a read-only register in both modes, are illegal
instructions, which read no register (R35); in system mode an unassigned number reads 0 and takes no write. -/
def Sys2Proof.Claims.RegisterTraps : Prop :=
  ∀ (o : OpI) (s : State),
    let all : List (Instr × BitVec 3) := [(.srd o, 0), (.swr o, 1), (.sset o, 2), (.sclr o, 3)]
    (s.user = true → 0x100 ≤ number o ∨ s.stateReg (number o) = none →
      ∀ q ∈ all, Gives q.1 s (s.trap 0x02 (sysWord o q.2))) ∧
    (s.user = false → Unpoisoned s [o.a] → s.stateReg (number o) = none → ∀ q ∈ all, Gives q.1 s ((s.writeX o.d 0).retire 4)) ∧
    ((s.user = true → number o < 0x100) → readOnly (number o) = true → s.stateReg (number o) ≠ none → o.a ≠ 0 →
      ∀ q ∈ all.tail, Gives q.1 s (s.trap 0x02 (sysWord o q.2)))

/-! ## System instructions and exceptions -/

namespace Sys2Proof.Claims

open Sys2Proof.Machine

/-- The word of an SCTL form with selector n (R310). -/
def sctlWord (o : OpCtl) (n : BitVec 11) : Word :=
  (n ++ (4 : BitVec 3) ++ o.a ++ o.d ++ (10 : BitVec 5) ++ (0 : BitVec 1) ++ (1 : BitVec 2)).setWidth 64

/-- In a reissue of the entry `m15` names the elements that are left: a vector load, store or atomic, and `LTFILL` (R124, R247). -/
def namedByM15 (e : Entry) : Bool := decide (19 ≤ e.major ∧ e.major ≤ 21) || (e.major == 26 && e.f5 == 8)

/-- An entry as a freeze leaves it: `vstart` names its first unfinished element, which in a reissue is the lowest that `m15` names from where the
entry has come (R132, R324). -/
def frozenEntry (m15 : Nat) (e : Entry) : Entry :=
  { e with vstart := if e.reissue && namedByM15 e then
      ((List.range e.total).find? fun i => decide (e.vstart ≤ i) && m15.testBit i).getD e.total else e.vstart }

/-- `m15` as a freeze leaves it: without the elements that a reissue has already performed (R324, R132). -/
def frozenM15 (s : State) : Nat :=
  match s.cur.viq.find? fun e => e.reissue && namedByM15 e && !e.fin with
  | some e => vget (n := 4) s.cur.m 15 / 2 ^ e.vstart * 2 ^ e.vstart
  | none => vget (n := 4) s.cur.m 15

/-- No batch in progress holds a translation that `gone` names (R214, R318). -/
def Unpinned (s : State) (gone : TlbEntry → Bool) : Prop :=
  ∀ c ∈ s.cur :: s.oth :: s.core.drains, ∀ e ∈ c.viq, ∀ p ∈ e.pins, ∀ l b, p.2 = .leaf l b →
    gone ⟨c.sys.asid.toNat, p.1, b, l⟩ = false

/-- Every TLB of the core and of the gang's other members without the entries that `gone` names. -/
def withoutTlb (s : State) (gone : TlbEntry → Bool) : State :=
  { s with core := { s.core with
    tlb1 := s.core.tlb1.filter fun t => !gone t
    tlb2 := s.core.tlb2.filter fun t => !gone t
    mates := s.core.mates.map fun m => { m with
      tlb1 := m.tlb1.filter fun t => !gone t
      tlb2 := m.tlb2.filter fun t => !gone t } } }

end Sys2Proof.Claims

/-- R306, R307: taking a trap or an event in user mode. -/
def Sys2Proof.Claims.TrapState : Prop :=
  ∀ (s : State) (event : Bool) (vec : Option (Nat × BitVec 52)) (code : BitVec 8) (tval : Word), s.user = true →
    let t := s.takeTrap event vec code tval
    t.cur.sys.mode = .system ∧ t.cur.frozen = true ∧ t.cur.half = false ∧
    t.cur.sys.epc = s.cur.pc.setWidth 64 + (if s.cur.half ∧ s.cur.pc.getLsbD 0 = false then 1 else 0) ∧
    t.cur.pc = (s.cur.sys.tvec.setWidth 52 >>> 2) <<< 2 ∧ t.cur.sys.tval = tval ∧
    t.cur.sys.cause.getLsbD 63 = event ∧ t.cur.sys.cause.getLsbD 62 = vec.isSome ∧
    t.cur.sys.cause.setWidth 8 = code ∧
    (t.cur.sys.cause.extractLsb' 16 32).toNat = (match vec with | some (seq, _) => seq % 2 ^ 32 | none => 0) ∧
    t.cur.sys.vepc = (match vec with | some (_, a) => a.setWidth 64 | none => s.cur.sys.vepc) ∧
    t.cur.x = s.cur.x ∧ t.cur.v = s.cur.v ∧ t.cur.m = vset (n := 4) s.cur.m 15 (frozenM15 s) ∧ t.cur.u = s.cur.u ∧
    t.cur.viq = s.cur.viq.map (frozenEntry (vget (n := 4) s.cur.m 15)) ∧ t.cur.lp = s.cur.lp ∧
    t.mem = s.mem ∧ t.oth = s.oth ∧ t.core = s.core ∧ t.dev = s.dev ∧ t.cache = s.cache

/-- R309: a trap in system mode ends the thread as failed, with a fault record of SOURCE 7. -/
def Sys2Proof.Claims.MonitorFault : Prop :=
  ∀ (s : State) (event : Bool) (vec : Option (Nat × BitVec 52)) (code : BitVec 8) (tval : Word), s.user = false →
    let t := s.takeTrap event vec code tval
    t.cur.thr.live = false ∧ t.cur.thr.ended = some true ∧ t.cur.viq = [] ∧ t.dev.nextRid = s.dev.nextRid + 1 ∧
    ∀ a, s.fqSlot = some a → s.tracing = false → (s.cur.sys.fltq.toNat + 24 ≤ a ∨ a + 320 ≤ s.cur.sys.fltq.toNat + 16) →
      t.mem.readVal (a + 22) 1 = 7 ∧ t.mem.readVal (s.cur.sys.fltq.toNat + 16) 8 = (s.fqWord 2 + 1) % 2 ^ 64

/-- R310: `ERET` restores the user mode and the pc, completes the head entry with no effect where SKIPV asks for it, and with
it the finished ones behind it (R17), and ends the thread where KILL does. -/
def Sys2Proof.Claims.EretResult : Prop :=
  ∀ (o : OpCtl) (s : State), s.user = false →
    (s.cur.sys.kill = true → Gives (.eret o) s (s.endThread true)) ∧
    (s.cur.sys.kill = false → ∃ t, Gives (.eret o) s t ∧
      t.cur.sys.mode = .user ∧ t.cur.sys.skipv = false ∧ t.cur.pc = (s.cur.sys.epc.setWidth 52 >>> 1) <<< 1 ∧
      t.cur.half = s.cur.sys.epc.getLsbD 0 ∧ t.cur.frozen = false ∧ t.cur.convoy = none ∧
      t.cur.x = s.cur.x ∧ t.cur.v = s.cur.v ∧ t.cur.lp = s.cur.lp ∧ t.mem = s.mem ∧
      t.cur.sys.epc = s.cur.sys.epc ∧ t.cur.sys.cause = s.cur.sys.cause ∧
      (s.cur.sys.skipv = false → t.cur.viq = s.cur.viq ∧ t.cur.u.vcommit = s.cur.u.vcommit) ∧
      (∀ e r, s.cur.sys.skipv = true → s.cur.viq = e :: r → t.cur.viq = r.dropWhile (·.fin) ∧
        t.cur.u.vcommit = s.cur.u.vcommit + BitVec.ofNat 64 (1 + (r.takeWhile (·.fin)).length)))

/-- R307, R310: the return from a trap goes back to where it was taken, wait half included. -/
def Sys2Proof.Claims.TrapRoundTrip : Prop :=
  ∀ (s : State) (code : BitVec 8) (tval : Word), s.user = true → s.cur.sys.kill = false → s.cur.sys.skipv = false →
    s.cur.pc.getLsbD 0 = false →
    let t := (s.trap code tval).eret
    t.cur.pc = s.cur.pc ∧ t.cur.half = s.cur.half ∧ t.cur.obj = s.cur.obj ∧ t.user = true ∧ t.cur.x = s.cur.x ∧
    t.cur.viq = s.cur.viq.map (frozenEntry (vget (n := 4) s.cur.m 15)) ∧ t.cur.v = s.cur.v ∧ t.cur.m = vset (n := 4) s.cur.m 15 (frozenM15 s) ∧ t.mem = s.mem

/-- R305, R310, R318, R334, R381, R23, R173: the SCTL forms. `EXIT` retires with entries queued as well. A `TLBINV` of an address that no page
has removes nothing (the model's choice, log entry 33). -/
def Obligations.SystemInstructions : Prop :=
  ∀ (o : OpCtl) (s : State),
    Gives (.ecall o) s (s.trap 0x18 0) ∧
    (s.user = false → Gives (.ebreak o) s (s.trap 0x19 0)) ∧
    (s.user = true → s.kden = false → Gives (.ebreak o) s (s.endThread true)) ∧
    (s.user = true → s.kden = true → Gives (.ebreak o) s (s.debugStop none 4 0 0)) ∧
    (s.user = true → Gives (.eret o) s (s.trap 0x02 (sctlWord o 2)) ∧ Gives (.wfi o) s (s.trap 0x02 (sctlWord o 3)) ∧
      Gives (.tlbinv o) s (s.trap 0x02 (sctlWord o 5)) ∧ Gives (.tlbinva o) s (s.trap 0x02 (sctlWord o 6))) ∧
    (s.user = false →
      (s.cur.sys.evPre ∨ s.cur.sys.evKill ∨ s.cur.sys.evStop → Gives (.wfi o) s (s.retire 4)) ∧
      (s.cur.sys.evPre = false → s.cur.sys.evKill = false → s.cur.sys.evStop = false → Gives (.wfi o) s (s.setWait .event)) ∧
      (Unpoisoned s [o.a] →
        let here (t : TlbEntry) : Bool := (decide (t.asid = s.cur.sys.asid.toNat) || pteG t.leaf) &&
          decide ((s.x o.a).toNat / 2 ^ (if t.block then 28 else 16) = t.page / 2 ^ (if t.block then 12 else 0))
        let space (t : TlbEntry) : Bool := decide (s.x o.a = allOnes) || decide (t.asid = (s.x o.a).toNat % 2 ^ 16)
        (Drained s → Unpinned s here → Gives (.tlbinv o) s ((withoutTlb s here).retire 4)) ∧
        (Drained s → Unpinned s space → Gives (.tlbinva o) s ((withoutTlb s space).retire 4)) ∧
        (s.releaseWaits = true ∨ ¬ Unpinned s here → Gives (.tlbinv o) s s) ∧
        (s.releaseWaits = true ∨ ¬ Unpinned s space → Gives (.tlbinva o) s s)) ∧
      Gives (.exit o) s (s.trap 0x02 (sctlWord o 7))) ∧
    ((∀ e ∈ s.cur.viq, e.stores = true → e.fin = true) →
      ∃ t, Gives (.ifence o) s t ∧ t.cur.thr.stale = [] ∧ t.mem = s.mem ∧ t.cur.pc = (s.retire 4).cur.pc) ∧
    ((∃ e ∈ s.cur.viq, e.stores = true ∧ e.fin = false) → Gives (.ifence o) s s) ∧
    (s.user = true → s.cur.viq = [] → s.cur.u.gangid = 0 → s.tracing = false →
      ∃ t, Gives (.exit o) s t ∧ t.cur.thr.live = false ∧ t.cur.thr.ended = some false ∧
        t.cur.u.instret = s.cur.u.instret + 1 ∧ t.mem = s.mem ∧ t.oth = s.oth) ∧
    (s.user = true → s.cur.viq ≠ [] → s.tracing = false →
      ∃ t, Gives (.exit o) s t ∧ t.cur.thr.live = false ∧ t.cur.thr.ended = some false ∧ t.cur.viq = s.cur.viq ∧ t.cur.pc = s.cur.pc ∧
        t.cur.u.instret = s.cur.u.instret + 1 ∧ t.mem = s.mem ∧ t.oth = s.oth) ∧
    (s.user = true → s.gangBusy = true → ∃ t, Gives (.exit o) s t ∧ t.cur.u.gangid = s.cur.u.gangid ∧ t.core.gangs = s.core.gangs ∧
      t.cur.thr.live = false ∧ t.cur.thr.ended = some false)

/-- R319: `PGSPLICE`: a breach of the run rules answers 2^62, a page that may not move 2^63 + j, and the exchange 0. -/
def Sys2Proof.Claims.PageSplice : Prop :=
  ∀ (o : OpI) (s s1 : State) (bs : List Byte), Unpoisoned s [o.a] → 1 ≤ o.imm.toNat → o.imm.toNat ≤ 64 →
    (s.x o.a).toNat < 2 ^ 52 → (s.x o.a).toNat % 16 = 0 → s.watch (s.x o.a).toNat 16 true false = none →
    readDwords s (s.x o.a) 2 = .ok bs s1 →
    let n := o.imm.toNat
    let dst := BitVec.ofNat 64 (Memory.leVal (bs.take 8))
    let src := BitVec.ofNat 64 (Memory.leVal (bs.drop 8))
    let p := dst.toNat / 2 ^ 16
    let q := src.toNat / 2 ^ 16
    dst.toNat < 2 ^ 52 → src.toNat < 2 ^ 52 → dst.toNat % 2 ^ 16 = 0 → src.toNat % 2 ^ 16 = 0 →
    let apart := (p + n ≤ q ∨ q + n ≤ p) ∧ p % 4096 + n ≤ 4096 ∧ q % 4096 + n ≤ 4096
    (¬ apart → Gives (.pgsplice o) s ((s1.writeX o.d (1 <<< 62)).retire 4)) ∧
    (∀ td ts, apart → level3 s1 dst.toNat = .ok (some td) → level3 s1 src.toNat = .ok (some ts) →
      (∀ k, k < n → tableBad s1 (td + 8 * (p % 4096 + k)) = false ∧ tableBad s1 (ts + 8 * (q % 4096 + k)) = false) →
      let leaf (t p k : Nat) : Word := BitVec.ofNat 64 (s1.mem.readVal (t + 8 * (p % 4096 + k)) 8)
      let bad (j : Nat) : Prop := if j < n then spliceOk s1 (leaf td p j) = false else spliceOk s1 (leaf ts q (j - n)) = false
      (∀ j, j < 2 * n → bad j → (∀ i, i < j → ¬ bad i) →
        Gives (.pgsplice o) s ((s1.writeX o.d (BitVec.ofNat 64 (2 ^ 63 + j))).retire 4)) ∧
      (let gone (t : TlbEntry) : Bool := (List.range n).any fun k =>
          t.hits s1.cur.sys.asid.toNat ((p + k) * 2 ^ 16) || t.hits s1.cur.sys.asid.toNat ((q + k) * 2 ^ 16)
       (∀ j, j < 2 * n → ¬ bad j) → Drained s1 → Unpinned s1 gone → ∃ u : State, Gives (.pgsplice o) s (u.retire 4) ∧ u.x o.d = 0 ∧
        (let x := td + 8 * (p % 4096)
         let y := ts + 8 * (q % 4096)
         x + 8 * n ≤ y ∨ y + 8 * n ≤ x →
          (∀ k, k < n → u.mem.readVal (x + 8 * k) 8 = s1.mem.readVal (y + 8 * k) 8 ∧
            u.mem.readVal (y + 8 * k) 8 = s1.mem.readVal (x + 8 * k) 8) ∧
          (∀ a, (a < x ∨ x + 8 * n ≤ a) → (a < y ∨ y + 8 * n ≤ a) → u.mem.read a = s1.mem.read a)) ∧
        (∀ e ∈ u.core.tlb1, ∀ k, k < n → e.hits s1.cur.sys.asid.toNat ((p + k) * 2 ^ 16) = false ∧
          e.hits s1.cur.sys.asid.toNat ((q + k) * 2 ^ 16) = false)))

/-! ## Translation -/

namespace Sys2Proof.Claims

open Sys2Proof.Machine

/-- The doubleword at a physical address. -/
def dword (s : State) (a : Nat) : Word := BitVec.ofNat 64 (s.mem.readVal a 8)

/-- A pointer of level lvl to the next table (R211). -/
def Pointer (s : State) (lvl : Nat) (e : Word) : Prop :=
  e.getLsbD 0 = true ∧ e.getLsbD 1 = false ∧ e.getLsbD 2 = false ∧ e.getLsbD 3 = false ∧ malformed s lvl e = false

/-- The table that a pointer names: FRAME × 64 KiB, and the upper half with TH (R211). -/
def tableOf (e : Word) : Nat := (e.extractLsb' 16 36).toNat * 65536 + if e.getLsbD 15 then 32768 else 0

/-- The leaf allows the access (R212). -/
def Allows (e : Word) : Acc → Prop
  | .read => e.getLsbD 1 = true
  | .write => e.getLsbD 2 = true
  | .fetch => e.getLsbD 3 = true
  | .amo => e.getLsbD 1 = true ∧ e.getLsbD 2 = true

/-- No engine owns a line or moves a page. -/
structure Still (s : State) : Prop where
  copies : s.core.copies = []
  mig : s.dev.mig = []

/-- How a leaf attributes an access: memory type 1, and Z (R211). -/
def attrs (e : Word) : MemAttr := ⟨decide (e.extractLsb' 10 2 = 1), e.getLsbD 8⟩

/-- A TLB translates va to pa, with the attributes m, for an access: present memory, no page in transit, no walk needed (R213). -/
structure TlbHit (s : State) (va : Nat) (acc : Acc) (pa : Nat) (m : MemAttr) : Prop where
  user : s.user = true
  entry : ∃ t, tlbFind s s.cur.sys.asid.toNat va = some t ∧ permOk t.leaf acc = true ∧ (acc.writes = true → pteD t.leaf = true) ∧
    pteMt t.leaf ≠ 2 ∧ pteT t.leaf = false ∧ m = attrs t.leaf ∧ pa = pteFrame t.leaf + if t.block then va % 2 ^ 28 else va % 2 ^ 16
  place : physAt s m pa = .at (.mem pa m)

/-- What a walk does with the leaf e at address a, which maps n bytes: without permission page CODE 3 and no effect; else A is set, and D at a
write, in memory and in the TLB, and the place is that of the frame. Stated for memory of type 0 in HBM, of no page in transit (R212). -/
def LeafUsed (s : State) (va : Nat) (acc : Acc) (a : Nat) (e : Word) (n : Nat) : Prop :=
  let pa := (e.extractLsb' 16 36).toNat * 65536 + va % n
  let used := e ||| 0x20 ||| if acc.writes then 0x40 else 0
  (¬ Allows e acc → translate s va acc = (.fault 3, s)) ∧
  (Allows e acc → e.getLsbD 7 = false → e.extractLsb' 10 2 = 0 → Still s → ∀ d, regionOf pa = .hbm d → s.dev.dieLost d = false →
    ∃ t, translate s va acc = (.at (.mem pa ⟨false, e.getLsbD 8⟩), t) ∧ Stored s t a 8 used.toNat ∧
      (tlbFind t s.cur.sys.asid.toNat va).map (·.leaf) = some used ∧ t.cur = s.cur ∧ t.oth = s.oth ∧ t.dev = s.dev)

/-- The n bytes at pa hold no poison (R321). -/
abbrev Sound (s : State) (pa n : Nat) : Prop := s.badLine pa n = none

end Sys2Proof.Claims

/-- R210–R213, R321, R376: a walk of three levels by the index fields of the address; a faulting level gives its page CODE and no effect
(6 where the entry's line is poisoned or lost); a leaf of level 3, or of level 2 for a block of 256 MiB, that allows the access gains A, and D at
a write, and enters the TLBs. -/
def Sys2Proof.Claims.PageWalk : Prop :=
  ∀ (s : State) (va : Nat) (acc : Acc), s.user = true → va < 2 ^ 52 → tlbFind s s.cur.sys.asid.toNat va = none →
    let a1 := s.cur.sys.ptbase.toNat + 8 * (va / 2 ^ 40)
    let e1 := dword s a1
    let a2 := tableOf e1 + 8 * (va / 2 ^ 28 % 4096)
    let e2 := dword s a2
    let a3 := tableOf e2 + 8 * (va / 2 ^ 16 % 4096)
    let e3 := dword s a3
    (tableBad s a1 = true → translate s va acc = (.fault 6, s)) ∧
    (tableBad s a1 = false → e1.getLsbD 0 = false → translate s va acc = (.fault 1, s)) ∧
    (tableBad s a1 = false → e1.getLsbD 0 = true → malformed s 1 e1 = true → translate s va acc = (.fault 2, s)) ∧
    (tableBad s a1 = false → Pointer s 1 e1 → (tableBad s a2 = true → translate s va acc = (.fault 6, s)) ∧
      (tableBad s a2 = false → (e2.getLsbD 0 = false → translate s va acc = (.fault 1, s)) ∧
        (e2.getLsbD 0 = true → malformed s 2 e2 = true → translate s va acc = (.fault 2, s)) ∧
        (e2.getLsbD 0 = true → malformed s 2 e2 = false → e2.getLsbD 1 = true ∨ e2.getLsbD 3 = true → LeafUsed s va acc a2 e2 (2 ^ 28)))) ∧
    (tableBad s a1 = false → Pointer s 1 e1 → tableBad s a2 = false → Pointer s 2 e2 → tableBad s a3 = true →
      translate s va acc = (.fault 6, s)) ∧
    (tableBad s a1 = false → Pointer s 1 e1 → tableBad s a2 = false → Pointer s 2 e2 → tableBad s a3 = false →
      (e3.getLsbD 0 = false → translate s va acc = (.fault 1, s)) ∧
      (e3.getLsbD 0 = true → malformed s 3 e3 = true → translate s va acc = (.fault 2, s)) ∧
      (e3.getLsbD 0 = true → malformed s 3 e3 = false → LeafUsed s va acc a3 e3 (2 ^ 16)))

/-- R213: a TLB entry that allows the access is used whatever the tables hold now; nothing changes. -/
def Sys2Proof.Claims.TlbUse : Prop :=
  ∀ (s : State) (va : Nat) (acc : Acc) (pa : Nat) (a : MemAttr) (m : Memory), TlbHit s va acc pa a →
    translate { s with mem := m } va acc = (.at (.mem pa a), { s with mem := m })

/-! ## Synchronisation -/

namespace Sys2Proof.Claims

open Sys2Proof.Machine

/-- 32-bit word k of the object at pa. -/
def word (s : State) (pa k : Nat) : Nat := s.mem.readVal (pa + 4 * k) 4

/-- The object at pa holds four words, and every other byte of memory is as in `s`. -/
def Object (s t : State) (pa w0 w1 w2 w3 : Nat) : Prop :=
  word t pa 0 = w0 ∧ word t pa 1 = w1 ∧ word t pa 2 = w2 ∧ word t pa 3 = w3 ∧ ∀ a, a < pa ∨ pa + 16 ≤ a → t.mem.read a = s.mem.read a

/-- A barrier as R192 demands of an arrival. -/
def Barrier (s : State) (pa : Nat) : Prop :=
  word s pa 2 ≠ 0 ∧ word s pa 0 ≠ 0 ∧ word s pa 0 ≤ word s pa 2 ∧ word s pa 3 = 0

/-- No entry of the thread, or of one that had its context before, has an access to perform (R20, R173). -/
structure Quiet (s : State) : Prop where
  own : ∀ e ∈ s.cur.viq, e.reaches = true → e.fin = true
  old : ∀ d ∈ s.core.drains, d.id = s.cur.id → d.viq = []

/-- The object of R190 at ea: aligned, in HBM, translated by a TLB, sound, and no earlier access to wait for. -/
structure ObjectAt (s : State) (ea : Word) (pa : Nat) : Prop where
  range : ea.toNat < 2 ^ 52 ∧ ea.toNat % 16 = 0
  hit : ∃ m, TlbHit s ea.toNat .amo pa m
  quiet : Quiet s
  home : ∃ d, regionOf pa = .hbm d
  sound : Sound s pa 16

end Sys2Proof.Claims

/-- R191, R192: initialisation, arrival and wait. -/
def Sys2Proof.Claims.Barriers : Prop :=
  ∀ (o : OpR) (s : State) (pa : Nat), Unpoisoned s [o.a] → Drained s → s.dev.replay = none → ObjectAt s (s.x o.a) pa →
    (Unpoisoned s [o.b] →
      (0 < (s.x o.b).toNat → (s.x o.b).toNat < 2 ^ 32 →
        ∃ u : State, Gives (.barinit o) s (u.retire 4) ∧ Object s u pa (s.x o.b).toNat 0 (s.x o.b).toNat 0 ∧ u.cur.x = s.cur.x) ∧
      ((s.x o.b).toNat = 0 ∨ 2 ^ 32 ≤ (s.x o.b).toNat → Gives (.barinit o) s (s.trap 0x13 (s.x o.a))) ∧
      (word s pa 1 ≠ (s.x o.b).toNat % 2 ^ 32 → Gives (.barwait o) s ((s.writeX o.d (BitVec.ofNat 64 (word s pa 1))).retire 4)) ∧
      (word s pa 1 = (s.x o.b).toNat % 2 ^ 32 → Gives (.barwait o) s (s.setWait .event))) ∧
    (¬ Barrier s pa → Gives (.bararr o) s (s.trap 0x13 (s.x o.a))) ∧
    (Barrier s pa → ∃ u : State, Gives (.bararr o) s ((u.writeX o.d (BitVec.ofNat 64 (word s pa 1))).retire 4) ∧ u.cur.x = s.cur.x ∧
      if word s pa 0 = 1 then Object s u pa (word s pa 2) ((word s pa 1 + 1) % 2 ^ 32) (word s pa 2) 0
      else Object s u pa (word s pa 0 - 1) (word s pa 1) (word s pa 2) 0) ∧
    (Barrier s pa → s.cur.half = false →
      (word s pa 0 = 1 → ∃ u : State, Gives (.barsync o) s (u.retire 4) ∧ u.x o.d = (if o.d = 0 then 0 else BitVec.ofNat 64 (word s pa 1)) ∧
        u.xlast = (if o.d = 0 then s.xlast else o.d) ∧
        (∀ r, r ≠ o.d → u.x r = s.x r) ∧ Object s u pa (word s pa 2) ((word s pa 1 + 1) % 2 ^ 32) (word s pa 2) 0) ∧
      (word s pa 0 ≠ 1 → ∃ u : State, Gives (.barsync o) s u ∧ u.cur.half = true ∧ u.cur.pc = s.cur.pc ∧ u.cur.thr.wait = .event ∧
        u.x o.d = (if o.d = 0 then 0 else BitVec.ofNat 64 (word s pa 1)) ∧ u.cur.u = s.cur.u ∧
        u.cur.obj = some (s.cur.pc, s.x o.a, word s pa 1) ∧
        Object s u pa (word s pa 0 - 1) (word s pa 1) (word s pa 2) 0)) ∧
    (¬ Barrier s pa → s.cur.half = false → Gives (.barsync o) s (s.trap 0x13 (s.x o.a)))

/-- R40, R191, R193: the wait half of `BARSYNC` waits for the generation after the one that its join half has latched, whatever its registers
hold by then, and `lastd` takes its destination when it retires. -/
def Sys2Proof.Claims.BarrierWaitHalf : Prop :=
  ∀ (o : OpR) (s : State) (pa : Nat) (ea : Word) (g : Nat), s.cur.half = true → s.cur.obj = some (s.cur.pc, ea, g) →
    Unpoisoned s [o.d] → ObjectAt s ea pa →
    (word s pa 1 ≠ g → Gives (.barsync o) s (((s.setXlast o.d).setObj none).retire 4)) ∧
    (word s pa 1 = g → Gives (.barsync o) s (s.setWait .event))

/-- R193–R195: the first and the last join of a gang, its wait half, and the leave. -/
def Sys2Proof.Claims.Gangs : Prop :=
  ∀ (o : OpR) (s : State) (pa : Nat), Drained s → s.dev.replay = none →
    (Unpoisoned s [o.a, o.b] → ObjectAt s (s.x o.a) pa → s.cur.half = false →
      let n := (s.x o.b).toNat
      (n < 2 ∨ 4 < n ∨ s.cur.u.gangid ≠ 0 ∨ (∃ g ∈ s.core.gangs, g.here = true) → Gives (.gang o) s (s.trap 0x13 (s.x o.a))) ∧
      (2 ≤ n → n ≤ 4 → s.cur.u.gangid = 0 → word s pa 0 = 0 → s.core.gangs = [] →
        ∃ u : State, Gives (.gang o) s u ∧ u.cur.half = true ∧ u.cur.thr.wait = .event ∧ u.cur.u.gangid = BitVec.ofNat 64 (16 + (n - 1)) ∧
          word u pa 0 = 1 ∧ u.x o.d = 0 ∧ u.core.gangs = [⟨1, pa, s.x o.a, n, true⟩]) ∧
      (∀ (g : GangRec) (j : Nat), s.cur.u.gangid = 0 → s.core.gangs = [g] → g.here = false → g.obj = pa → g.size = n →
        (g.gid = 1 ∨ g.gid = 2) → 2 ≤ n → n ≤ 4 → word s pa 0 = j → j + 1 = n →
        word s pa 1 = g.gid + n * 2 ^ 8 + s.clus % 2 ^ 8 * 2 ^ 16 →
        ∃ u : State, Gives (.gang o) s (u.retire 4) ∧ u.cur.u.gangid = BitVec.ofNat 64 (g.gid * 16 + j * 4 + (n - 1)) ∧
          word u pa 0 = n ∧ u.x o.d = if o.d = 0 then 0 else BitVec.ofNat 64 j)) ∧
    (∀ (g : GangRec) (ea : Word) (k : Nat), s.cur.half = true → s.cur.obj = some (s.cur.pc, ea, k) → ObjectAt s ea pa →
      s.gangRec (gangGid s.cur.u.gangid) = some g →
      (word s pa 0 = g.size → Gives (.gang o) s (((s.setXlast o.d).setObj none).retire 4)) ∧
      (word s pa 0 ≠ g.size → Gives (.gang o) s (s.setWait .event))) ∧
    (∀ (g : GangRec), Unpoisoned s [o.a] → ObjectAt s (s.x o.a) pa → s.gangRec (gangGid s.cur.u.gangid) = some g →
      gangGid s.cur.u.gangid ≠ 0 → g.obj = pa → s.gangBusy = false →
      ∃ u : State, Gives (.gleave o) s (u.retire 4) ∧ u.cur.u.gangid = 0 ∧
        if (word s pa 2 + 1) % 2 ^ 32 = g.size then
          Object s u pa 0 0 0 0 ∧ u.core.gangs = s.core.gangs.filter fun h => h.gid != g.gid
        else word u pa 2 = (word s pa 2 + 1) % 2 ^ 32 ∧ word u pa 0 = word s pa 0 ∧
          u.core.gangs = s.core.gangs.map fun h => if h.gid = g.gid then { h with here := false } else h) ∧
    (∀ (g : GangRec), Unpoisoned s [o.a] → ObjectAt s (s.x o.a) pa → s.gangRec (gangGid s.cur.u.gangid) = some g →
      gangGid s.cur.u.gangid ≠ 0 → g.obj = pa → s.gangBusy = true → Gives (.gleave o) s s) ∧
    (∀ (g : GangRec), Unpoisoned s [o.a] → ObjectAt s (s.x o.a) pa → s.gangRec (gangGid s.cur.u.gangid) = some g →
      gangGid s.cur.u.gangid = 0 ∨ g.obj ≠ pa → Gives (.gleave o) s (s.trap 0x13 (s.x o.a)))

/-- R196, R197: messages within the core: appended to a mailbox with room, removed oldest first; statuses 0, 1, 2. -/
def Sys2Proof.Claims.Messages : Prop :=
  ∀ (o : OpR) (s : State),
    (Unpoisoned s [o.a, o.b] → Drained s →
      let m := (s.cur.u.tid, s.x o.b)
      (s.cur.isThread (s.x o.a) = true → s.cur.thr.mailbox.length < 16 →
        Gives (.msgsnd o) s (((s.setThr { s.cur.thr with mailbox := s.cur.thr.mailbox ++ [m] }).writeX o.d 0).retire 4)) ∧
      (s.cur.isThread (s.x o.a) = true → 16 ≤ s.cur.thr.mailbox.length → Gives (.msgsnd o) s ((s.writeX o.d 1).retire 4)) ∧
      (s.cur.isThread (s.x o.a) = false → s.oth.isThread (s.x o.a) = true → s.oth.thr.mailbox.length < 16 →
        Gives (.msgsnd o) s (({ s with oth := { s.oth with thr := { s.oth.thr with
          mailbox := s.oth.thr.mailbox ++ [m] } } }.writeX o.d 0).retire 4)) ∧
      (s.cur.isThread (s.x o.a) = false → s.oth.isThread (s.x o.a) = false → s.core.saved.all (fun c => !c.isThread (s.x o.a)) = true →
        s.dev.others.all (fun t => t.tid != s.x o.a) = true → Gives (.msgsnd o) s ((s.writeX o.d 2).retire 4))) ∧
    (∀ (sender payload : Word) (r : List (Word × Word)), s.cur.thr.mailbox = (sender, payload) :: r →
      let t := (s.setThr { s.cur.thr with mailbox := r }).writeX o.d payload
      Gives (.msgrcv o) s ((if o.a = o.d then t else t.putX o.a sender).retire 4) ∧
      Gives (.msgtry o) s ((if o.a = o.d then t else t.putX o.a sender).retire 4)) ∧
    (s.cur.thr.mailbox = [] → Gives (.msgrcv o) s (s.setWait .event) ∧
      Gives (.msgtry o) s ((if o.a = o.d then s.writeX o.d 0 else (s.writeX o.d 0).putX o.a allOnes).retire 4))

/-- R198: `VSYNC` stalls until the queue is empty; `YIELD` lets a runnable other context issue next. -/
def Sys2Proof.Claims.Yielding : Prop :=
  ∀ (o : OpR) (s : State),
    (s.cur.viq = [] → Gives (.vsync o) s (s.retire 4)) ∧ (s.cur.viq ≠ [] → Gives (.vsync o) s s) ∧
    (s.oth.runnable = false → Gives (.yield o) s (s.retire 4)) ∧
    (s.oth.runnable = true → Gives (.yield o) s { s.retire 4 with cur := s.oth, oth := (s.retire 4).cur, forced := true })

/-! ## Vector memory -/

namespace Sys2Proof.Claims

open Sys2Proof.Machine

/-- A TLB translates va for an access to the place l, in memory or in the scratchpad; nothing holds it (R202, R213). -/
structure Hit (s : State) (va : Nat) (acc : Acc) (l : Loc) : Prop where
  entry : ∃ t, tlbFind s s.cur.sys.asid.toNat va = some t ∧ permOk t.leaf acc = true ∧ (acc.writes = true → pteD t.leaf = true) ∧
    let pa := pteFrame t.leaf + if t.block then va % 2 ^ 28 else va % 2 ^ 16
    if pteMt t.leaf = 2 then spadLoc s pa = .at l else pteT t.leaf = false ∧ physAt s (attrs t.leaf) pa = .at l
  kind : (∃ pa m, l = .mem pa m) ∨ ∃ k, l = .spad k

/-- Element i's access is in range and aligned, and no watchpoint sees it (R6, R123, R339). -/
def Sees (s : State) (acc : Acc) (ea : Word) : Prop :=
  ea.toNat < 2 ^ 52 ∧ ea.toNat % (ew s / 8) = 0 ∧ s.watch ea.toNat (ew s / 8) (acc != .write) acc.writes = none

/-- Every element of `act` is seen, and its place l i is found and holds no poison that the access would read (R321). -/
def Elements (s : State) (acc : Acc) (act : Nat → Bool) (ea : Nat → Word) (l : Nat → Loc) : Prop :=
  ∀ i, act i = true → Sees s acc (ea i) ∧ Hit s (ea i).toNat acc (l i) ∧ (acc ≠ .write → locPoison s (l i) (ew s / 8) = none)

/-- The offset of element i of an index vector under tag t: signed for `sint32` and `sint64` (R121). -/
def indexValue (t : Tag) (v : Nat) : Word :=
  if t = 0x010 then (BitVec.ofNat 32 v).signExtend 64 else BitVec.ofNat 64 v

/-- An index vector (R121). -/
structure Index (s : State) (b : BitVec 5) : Prop where
  tag : tagOk (s.vtag b) = true
  kind : (tagKind (s.vtag b)).isIX = true
  width : tagWidth (s.vtag b) = 32 ∨ tagWidth (s.vtag b) = 64
  source : Source s (tagWidth (s.vtag b)) b

/-- The element addresses of R121 for a base: unit stride, strided, indexed. -/
def unitEa (s : State) (base : Word) (i : Nat) : Word := base + BitVec.ofNat 64 (i * (ew s / 8))
def stridedEa (stride base : Word) (i : Nat) : Word := base + BitVec.ofNat 64 i * stride
def indexedEa (s : State) (b : BitVec 5) (base : Word) (i : Nat) : Word :=
  base + indexValue (s.vtag b) (el s (tagWidth (s.vtag b)) b i)

/-- The tag of a loaded register (R122). -/
def loadedTag (s : State) (d : BitVec 5) : Tag :=
  if tagOk (s.vtag d) = true ∧ bytesOf (s.vtag d) = ew s then s.vtag d
  else if ew s = 8 then 0x001 else if ew s = 16 then 0x009 else if ew s = 32 then 0x015 else 0x01D

/-- The value at place l, W/8 bytes. -/
def loaded (s : State) (l : Loc) : Nat := Memory.leVal (locRead s l (ew s / 8)).1

/-- `s` but for the prefetch slots, which note the reads of their thread (R220), and the caches, which see its accesses (R206–R209). -/
def noted (s : State) (slots : List PfSlot) (cache : Caches) : State := { s with core := { s.core with slots := slots }, cache := cache }

/-- Both forms of a vector memory mode: the instruction, its operands, its offset, its length. -/
def VmForms (f : OpVm → Instr) (g : OpVmW → Instr)
    (P : Instr → Bool → BitVec 5 → BitVec 5 → BitVec 5 → BitVec 4 → Word → Nat → Prop) : Prop :=
  (∀ o : OpVm, P (f o) o.c o.d o.a o.b o.m 0 4) ∧ (∀ o : OpVmW, P (g o) o.c o.d o.a o.b o.m (o.off.signExtend 64) 8)

/-- A load of the elements at `ea` completes with their values (R123). -/
def LoadDone (i : Instr) (s : State) (len : Nat) (c : Bool) (d : BitVec 5) (mk : BitVec 4) (ea : Nat → Word) : Prop :=
  ∀ l, Elements s .read (on s mk) ea l →
    ∃ slots cache, VecDoneOn (noted s slots cache) i s len .ld c d (ew s) (loadedTag s d) (on s mk) fun k => (loaded s (l k), 0)

/-- The stores of elements at their places, one after another. -/
def storeAll (s : State) (d : BitVec 5) (l : Nat → Loc) (order : List Nat) : State :=
  order.foldl (fun t i => locPut t (l i) (leBytes (ew s / 8) (el s (ew s) d i))) s

/-- n bytes at a place. -/
def valueAt (s : State) (l : Loc) (n : Nat) : Nat :=
  match l with
  | .mem pa _ => s.mem.readVal pa n
  | .spad k => s.core.spad.readVal k n
  | _ => 0

/-- A byte of memory or of the scratchpad outside all places of the elements of `act` is as before. -/
def OnlyAt (s t : State) (act : Nat → Bool) (l : Nat → Loc) : Prop :=
  (∀ a, (∀ i pa m, act i = true → l i = .mem pa m → a < pa ∨ pa + ew s / 8 ≤ a) → t.mem.read a = s.mem.read a) ∧
  (∀ a, (∀ i k, act i = true → l i = .spad k → a < k ∨ k + ew s / 8 ≤ a) → t.core.spad.read a = s.core.spad.read a)

/-- Two places share no byte. -/
def Loc.apart (n : Nat) : Loc → Loc → Prop
  | .mem a _, .mem b _ => a + n ≤ b ∨ b + n ≤ a
  | .spad a, .spad b => a + n ≤ b ∨ b + n ≤ a
  | _, _ => True

/-- The data register of a store (R128). -/
structure Data' (s : State) (d : BitVec 5) (mk : BitVec 4) : Prop where
  tag : tagOk (s.vtag d) = true
  width : bytesOf (s.vtag d) = ew s
  source : Source s (ew s) d
  gov : GovFree s mk

/-- A store of the elements at `ea` completes: in ascending order, or in some order (R129, R130). -/
def StoreDone (ordered : Bool) (i : Instr) (s : State) (len : Nat) (c : Bool) (d : BitVec 5) (mk : BitVec 4) (ea : Nat → Word) : Prop :=
  ∀ l, Elements s .write (on s mk) ea l → s.dev.replay = none →
    ∃ k order cache, (if ordered then k = s.free ∧ order = actives s mk else order.Perm (actives s mk)) ∧
      let t : State := { storeAll s d l order with cache := cache }
      Gives i s ((completed (t.setFree k) .st c none none 0).retire len) ∧ OnlyAt s t (on s mk) l ∧
      ∀ j, on s mk j = true → (∀ m, on s mk m = true → m ≠ j → Loc.apart (ew s / 8) (l j) (l m)) →
        valueAt t (l j) (ew s / 8) = el s (ew s) d j

/-- The operations of R187, from the word w and the operand b of n bytes. -/
structure AmoRow where
  short : OpVm → Instr
  wide : OpVmW → Instr
  any : Bool
  new : (signed : Bool) → Nat → Nat → Nat → Nat

noncomputable def amoRows : List AmoRow :=
  [⟨.vamoadd, .vamoaddWide, false, fun _ n w b => (w + b) % 2 ^ (8 * n)⟩,
   ⟨.vamobinc, .vamobincWide, false, fun _ _ w b => if w < b then w + 1 else w⟩,
   ⟨.vamomin, .vamominWide, false, fun sgn n w b =>
     if sgn then (if signedN n w ≤ signedN n b then w else b) else if w ≤ b then w else b⟩,
   ⟨.vamomax, .vamomaxWide, false, fun sgn n w b =>
     if sgn then (if signedN n b ≤ signedN n w then w else b) else if b ≤ w then w else b⟩,
   ⟨.vamoswap, .vamoswapWide, true, fun _ _ _ b => b⟩]

/-- The elements in ascending order: each reads its word and writes the new one; the state, and the words read (R187). -/
def amoAll (s : State) (d : BitVec 5) (new : Nat → Nat → Nat) (l : Nat → Loc) : List Nat → State × (Nat → Nat) → State × (Nat → Nat)
  | [], r => r
  | i :: is, r =>
    let w := valueAt r.1 (l i) (ew s / 8)
    amoAll s d new l is
      (locPut r.1 (l i) (leBytes (ew s / 8) (new w (el s (ew s) d i))), fun k => if k = i then w else r.2 k)

/-- An atomic operation on the elements at `ea` completes with the words that it read (R186, R187). -/
def AmoDone (r : AmoRow) (i : Instr) (s : State) (len : Nat) (c : Bool) (d : BitVec 5) (mk : BitVec 4) (ea : Nat → Word) : Prop :=
  ∀ l, Elements s .amo (on s mk) ea l → s.dev.replay = none →
    (∀ j pa m, on s mk j = true → l j = .mem pa m → regionOf pa ≠ .far) →
    let q := amoAll s d (r.new (tagKind (s.vtag d) = .sint) (ew s / 8)) l (actives s mk) (s, fun _ => 0)
    OnlyAt s q.1 (on s mk) l ∧
      ∃ slots cache, VecDoneOn (noted q.1 slots cache) i s len .st c d (ew s) (s.vtag d) (on s mk) fun k => (q.2 k, 0)

end Sys2Proof.Claims

/-- R121–R123, R126: the loads; `VLDFF` trims at an element above the lowest one that does not translate (CODE 1–5, R212). -/
def Sys2Proof.Claims.LoadResults : Prop :=
  VmForms .vld .vldWide (fun i c d a _ mk off len => ∀ s, Works s .ld c [a] → Aligned s (ew s) d → GovFree s mk →
    LoadDone i s len c d mk (unitEa s (s.x a + off))) ∧
  VmForms .vlds .vldsWide (fun i c d a b mk off len => ∀ s, Works s .ld c [a, b] → Aligned s (ew s) d → GovFree s mk →
    LoadDone i s len c d mk (stridedEa (s.x b) (s.x a + off))) ∧
  VmForms .vldx .vldxWide (fun i c d a b mk off len => ∀ s, Works s .ld c [a] → Aligned s (ew s) d → GovFree s mk →
    Index s b → DestBeside s (ew s) d (tagWidth (s.vtag b)) b → LoadDone i s len c d mk (indexedEa s b (s.x a + off))) ∧
  VmForms .vldff .vldffWide (fun i c d a _ mk off len => ∀ s, Works s .ld c [a] → Aligned s (ew s) d → GovFree s mk → mk ≠ 15 →
    let ea := unitEa s (s.x a + off)
    LoadDone i s len c d mk ea ∧
    ∀ (k code : Nat) (l : Nat → Loc), (∀ j, on s mk j = true → Sees s .read (ea j)) →
      (∃ j, j < k ∧ on s mk j = true) → on s mk k = true →
      Elements s .read (fun j => on s mk j && decide (j < k)) ea l → translate s (ea k).toNat .read = (.fault code, s) →
      code ≠ 6 ∧ code ≠ 7 → (∀ j, on s mk j = true → k < j → ∃ r, r ≠ Tr.hold ∧ translate s (ea j).toNat .read = (r, s)) →
      ∃ slots cache m, (∀ j, m.testBit j = (bit s mk j && !(on s mk j && decide (k ≤ j)))) ∧
        VecDoneOn ((noted s slots cache).putMask mk m) i s len .ld c d (ew s) (loadedTag s d)
          (fun j => on s mk j && decide (j < k)) fun j => (loaded s (l j), 0))

/-- R128–R130: the stores, ordered and unordered. -/
def Sys2Proof.Claims.VectorStores : Prop :=
  ∀ ordered : Bool,
    VmForms (if ordered then .vst else .vstu) (if ordered then .vstWide else .vstuWide)
      (fun i c d a _ mk off len => ∀ s, Works s .st c [a] → Data' s d mk →
        StoreDone ordered i s len c d mk (unitEa s (s.x a + off))) ∧
    VmForms (if ordered then .vsts else .vstsu) (if ordered then .vstsWide else .vstsuWide)
      (fun i c d a b mk off len => ∀ s, Works s .st c [a, b] → Data' s d mk →
        StoreDone ordered i s len c d mk (stridedEa (s.x b) (s.x a + off))) ∧
    VmForms (if ordered then .vstx else .vstxu) (if ordered then .vstxWide else .vstxuWide)
      (fun i c d a b mk off len => ∀ s, Works s .st c [a] → Data' s d mk → Index s b →
        StoreDone ordered i s len c d mk (indexedEa s b (s.x a + off)))

/-- R186, R187: the atomic operations on the elements in ascending order. -/
def Sys2Proof.Claims.VectorAtomics : Prop :=
  ∀ r ∈ amoRows, VmForms r.short r.wide fun i c d a b mk off len => ∀ s, Works s .st c [a] → Data' s d mk →
    ew s = 32 ∨ ew s = 64 → (if r.any then !(tagKind (s.vtag d)).isNW else (tagKind (s.vtag d)).isIX) = true →
    Index s b → DestBeside s (ew s) d (tagWidth (s.vtag b)) b → AmoDone r i s len c d mk (indexedEa s b (s.x a + off))

/-- R124, R131, R312 in a unit-stride load and an ordered store: an element whose page has no translation makes a record of that page;
`m15` names what the reissue performs, and the entry stays, beside which the thread goes on. -/
def Sys2Proof.Claims.VectorPageFaults : Prop :=
  ∀ (o : OpVm) (s : State) (k code : Nat) (l : Nat → Loc),
    let ea := unitEa s (s.x o.a)
    let below (j : Nat) : Bool := on s o.m j && decide (j < k)
    (∀ j, on s o.m j = true → j ≤ k ∧ (ea j).toNat < 2 ^ 52 ∧ (ea j).toNat % (ew s / 8) = 0) → on s o.m k = true →
    k < 2 ^ 32 → s.kden = false → code ≠ 6 →
    let rec' : FaultRec := ⟨s.dev.nextRid, none, s.cur.u.tid, s.cur.pc.setWidth 64, s.cur.u.vcommit.toNat % 2 ^ 32, s.cur.id, s.place,
      s.cur.id.toNat, 2, [], k, false, s.cur.sys.asid, 0, 0, 0⟩
    let Waits (i : Instr) (acc : Acc) : Prop := ∃ t e, Gives i s t ∧ t.cur.thr.wait = s.cur.thr.wait ∧ t.cur.viq = [e] ∧
      e.reissue = true ∧ e.rid = some s.dev.nextRid ∧ t.cur.u.vcommit = s.cur.u.vcommit ∧ (∀ j, bit t 15 j = decide (j = k)) ∧
      ∃ r ∈ t.dev.recs, { r with slot := none, pages := [] } = rec' ∧ r.pages = [⟨(ea k).toNat / 2 ^ 16, code, acc.code⟩]
    (Works s .ld o.c [o.a] → Aligned s (ew s) o.d → GovFree s o.m → Elements s .read below ea l →
      translate s (ea k).toNat .read = (.fault code, s) → Waits (.vld o) .read) ∧
    (Works s .st o.c [o.a] → Data' s o.d o.m → s.dev.replay = none → Elements s .write below ea l →
      translate s (ea k).toNat .write = (.fault code, s) → Waits (.vst o) .write)

/-! ## Configuration and compact vector ops -/

namespace Sys2Proof.Claims

open Sys2Proof.Machine

/-- Extension banks of a register length (R201). -/
def banksFor (l : Nat) : Nat := (48 * l - 98304 + 65535) / 65536

/-- Cache banks of the core (R200). -/
def cacheBank (s : State) (b : Nat) : Bool := decide (b < 40) && s.core.banks.getD b 0 == 0

/-- Banks that the context may hold: its own and every cache bank but one (R201). -/
def bankRoom (s : State) : Nat := s.cur.ext.length + ((List.range 40).countP (cacheBank s) - 1)

/-- l is the length that R102 grants for a request above the length in force. -/
def Granted (s : State) (old want l : Nat) : Prop :=
  (l = old ∨ ∃ k, k < 5 ∧ l = 2048 * 2 ^ k ∧ banksFor l ≤ bankRoom s) ∧ old ≤ l ∧ l ≤ want ∧
  ∀ k, k < 5 → old ≤ 2048 * 2 ^ k → 2048 * 2 ^ k ≤ want → banksFor (2048 * 2 ^ k) ≤ bankRoom s → 2048 * 2 ^ k ≤ l

/-- `vlmax` of a request at length l (R101). -/
def maxLength (req : Word) (l : Nat) : Nat := l * 2 ^ ((req >>> 2) &&& 3).toNat / 2 ^ (req &&& 3).toNat

/-- `s` configured for a request at length l (R101). -/
def configured (s : State) (req : Word) (l avl : Nat) : State :=
  { s with cur := { s.cur with
    convoy := none
    u := { s.cur.u with
      vtype := (req &&& 0xFF) ||| (BitVec.ofNat 64 (Nat.log2 (l / 1024)) <<< 8)
      rlen := BitVec.ofNat 64 l
      vlmax := BitVec.ofNat 64 (maxLength req l)
      vl := BitVec.ofNat 64 (min avl (maxLength req l)) } } }

/-- `s` with vectors and masks at their start values and clean, and other banks (R102, R201); `cache` is what is left in the caches when the
banks that the context takes are written back. -/
def filesCleared (s : State) (banks ext : List Nat) (cache : Caches) : State :=
  { s with
    cache := cache
    core := { s.core with banks := banks }
    cur := { s.cur with
      ext := ext
      v := Vector.replicate 32 VReg.start
      m := Vector.replicate 16 0
      u := { s.cur.u with vdirty := 0, xdirty := s.cur.u.xdirty &&& ~~~0xFFFF#64 }
      poison := { s.cur.poison with v := 0, m := 0 } } }

/-- The effect of R101 and R102 for a legal request. -/
def Configures (i : Instr) (s : State) (d : BitVec 5) (avl : Nat) (req : Word) : Prop :=
  let old := s.cur.u.rlen.toNat
  let n := ((req >>> 8) &&& 7).toNat
  let want := if n = 0 then old else 1024 * 2 ^ n
  let done (t : State) (l : Nat) := ((configured t req l avl).writeX d (BitVec.ofNat 64 (min avl (maxLength req l)))).retire 4
  ∀ l, (if want ≤ old then l = want else Granted s old want l) →
    (l = old → Gives i s (done s l)) ∧
    (l ≠ old → s.cur.viq ≠ [] → Gives i s s) ∧
    (l ≠ old → s.cur.viq = [] → (want ≤ old → banksFor l ≤ s.cur.ext.length) →
      ∃ (more : List Nat) (cache : Caches), more.length = banksFor l - s.cur.ext.length ∧ (∀ b ∈ more, cacheBank s b = true) ∧
        (∀ b, cacheBank s b = true → b ∉ more → ∀ c ∈ more, b < c) ∧
        let less := s.cur.ext.drop (banksFor l)
        let banks := s.core.banks.mapIdx fun b r => if b ∈ more then 3 else if b ∈ less then 0 else r
        Gives i s (done (filesCleared s banks (s.cur.ext.take (banksFor l) ++ more) cache) l))

/-- The format that `fm0` gives: every field 0 (R13, R64). -/
def plainFormat : FmtReg := ⟨0, 0, 0, 0, 0, 0, .rne, false, 0⟩

end Sys2Proof.Claims

/-- R100–R103: `VCFG` and `VCFGR`. That a shorter length gives back the extension banks taken last is the model's choice: R201 does not say which (log
entry 37). -/
def Obligations.Configuration : Prop :=
  (∀ (o : OpVc) (s : State), Unpoisoned s [o.a] → o.t.toNat < 0x600 →
    Configures (.vcfg o) s o.d (s.x o.a).toNat (o.t.setWidth 64)) ∧
  (∀ (o : OpR) (s : State), Unpoisoned s [o.a, o.b] →
    ((s.x o.b).toNat < 0x600 → Configures (.vcfgr o) s o.d (s.x o.a).toNat (s.x o.b)) ∧
    (0x600 ≤ (s.x o.b).toNat → Gives (.vcfgr o) s (s.trap 0x02
      (((0x100 : BitVec 9) ++ o.b ++ o.a ++ o.d ++ (12 : BitVec 5) ++ (0 : BitVec 1) ++ (1 : BitVec 2)).setWidth 64))))

/-- R39, R41: a compact vector op has the effect of its standard instruction on the last vector destination, unmasked and with `fm0`, in
2 bytes. -/
def Obligations.CompactVectors : Prop :=
  (∀ (o : OpC) (s : State), Works s .alu false [] → let a : BitVec 5 := (s.cur.u.lastd >>> 8).setWidth 5
    let t := s.vtag a
    Source s (ew s) o.b → s.vtag o.b = t →
    (Operand s numbers o.d a 15 → ∀ p ∈ [((.cVadd o : Instr), onNumbers (fun a b => a + b) (Exact.add .rne)),
        (.cVsub o, onNumbers (fun a b => a - b) fun a b => Exact.add .rne a b.neg),
        (.cVmin o, onNumbers min (chosen false)), (.cVmax o, onNumbers max (chosen true))],
      VecDone p.1 s 2 .alu false o.d (ew s) t (on s 15) fun i => p.2 s true t (ew s) (el s (ew s) a i) (el s (ew s) o.b i)) ∧
    (Operand s notRow o.d a 15 → ∀ p ∈ [((.cVand o : Instr), onBits fun _ a b => a &&& b), (.cVor o, onBits fun _ a b => a ||| b),
        (.cVxor o, onBits fun _ a b => a ^^^ b)],
      VecDone p.1 s 2 .alu false o.d (ew s) t (on s 15) fun i => p.2 s true t (ew s) (el s (ew s) a i) (el s (ew s) o.b i))) ∧
  (∀ (o : OpC) (s : State), Works s .alu false [] → let a : BitVec 5 := (s.cur.u.lastd >>> 8).setWidth 5
    Operand s (fun _ => true) o.d a 15 →
    VecDone (.cVmv o) s 2 .alu false o.d (ew s) (s.vtag a) (on s 15) fun i => (el s (ew s) a i, 0)) ∧
  (∀ (o : OpC) (s : State) (tb d : Tag), Works s .fma false [] → let a : BitVec 5 := (s.cur.u.lastd >>> 8).setWidth 5
    let p : OpVf := ⟨false, o.d, a, o.b, 0, 15⟩
    ∀ r ∈ fusedRows.take 1 ++ fusedRows.drop 3, Fused r s p plainFormat (s.vtag a) tb d → FusedReg s p plainFormat tb d →
      VecDone (if r.addend then .cVfma o else .cVmul o) s 2 .fma false o.d (numWidth d) d (on s 15) fun i =>
        r.element s plainFormat (s.vtag a) tb d (el s (tagWidth (s.vtag a)) a i) (el s (tagWidth tb) o.b i)
          (el s (numWidth d) o.d i))

/-! ## Copies, prefetch, banks and pages -/

namespace Sys2Proof.Claims

open Sys2Proof.Machine

/-- An ASYNC word with selector n (R254). -/
def asyncWord (o : OpR) (n : BitVec 5) : Word :=
  ((0 : BitVec 4) ++ n ++ o.b ++ o.a ++ o.d ++ (25 : BitVec 5) ++ (0 : BitVec 1) ++ (1 : BitVec 2)).setWidth 64

/-- `s` with tag t at a status, `tdone` and `terr` at bit t set or cleared (R258, R259). -/
def tagged (s : State) (t : BitVec 6) (status : Word) (done bad : Bool) : State :=
  let at' (w : Word) (b : Bool) : Word := if b then w ||| (1#64 <<< t.toNat) else w &&& ~~~(1#64 <<< t.toNat)
  { s with cur := { s.cur with
    tags := vset (n := 6) s.cur.tags t status
    u := { s.cur.u with tdone := at' s.cur.u.tdone done, terr := at' s.cur.u.terr bad } } }

/-- Every address of n bytes from a on translates for reading without a walk. -/
def Readable (s : State) (a n : Nat) : Prop :=
  a + n ≤ 2 ^ 52 ∧ ∀ va, a ≤ va → va < a + n → ∃ l, translate s va .read = (.at l, s)

/-- Lines that n bytes from a on overlap. -/
def lineCount (a n : Nat) : Nat := if n = 0 then 0 else (a + n - 1) / 128 - a / 128 + 1

/-- The physical line at virtual line number k, where it is memory of type 0 (R265). -/
def lineOf (s : State) (k : Nat) : Option Nat :=
  match (translate s (k * 128) .read).1 with
  | .at (.mem pa m) => if m.dev then none else some (pa / 128)
  | _ => none

/-- The lines of type 0 that n bytes from a on overlap, each once. -/
def linesIn (s : State) (a n : Nat) : List Nat :=
  ((List.range (lineCount a n)).filterMap fun k => lineOf s (a / 128 + k)).eraseDups

/-- Some context of the core, or a thread that had one before, has entries queued. -/
def SomeQueued (s : State) : Prop := s.cur.viq ≠ [] ∨ s.oth.viq ≠ [] ∨ ∃ d ∈ s.core.drains, d.viq ≠ []

/-- R356 assigns a new frame to memory, or to a peer that is not this device. -/
def FrameThere (s : State) (frame : Nat) : Prop :=
  match regionOf frame with
  | .hbm _ | .far => True
  | .peer p => s.dev.ualId ≠ some p
  | _ => False

end Sys2Proof.Claims

/-- R260: the waits on tags and their status. -/
def Sys2Proof.Claims.CopyTags : Prop :=
  ∀ (o : OpR) (s : State), Unpoisoned s [o.a] →
    let k := s.x o.a
    let tdone := s.cur.u.tdone
    let terr := s.cur.u.terr
    (k = 0 ∨ tdone &&& k ≠ 0 → WritesX (.twany o) s o.d (tdone &&& k) 4) ∧
    (k ≠ 0 → tdone &&& k = 0 → Gives (.twany o) s (s.setWait .event)) ∧
    (tdone &&& k = k → WritesX (.twall o) s o.d (terr &&& k) 4) ∧ (tdone &&& k ≠ k → Gives (.twall o) s (s.setWait .event)) ∧
    (∀ t, t < 64 → k.getLsbD t = true → tdone.getLsbD t = true →
      (∀ j, j < t → k.getLsbD j = false ∨ tdone.getLsbD j = false) → WritesX (.tfirst o) s o.d (BitVec.ofNat 64 t) 4) ∧
    (k &&& tdone = 0 → WritesX (.tfirst o) s o.d allOnes 4) ∧
    Gives (.tclr o) s ((({ s with cur := { s.cur with u := { s.cur.u with terr := terr &&& ~~~k } } } : State).writeX o.d terr).retire 4) ∧
    WritesX (.tstat o) s o.d (vget (n := 6) s.cur.tags (k.setWidth 6)) 4

/-- R255, R256: the issue of a copy; a bad block or tag raises the stream-descriptor fault, an outstanding tag stalls. -/
def Sys2Proof.Claims.CopyIssue : Prop :=
  ∀ (o : OpR) (s s1 : State) (bs : List Byte), Unpoisoned s [o.a, o.b] → ∀ q ∈ [((.cpy o : Instr), false), (.cpyred o, true)],
    let ea := s.x o.a
    let t := s.x o.b
    (ea.toNat % 128 ≠ 0 → Gives q.1 s (s.trap 0x06 ea)) ∧
    (ea.toNat % 128 = 0 → 2 ^ 52 ≤ ea.toNat → Gives q.1 s (s.trap 0x05 ea)) ∧
    (ea.toNat < 2 ^ 52 → ea.toNat % 128 = 0 → readDwords s ea 32 = .ok bs s1 →
      (blockOk q.2 (!s.user) bs = false ∨ 64 ≤ t.toNat → Gives q.1 s (s1.trap 0x0F ea)) ∧
      (blockOk q.2 (!s.user) bs = true → t.toNat < 64 →
        (s.cur.u.tdone.getLsbD t.toNat = false → Gives q.1 s s) ∧
        ((∀ k, k < 64 → ∃ c ∈ s1.core.copies, c.slot = k) → Gives q.1 s s) ∧
        (s.cur.u.tdone.getLsbD t.toNat = true → s1.core.copies.length < 64 → ∃ (c : CopyJob) (cache : Caches),
          Gives q.1 s (let u := tagged s1 (t.setWidth 6) (1 <<< 60) false false
            ({ u with core := { u.core with copies := u.core.copies ++ [c] }, cache := cache } : State).retire 4) ∧
          (∀ k ∈ s1.core.copies, k.slot ≠ c.slot) ∧ c.slot < 64 ∧ c.tag = t.toNat ∧ c.block = bs ∧ c.red = q.2 ∧ c.cur = 0 ∧
          c.tid = s.cur.u.tid ∧ c.ctx = s.cur.id ∧ c.drained = false ∧ c.phys = !s.user ∧ c.asid = s.cur.sys.asid.toNat ∧ c.ptbase = s.cur.sys.ptbase.toNat)))

/-- R219, R221: `PFS` takes the lowest free slot of 16, or answers all ones; `PFSTOP` answers whether it stopped one. -/
def Sys2Proof.Claims.StreamPrefetch : Prop :=
  ∀ (o : OpR) (s : State),
    (Unpoisoned s [o.a, o.b] →
      ((s.x o.a).toNat % 128 ≠ 0 → Gives (.pfs o) s (s.trap 0x06 (s.x o.a))) ∧
      ((s.x o.a).toNat % 128 = 0 → 2 ^ 52 ≤ (s.x o.a).toNat → Gives (.pfs o) s (s.trap 0x05 (s.x o.a)))) ∧
    (∀ (s1 : State) (bs : List Byte), Unpoisoned s [o.a, o.b] → (s.x o.a).toNat < 2 ^ 52 → (s.x o.a).toNat % 128 = 0 →
      readDwords s (s.x o.a) 16 = .ok bs s1 →
      let d := Stream.ofBytes bs 0
      let good := ctlNdim d.ctl ≠ 0 ∧ ctlComp d.ctl = false ∧ ctlRed d.ctl = 0 ∧ d.ctl &&& 0xFF000088 = 0 ∧ d.dirty = false ∧
        (s.x o.b).toNat < 2 ^ 13
      (¬ good → Gives (.pfs o) s (s1.trap 0x0F (s.x o.a))) ∧
      (good → (∀ k, k < 16 → ∃ p ∈ s1.core.slots, p.slot = k) → Gives (.pfs o) s ((s1.writeX o.d allOnes).retire 4)) ∧
      (∀ k, good → k < 16 → (∀ p ∈ s1.core.slots, p.slot ≠ k) → (∀ j, j < k → ∃ p ∈ s1.core.slots, p.slot = j) →
        ∃ p : PfSlot, Gives (.pfs o) s ((({ s1 with core := { s1.core with slots := s1.core.slots ++ [p] } } : State).writeX o.d
            (BitVec.ofNat 64 k)).retire 4) ∧
          p.slot = k ∧ p.addr = s.x o.a ∧ p.desc = bs ∧ p.cons = 0 ∧ p.pos = 0 ∧ p.arrived = 0 ∧ p.flight = [] ∧
          p.tid = s.cur.u.tid ∧ p.ctx = s.cur.id ∧ p.drained = false ∧ p.ending = none ∧
          p.lead = if s.x o.b = 0 then 4096 else (s.x o.b).toNat)) ∧
    (Unpoisoned s [o.a] →
      let mine (p : PfSlot) : Prop := p.ctx = s.cur.id ∧ p.drained = false ∧ (s.x o.a = allOnes ∨ s.x o.a = BitVec.ofNat 64 p.slot)
      ((∀ p ∈ s.core.slots, mine p → p.ending.isSome) → WritesX (.pfstop o) s o.d 0 4) ∧
      ((∃ p ∈ s.core.slots, mine p ∧ p.ending = none) →
        ∃ u : State, Gives (.pfstop o) s ((u.writeX o.d 1).retire 4) ∧ ∀ p ∈ u.core.slots, mine p → p.ending.isSome))

/-- R203: `BANKSET`. -/
def Sys2Proof.Claims.BankRoles : Prop :=
  ∀ (o : OpR) (s : State), Unpoisoned s [o.a, o.b] →
    let sel := s.x o.a
    let role := (s.x o.b).toNat
    let sel' (b : Nat) : Bool := decide (b < 40) && sel.getLsbD b
    let banks := s.core.banks.mapIdx fun b r => if sel' b then role else r
    let bad := 2 ^ 40 ≤ sel.toNat ∨ 2 < role ∨ (∃ b, sel' b = true ∧ s.core.banks.getD b 0 = 3) ∨ ∀ b, b < 40 → banks.getD b 0 ≠ 0
    (bad → Gives (.bankset o) s (s.trap 0x0E sel)) ∧
    (¬ bad → SomeQueued s ∨ s.copyToSpad = true → Gives (.bankset o) s s) ∧
    (¬ bad → ¬ SomeQueued s → s.copyToSpad = false → ∃ sp spBad cache w,
      Gives (.bankset o) s ((({ s with
        core := { s.core with banks := banks, spad := sp, spadBad := spBad }, cache := cache } : State).writeX o.d w).retire 4) ∧
      (∀ a, sp.read a = if sel' (a / 65536) = true ∧ s.core.banks.getD (a / 65536) 0 ≠ role then 0 else s.core.spad.read a) ∧
      (∀ l, l ∈ spBad ↔ l ∈ s.core.spadBad ∧ ¬ (sel' (l / 512) = true ∧ s.core.banks.getD (l / 512) 0 ≠ role)) ∧
      ∀ b, b < 64 → w.getLsbD b = (decide (b < 40) && banks.getD b 0 == 1))

/-- R265, R254: `CFLUSH` takes the lines of memory type 0 in its range out of the caches of the core, counts those that were there, and changes no
value. `CINVAL` is system-only; it takes them out of every cache of the die, and a dirty line is again what memory holds of it. A line counts once
(log entry 41). -/
def Sys2Proof.Claims.LineFlushes : Prop :=
  ∀ (o : OpR) (s : State),
    let a := (s.x o.a).toNat
    let n := (s.x o.b).toNat
    let lines := linesIn s a n
    (Unpoisoned s [o.a, o.b] → Readable s a n → ∃ cache : Caches,
      Gives (.cflush o) s ((({ s with cache := cache } : State).writeX o.d (BitVec.ofNat 64 (lines.countP s.cache.inCore))).retire 4) ∧
      ∀ l ∈ lines, cache.inCore l = false) ∧
    (s.user = true → Gives (.cinval o) s (s.trap 0x02 (asyncWord o 11))) ∧
    (Unpoisoned s [o.a, o.b] → s.user = false → Readable s a n → (∀ r ∈ s.cache.below, r.bytes.length = 128) →
      ∃ (m : Memory) (bad : List Nat) (cache : Caches),
        Gives (.cinval o) s ((({ s with mem := m, bad := bad, cache := cache } : State).writeX o.d
          (BitVec.ofNat 64 (lines.countP s.cache.onDie))).retire 4) ∧
        (∀ l ∈ lines, cache.onDie l = false) ∧
        let left (l : Nat) : Option BelowLine :=
          if l ∈ lines ∧ s.cache.onDie l = true then s.cache.below.find? fun r => r.line == l else none
        (∀ b, m.read b = match left (b / 128) with
          | some r => r.bytes.getD (b % 128) 0
          | none => s.mem.read b) ∧
        ∀ l, bad.contains l = match left l with
          | some r => r.bad
          | none => s.bad.contains l)

/-- R316, R254: `PGMIG` starts the move of a page, or ends the tag with STATE 3 and CODE 2 where the walk faults, the leaf is no page of memory
type 0 at rest, or no memory is at the new frame (R356). It stalls while its tag is outstanding. -/
def Obligations.PageMigration : Prop :=
  ∀ (o : OpR) (s s1 : State) (bs : List Byte),
    (s.user = true → Gives (.pgmig o) s (s.trap 0x02 (asyncWord o 12))) ∧
    (s.user = false → Unpoisoned s [o.a, o.b] → (s.x o.a).toNat < 2 ^ 52 → (s.x o.a).toNat % 32 = 0 →
      readDwords s (s.x o.a) 4 = .ok bs s1 → (s.x o.b).toNat < 64 → s.cur.u.tdone.getLsbD (s.x o.b).toNat = false →
      Gives (.pgmig o) s s) ∧
    (s.user = false → Unpoisoned s [o.a, o.b] → (s.x o.a).toNat < 2 ^ 52 → (s.x o.a).toNat % 32 = 0 →
      readDwords s (s.x o.a) 4 = .ok bs s1 → (s.x o.b).toNat < 64 → s.cur.u.tdone.getLsbD (s.x o.b).toNat = true →
      let word' (k : Nat) := Memory.leVal ((bs.drop (8 * k)).take 8)
      let page := word' 0 % 2 ^ 52 / 2 ^ 16
      let frame := word' 2 % 2 ^ 52 / 2 ^ 16 * 2 ^ 16
      let t := (s.x o.b).setWidth 6
      (∀ c, walk s1 (word' 1) (page * 2 ^ 16) = .error c →
        Gives (.pgmig o) s ((tagged s1 t ((3 <<< 60) ||| (2 <<< 56)) true true).retire 4)) ∧
      (∀ a e lvl, walk s1 (word' 1) (page * 2 ^ 16) = .ok (a, e, lvl) →
        lvl ≠ 3 ∨ e.extractLsb' 10 2 ≠ 0 ∨ e.getLsbD 7 = true ∨ ¬ FrameThere s1 frame →
        Gives (.pgmig o) s ((tagged s1 t ((3 <<< 60) ||| (2 <<< 56)) true true).retire 4)) ∧
      (∀ a e, walk s1 (word' 1) (page * 2 ^ 16) = .ok (a, e, 3) → e.extractLsb' 10 2 = 0 → e.getLsbD 7 = false → FrameThere s1 frame →
        16 ≤ s1.dev.mig.length → Gives (.pgmig o) s s) ∧
      (∀ a e, walk s1 (word' 1) (page * 2 ^ 16) = .ok (a, e, 3) → e.extractLsb' 10 2 = 0 → e.getLsbD 7 = false → FrameThere s1 frame →
        s1.dev.mig.length < 16 → ∃ u : State,
          Gives (.pgmig o) s ((tagged u t (1 <<< 60) false false).retire 4) ∧ Stored s1 u a 8 (e ||| 0x80).toNat ∧
          u.cur = s1.cur ∧ u.dev = { s1.dev with mig := s1.dev.mig ++ [⟨page, word' 3 % 2 ^ 16, a, (e.extractLsb' 16 36).toNat * 2 ^ 16,
            frame, 0, s.cur.u.tid, (s.x o.b).toNat⟩] } ∧
          (∀ k ∈ u.core.tlb1 ++ u.core.tlb2, k.hits (word' 3 % 2 ^ 16) (page * 2 ^ 16) = false) ∧
          ∀ m ∈ u.core.mates, ∀ k ∈ m.tlb1 ++ m.tlb2, k.hits (word' 3 % 2 ^ 16) (page * 2 ^ 16) = false))

/-! ## Keyed store, lane tables, top-k -/

namespace Sys2Proof.Claims

open Sys2Proof.Machine

/-- A whole-vector instruction (R141) completes with a mask destination, beside the changes of `s1`: `vstart` counts as 0. -/
def WholeMask (s1 : State) (i : Instr) (s : State) (cls : Cls) (c : Bool) (d : BitVec 5) (act : Nat → Bool) (fl : Word)
    (f : Nat → Bool) : Prop :=
  ∃ u, Gives i s (u.retire 4) ∧ MaskWritten (completed s1 cls c none none fl) u (d.setWidth 4) (8 * rlen s) (wrote (fromZero s) act) ∧
    ∀ i, bit u (d.setWidth 4) i =
      (if i < vl s then (if act i then f i else if mp s then false else bit s (d.setWidth 4) i)
       else if tp s then false else bit s (d.setWidth 4) i)

/-- A whole-vector instruction completes with a vector destination, beside the changes of `s1`. -/
def WholeOn (s1 : State) (i : Instr) (s : State) (cls : Cls) (c : Bool) (d : BitVec 5) (w : Nat) (t : Tag) (act : Nat → Bool)
    (fl : Word) (f : Nat → Nat) : Prop :=
  ∃ u, Gives i s (u.retire 4) ∧ SpanWritten (completed s1 cls c (some d) none fl) u (rlen s) d (span s w) t w (wrote (fromZero s) act) ∧
    ElementsAre (fromZero s) u w d act f

/-- An instruction that leaves `s1` beside what every vector instruction leaves. -/
abbrev UnitDone (i : Instr) (s1 : State) (s : State) (len : Nat) (cls : Cls) (c : Bool) (vd xd : Option (BitVec 5)) (fl : Word) : Prop :=
  Gives i s ((completed s1 cls c vd xd fl).retire len)

/-- The entry that a push makes traps with no element effect (R308): it stays at the VIQ head, and `vstart` is captured in it. `s1` is
the state with whatever else has happened. -/
def EntryTraps (s1 : State) (i : Instr) (s : State) (len : Nat) (cls : Cls) (c : Bool) (vd xd : Option (BitVec 5)) (code : BitVec 8)
    (tval : Word) : Prop :=
  ∃ e : Entry, e.addr = s.cur.pc ∧ e.seq = s.cur.u.vcommit.toNat ∧ e.vstart = vstart s ∧ e.vl = vl s ∧ e.reissue = false ∧
    let p : State := { s1 with
      cur := { s1.cur with viq := [e], convoy := some (nextConvoy s.cur.convoy c cls), u := { s1.cur.u with vstart := 0 } }
      core := { s1.core with held := if c || s.cur.convoy.isNone then s.quadsMoved else s1.core.held } }
    let q := match vd with
      | some d => p.setVlast d
      | none => p
    let r := match xd with
      | some d => q.setXlast d
      | none => q
    Gives i s ((r.retirePush e len).takeTrap false (some (e.seq, e.addr)) code tval)

/-- The current context may claim a unit: no thread that has given its context to another lot still uses it, and no poison stands in what the
context's area holds of it (R236, R321; log entries 17 and 42). -/
structure Claimable (s : State) (u : UnitId) : Prop where
  free : s.unitDrains u = false
  sound : s.claimBad u = false

/-- The set of a key (R240). -/
def setNumber (k : Nat) : Nat :=
  (k ^^^ (k / 2 ^ 11) ^^^ (k / 2 ^ 22) ^^^ (k / 2 ^ 33) ^^^ (k / 2 ^ 44) ^^^ (k / 2 ^ 55)) % 2 ^ 11

/-- The valid entry that holds a key. -/
def holder (l : List KeyEnt) (k : Nat) : Option KeyEnt := l.find? fun e => e.slot / 8 == setNumber k && e.key == k

/-- One element of R242: the store, whether it failed, the flags. -/
def keyStep (acc : Nat → Nat → Nat × Word) (l : List KeyEnt) (k v : Nat) : List KeyEnt × Bool × Word :=
  match holder l k with
  | some x => (l.map fun e => if e.slot = x.slot then { e with val := (acc x.val v).1 } else e, false, (acc x.val v).2)
  | none =>
    match (List.range 8).find? fun w => l.all fun e => e.slot != 8 * setNumber k + w with
    | some w =>
      let n := 8 * setNumber k + w
      ((l.filter fun e => decide (e.slot < n)) ++ ⟨n, k, v⟩ :: l.filter fun e => decide (n < e.slot), false, 0)
    | none => (l, true, 0)

/-- The elements in ascending order: the store, the elements that failed, the flags. -/
def keySteps (acc : Nat → Nat → Nat × Word) (key val : Nat → Nat) : List Nat → List KeyEnt → List KeyEnt × List Nat × Word
  | [], l => (l, [], 0)
  | i :: is, l =>
    let x := keyStep acc l (key i) (val i)
    let y := keySteps acc key val is x.1
    (y.1, if x.2.1 then i :: y.2.1 else y.2.1, x.2.2 ||| y.2.2)

/-- Entries stand by rising slot (R240). -/
abbrev BySlot (l : List KeyEnt) : Prop := l.Pairwise fun a b => a.slot < b.slot

/-- Key operands (R241), and no poison in the sets that active elements name (R321). -/
structure Keys (s s' : State) (a : BitVec 5) (mk : BitVec 4) : Prop where
  wide : ew s = 32 ∨ ew s = 64
  data : Data s a mk
  kind : (tagKind (s.vtag a)).isIX = true
  sound : ∀ i ∈ actives s mk, ∀ n ∈ s'.core.keyedBad, n / 8 ≠ setNumber (el s (ew s) a i)

/-- `s` with another keyed store; a changed one is dirty (R9). -/
def withKeyed (s : State) (l : List KeyEnt) (touched : Bool) : State :=
  let t : State := { s with core := { s.core with keyed := l } }
  if touched then { t with cur := { t.cur with u := { t.cur.u with xdirty := t.cur.u.xdirty ||| (1#64 <<< 20) } } } else t

/-- The place of an active element among the active ones. -/
def rank (s : State) (mk : BitVec 4) (i : Nat) : Nat := (actives s mk).countP fun j => decide (j < i)

/-- Results for the first n active elements, in two registers (R244, R251): d gets f, b gets g; the governing mask is written and loses the other
active elements. -/
def TrimDone (i : Instr) (s1 s : State) (cls : Cls) (c : Bool) (d b : BitVec 5) (mk : BitVec 4) (n : Nat) (td tb : Tag)
    (f g : Nat → Nat) : Prop :=
  let z := fromZero s
  let got (i : Nat) : Bool := on z mk i && decide (rank z mk i < n)
  ∃ m u v, (∀ i, m.testBit i = (bit s mk i && (!on z mk i || decide (rank z mk i < n)))) ∧
    Gives i s (v.retire 4) ∧
    SpanWritten (completed (s1.putMask mk m) cls c (some d) none 0) u (rlen s) d (span s (ew s)) td (ew s) (wrote z got) ∧
    SpanWritten u v (rlen s) b (span s (ew s)) tb (ew s) (wrote z got) ∧ ElementsAre z v (ew s) d got (fun i => f (rank z mk i)) ∧
    ElementsAre z v (ew s) b got fun i => g (rank z mk i)

/-- The place of entry j for element i in the lane tables (R246). -/
def laneByte (s : State) (i j : Nat) : Nat := i % 64 * 4096 + j * (ew s / 8)
/-- The entry lies in the table. -/
def inLane (s : State) (j : Nat) : Bool := decide (j * (ew s / 8) + ew s / 8 ≤ 4096)

/-- An index vector of `LTLD` and `LTST`. -/
structure LaneIndex (s : State) (a : BitVec 5) (mk : BitVec 4) : Prop where
  tag : tagOk (s.vtag a) = true
  kind : (tagKind (s.vtag a)).isIX = true
  width : 16 ≤ tagWidth (s.vtag a)
  source : Source s (tagWidth (s.vtag a)) a
  gov : GovFree s mk

/-- A byte that va reads without a walk, in memory or in the scratchpad, without poison. -/
def ReadsByte (s : State) (va : Nat) (b : Byte) : Prop :=
  va < 2 ^ 52 ∧ ∃ l, translate s va .read = (.at l, s) ∧
    ((∃ pa m, l = .mem pa m ∧ s.badLine pa 1 = none ∧ b = s.mem.read pa) ∨
      ∃ k, l = .spad k ∧ badIn s.core.spadBad k 1 = none ∧ b = s.core.spad.read k)

/-- The bytes from va on; each 64 KiB page of them comes from a TLB. -/
def HoldsBytes (s : State) (va : Nat) (bs : List Byte) : Prop := ∀ k b, bs[k]? = some b → ReadsByte s (va + k) b

/-- FP32 encodings in the order of their numbers, −0 below +0. -/
def order32 (b : Nat) : Int := if b < 2 ^ 31 then b else -((b : Int) - 2 ^ 31) - 1

/-- x ranks above y (R69, R248). -/
def outranks (x y : Nat × Nat) : Bool := decide (order32 y.1 < order32 x.1) || (x.1 == y.1 && decide (x.2 < y.2))

/-- A candidate in its rank, after those that do not rank below it. -/
def ranked (x : Nat × Nat) (l : List (Nat × Nat)) : List (Nat × Nat) :=
  l.takeWhile (fun y => !outranks x y) ++ x :: l.dropWhile fun y => !outranks x y

/-- Candidates presented in turn to a unit of size k; NaN is not presented (R248, R250). -/
def presented (k : Nat) (l cs : List (Nat × Nat)) : List (Nat × Nat) :=
  cs.foldl (fun l x => if (decodeFloat fmtFp32 x.1).isNan then l else (ranked x l).take k) l

/-- `s` with another top-k unit. -/
def withTop (s : State) (t : TopK) : State := { s with core := { s.core with topk := t } }

/-- A score operand (R250). -/
structure Score (s : State) (a : BitVec 5) (mk : BitVec 4) : Prop where
  tag : tagOk (s.vtag a) = true
  kind : (tagKind (s.vtag a)).isFloat = true
  small : tagWidth (s.vtag a) ≤ 32
  width : tagWidth (s.vtag a) = ew s
  source : Source s (ew s) a
  gov : GovFree s mk

end Sys2Proof.Claims

/-- R236: a unit that the context holds stays as it is; one that no context holds starts afresh, or comes from the context's area when
its flag says so. An instruction waits for a unit that a thread which had a context before still uses (log entry 42), and takes the poison trap where
poison stands in what it would load (log entry 17): both are the model's choice. -/
def Sys2Proof.Claims.UnitClaims : Prop :=
  ∀ (s : State) (u : UnitId),
    (s.core.heldBy u = some s.cur.id → s.claim u = s) ∧
    (s.core.heldBy u = none → s.unitFlag s.cur u = false →
      s.claim u = { s with core := (s.core.startUnit u).setHeld (some s.cur.id) u }) ∧
    ((s.claim u).core.heldBy u = some s.cur.id) ∧
    (∀ w, w ≠ u → (s.claim u).core.heldBy w = s.core.heldBy w) ∧
    (s.claim u).cur.x = s.cur.x ∧ (s.claim u).cur.v = s.cur.v ∧ (s.claim u).cur.m = s.cur.m ∧ (s.claim u).cur.u = s.cur.u ∧
    ∀ o : OpVa, Ready s .ld o.c [] →
      (s.unitDrains .keyed = true → Gives (.kscnt o) s s) ∧
      (s.unitDrains .keyed = false → s.claimBad .keyed = true → Gives (.kscnt o) s (s.trap 0x0D 0))

/-- R240–R245: the keyed store. -/
def Sys2Proof.Claims.KeyedStore : Prop :=
  ∀ (o : OpVa) (s : State), Claimable s .keyed →
    let s' := s.claim .keyed
    let act := on (fromZero s) o.m
    let is := actives (fromZero s) o.m
    let key := el s (ew s) o.a
    let l := s'.core.keyed
    (Works s .ld o.c [] → Keys s s' o.a o.m → BySlot l → Data s o.b o.m →
      let add (x y : Nat) :=
        if (tagKind (s.vtag o.b)).isFloat then rounded s (s.vtag o.b) (Exact.add .rne (numOf false s (s.vtag o.b) (x % 2 ^ ew s)) (num s (s.vtag o.b) y))
        else (cut (ew s) (ival (s.vtag o.b) (x % 2 ^ ew s) + ival (s.vtag o.b) y), 0)
      ∀ q ∈ [((.ksins o : Instr), fun _ v => (v, (0 : Word))), (.ksacc o, add)],
        let r := keySteps q.2 key (el s (ew s) o.b) is l
        WholeMask (withKeyed s' r.1 (!is.isEmpty)) q.1 s .ld o.c o.d act r.2.2 fun i => decide (i ∈ r.2.1)) ∧
    (Works s .ld o.c [] → Keys s s' o.a o.m → Aligned s (ew s) o.d → DestBeside s (ew s) o.d (ew s) o.a →
      ∃ u v, Gives (.kslkp o) s (v.retire 4) ∧
        SpanWritten (completed s' .ld o.c (some o.d) none 0) u (rlen s) o.d (span s (ew s)) (loadedTag s o.d)
          (ew s) (wrote (fromZero s) act) ∧
        MaskWritten u v (mask o.b) (8 * rlen s) (wrote (fromZero s) act) ∧
        ElementsAre (fromZero s) v (ew s) o.d act (fun i => ((holder l (key i)).map (·.val)).getD 0) ∧
        ∀ i, bit v (mask o.b) i =
          (if i < vl s then (if act i then (holder l (key i)).isSome else if mp s then false else bit s (mask o.b) i)
           else if tp s then false else bit s (mask o.b) i)) ∧
    (Works s .ld o.c [] → o.m ≠ 15 → GovFree s o.m → ew s = 32 ∨ ew s = 64 → Aligned s (ew s) o.d → Aligned s (ew s) o.b →
      Apart s (ew s) o.d (ew s) o.b → (∀ e ∈ l.take is.length, e.slot ∉ s'.core.keyedBad) →
      TrimDone (.ksdrain o) (withKeyed s' (l.drop is.length) (!is.isEmpty && !l.isEmpty)) s .ld o.c o.d o.b o.m l.length
        (loadedTag s o.d) (loadedTag s o.b) (fun k => (l[k]?.map (·.key)).getD 0) fun k => (l[k]?.map (·.val)).getD 0) ∧
    (Ready s .ld o.c [] →
      UnitDone (.ksclr o) (let t := withKeyed s' [] true; { t with core := { t.core with keyedBad := [] } }) s 4 .ld o.c none none 0 ∧
      Gives (.kscnt o) s (((completed s' .ld o.c none (some o.d) 0).putX o.d (BitVec.ofNat 64 l.length)).retire 4))

/-- R246, R247: the lane tables. `LTFILL` copies bytes from the captured `vstart` on, whatever `vl` is. -/
def Sys2Proof.Claims.LaneTables : Prop :=
  ∀ (o : OpVa) (s : State), Claimable s .lanes →
    let s' := s.claim .lanes
    let act := on (fromZero s) o.m
    let is := actives (fromZero s) o.m
    let idx := el s (tagWidth (s.vtag o.a)) o.a
    let n := ew s / 8
    let Filled (t : State) (m : Memory) (bad : Word) (touched : Bool) : State :=
      if touched then { t with
        core := { t.core with lanes := m, lanesBad := bad }
        cur := { t.cur with u := { t.cur.u with xdirty := t.cur.u.xdirty ||| (1#64 <<< 21) } } } else t
    (Works s .ld o.c [] → LaneIndex s o.a o.m →
      (Aligned s (ew s) o.d → DestBeside s (ew s) o.d (tagWidth (s.vtag o.a)) o.a →
        (∀ i ∈ is, s'.core.lanesBad.getLsbD (i % 64) = false) →
        WholeOn s' (.ltld o) s .ld o.c o.d (ew s) (loadedTag s o.d) act
          (if ∀ i ∈ is, inLane s (idx i) = true then 0 else 256)
          fun i => if inLane s (idx i) then s'.core.lanes.readVal (laneByte s i (idx i)) n else 0) ∧
      (Data' s o.d o.m → tagKind (s.vtag o.d) ≠ .row →
        let put := is.filter fun i => inLane s (idx i)
        let m := put.foldl (fun (m : Memory) i => m.write (laneByte s i (idx i)) (leBytes n (el s (ew s) o.d i))) s'.core.lanes
        UnitDone (.ltst o) (Filled s' m s'.core.lanesBad (!put.isEmpty)) s 4 .ld o.c none none
          (if put.length = is.length then 0 else 256))) ∧
    (∀ bs : List Byte, Ready s .ld o.c [o.a, o.b] → s.kden = false →
      let k := min (s.x o.b).toNat 4096
      (s.x o.a).toNat + k ≤ 2 ^ 52 → bs.length = k → HoldsBytes s' (s.x o.a).toNat bs →
      ∃ m slots cache bad, UnitDone (.ltfill o) (Filled (noted s' slots cache) m bad (decide (vstart s < k))) s 4 .ld o.c none none
          (if 4096 < (s.x o.b).toNat then 256 else 0) ∧
        (bad = s'.core.lanesBad ∨ bad = 0 ∧ k = 4096 ∧ vstart s = 0) ∧
        ∀ a, m.read a = if a < 64 * 4096 ∧ vstart s ≤ a % 4096 ∧ a % 4096 < k then bs.getD (a % 4096) 0 else s'.core.lanes.read a)

/-- R248–R251: the top-k unit. -/
def Sys2Proof.Claims.TopKUnit : Prop :=
  ∀ (o : OpVa) (s : State), Claimable s .topk →
    let s' := s.claim .topk
    let t := s'.core.topk
    let act := on (fromZero s) o.m
    let is := actives (fromZero s) o.m
    let a := el s (ew s) o.a
    let fp32 (u : Tag) (x : Nat) := (roundTo fmtFp32 .rne false false (decodeFloat (fmtOf u) x)).1
    let moved (l : List (Nat × Nat)) (by' : Nat) : State := withTop s' ⟨t.k, t.base + BitVec.ofNat 64 by', l⟩
    (Ready s .xl o.c [o.a, o.b] →
      let k := (s.x o.a).toNat
      (1 ≤ k → k ≤ 1024 → UnitDone (.tkinit o) (withTop s' ⟨k, s.x o.b, []⟩) s 4 .xl o.c none none 0) ∧
      (k = 0 ∨ 1024 < k → EntryTraps s' (.tkinit o) s 4 .xl o.c none none 0x14 (s.x o.a))) ∧
    (Ready s .xl o.c [] → vl s ≤ vstart s →
      UnitDone (.tkpush o) (if o.b = 0 then moved t.cands (vl s) else s') s 4 .xl o.c none none 0 ∧
      UnitDone (.tksal o) (moved t.cands (vl s)) s 4 .xl o.c none none 0) ∧
    (Works s .xl o.c [] → Score s o.a o.m →
      (o.b = 0 → UnitDone (.tkpush o) (moved (presented t.k t.cands (is.map fun i =>
          (fp32 (s.vtag o.a) (a i), (t.base + BitVec.ofNat 64 i).toNat))) (vl s)) s 4 .xl o.c none none 0) ∧
      (o.b ≠ 0 → Index s o.b → UnitDone (.tkpush o) (withTop s' ⟨t.k, t.base, presented t.k t.cands (is.map fun i =>
          (fp32 (s.vtag o.a) (a i), el s (tagWidth (s.vtag o.b)) o.b i))⟩) s 4 .xl o.c none none 0) ∧
      (Score s o.b o.m →
        let p (i : Nat) := Exact.mul (num s (s.vtag o.a) (a i)) (num s (s.vtag o.b) (el s (ew s) o.b i))
        let r (i : Nat) := roundTo fmtFp32 .rne false (fres s) (p i).1
        UnitDone (.tksal o) (moved (presented t.k t.cands (is.map fun i =>
            ((r i).1 % 2 ^ 31, (t.base + BitVec.ofNat 64 i).toNat))) (vl s)) s 4 .xl o.c none none
          (flagsOf (fromZero s) act fun i => (p i).2 ||| (r i).2))) ∧
    (Works s .xl o.c [] → o.m ≠ 15 → GovFree s o.m → ew s = 32 ∨ ew s = 64 → Aligned s (ew s) o.d → Aligned s (ew s) o.b →
      Apart s (ew s) o.d (ew s) o.b →
      TrimDone (.tkpop o) (withTop s' ⟨t.k, t.base, t.cands.drop is.length⟩) s .xl o.c o.d o.b o.m t.cands.length
        (if ew s = 64 then tagFp64 else tagFp32) (if ew s = 64 then 0x01D else 0x015)
        (fun k => let x := ((t.cands[k]?).map (·.1)).getD 0
          if ew s = 64 then (roundTo fmtFp64 .rne false false (decodeFloat fmtFp32 x)).1 else x)
        fun k => ((t.cands[k]?).map (·.2)).getD 0)

/-! ## The matrix unit -/

namespace Sys2Proof.Claims

open Sys2Proof.Machine

/-- Element (i, j) of accumulator tile n (R266). -/
def cell (s : State) (n : BitVec 2) (i j : Nat) : Nat := elem 32 (vget (n := 2) s.cur.ac n) (64 * i + j)

/-- No parity error in the tile (R320, R321). -/
def TileClean (s : State) (n : BitVec 2) : Prop := s.cur.poison.ac.getLsbD n.toNat = false

/-- `u` is `s0` with tile n written, its elements g: dirty (R9), without poison. -/
structure TileWritten (s0 u : State) (n : BitVec 2) (g : Nat → Nat → Nat) : Prop where
  frame : ∃ ac dirty bad, u = { s0 with cur := { s0.cur with
    ac := ac, u := { s0.cur.u with xdirty := dirty }, poison := { s0.cur.poison with ac := bad } } }
  dirty : u.cur.u.xdirty = s0.cur.u.xdirty ||| (1#64 <<< (16 + n.toNat))
  clean : u.cur.poison.ac = s0.cur.poison.ac &&& ~~~(1#64 <<< n.toNat)
  others : ∀ k : BitVec 2, k ≠ n → vget (n := 2) u.cur.ac k = vget (n := 2) s0.cur.ac k
  cells : ∀ i j, i < 64 → j < 64 → cell u n i j = g i j

/-- The pairings of R272. -/
def paired (a b : Tag) : Prop :=
  (tagOk a = true ∧ tagKind a = .b8) ∧ (tagOk b = true ∧ tagKind b = .b8) ∨
  (a = tagFp16 ∨ a = tagBf16) ∧ (b = tagFp16 ∨ b = tagBf16) ∨
  (a = 0x000 ∨ a = 0x001) ∧ (b = 0x000 ∨ b = 0x001) ∨
  (a = 0x007 ∨ a = 0x107) ∧ (b = 0x007 ∨ b = 0x107)

/-- The format register of `XACC`, `XACCT` and `GXACCT`. -/
structure Product (s : State) (d : BitVec 5) (f : FmtReg) : Prop where
  small : d < 8
  fmt : fmtReg (s.fm (d.setWidth 3)) = .ok f
  pair : paired f.atag f.btag
  dfmt : f.dfmt = 0 ∨ f.dfmt = tagFp32

/-- Element width, row length in bytes, elements of a row and of a chunk (R64, R71). -/
def elemBits (f : FmtReg) : Nat := if tagKind f.atag = .nib then 4 else tagWidth f.atag
def rowBytes (f : FmtReg) : Nat := if f.row = 0 then 512 else 64 * f.row
def rowElems (f : FmtReg) : Nat := rowBytes f * 8 / elemBits f
def chunkElems (f : FmtReg) : Nat := 256 / elemBits f

/-- An accumulator element after the first c chunks of two rows, with its flags (R71). -/
def accumulated (s : State) (f : FmtReg) (x y : Nat → Exact) (old : Nat) : Nat → Nat × Word
  | 0 => (old, 0)
  | c + 1 =>
    let r := accumulated s f x y old c
    let ps := (List.range (chunkElems f)).map fun k => times f.atag (x (c * chunkElems f + k)) (y (c * chunkElems f + k))
    let p := Exact.sum f.rnd (ps.map (·.1))
    let t := Exact.add f.rnd (decodeFloat fmtFp32 r.1) (p.1.scale (f.sa + f.sb + f.sd))
    let z := roundTo fmtFp32 f.rnd f.sat (fres s) t.1
    (z.1, r.2 ||| (ps.map (·.2)).foldl (· ||| ·) 0 ||| p.2 ||| t.2 ||| z.2)

/-- The new tile: the rows of `row` and the columns below nb are accumulated, the rest stays. -/
def product (s : State) (n : BitVec 2) (f : FmtReg) (row : Nat → Bool) (nb : Nat) (x y : Nat → Nat → Exact) (i j : Nat) : Nat :=
  if row i && decide (j < nb) then (accumulated s f (x i) (y j) (cell s n i j) (rowElems f / chunkElems f)).1 else cell s n i j

/-- Its flags. -/
def productFlags (s : State) (n : BitVec 2) (f : FmtReg) (row : Nat → Bool) (nb : Nat) (x y : Nat → Nat → Exact) : Word :=
  ((List.range 64).map fun i => if row i then ((List.range nb).map fun j =>
    (accumulated s f (x i) (y j) (cell s n i j) (rowElems f / chunkElems f)).2).foldl (· ||| ·) 0 else 0).foldl (· ||| ·) 0

/-- Tile stream register r. -/
def stream (s : State) (r : BitVec 5) : TileStream := vget (n := 3) s.cur.ts (r.setWidth 3)

/-- `s` with a stream register written. -/
def withStream (s : State) (r : BitVec 5) (t : TileStream) : State :=
  { s with cur := { s.cur with ts := vset (n := 3) s.cur.ts (r.setWidth 3) t } }

/-- `s` after a stream register is consumed (R270). -/
def consumed (s : State) (r : BitVec 5) : State :=
  withStream s r { stream s r with base := (stream s r).base + (stream s r).tstep }

/-- The nibble address of element k of row r (R269). -/
def nibbleOf (t : TileStream) (f : FmtReg) (r k : Nat) : Nat :=
  ((2 * ((t.base + BitVec.ofNat 64 r * t.rstride).toNat : Int) +
    k * (if t.estride = 0 then ((elemBits f / 4 : Nat) : Int) else t.estride.toInt)) % (2 ^ 65 : Nat)).toNat

/-- Bytes that an element's read touches. -/
def elemBytes (f : FmtReg) : Nat := max 1 (elemBits f / 8)

/-- The rows of `row` of a tile can be read: R269, and each element in memory or in the scratchpad at l. -/
structure TileReads (s : State) (t : TileStream) (f : FmtReg) (row : Nat → Bool) (l : Nat → Nat → Loc) : Prop where
  live : t.live = true
  len : t.rowlen = rowBytes f
  even : elemBits f = 4 ∨ t.estride.getLsbD 0 = false
  at' : ∀ r k, row r = true → k < rowElems f →
    let a := nibbleOf t f r k / 2
    a < 2 ^ 52 ∧ a % elemBytes f = 0 ∧ Hit s a .read (l r k) ∧ locPoison s (l r k) (elemBytes f) = none
  pages : ∃ ps : List Nat, ps.length ≤ 64 ∧ ∀ r k, row r = true → k < rowElems f → nibbleOf t f r k / 2 / 2 ^ 16 ∈ ps

/-- The number at element k of row r. -/
def tileNum (s : State) (t : TileStream) (f : FmtReg) (tag : Tag) (l : Nat → Nat → Loc) (r k : Nat) : Exact :=
  num s tag (if elemBits f = 4 then valueAt s (l r k) 1 / 16 ^ (nibbleOf t f r k % 2) % 16 else valueAt s (l r k) (elemBytes f))

/-- The barrier at pa after one arrival (R191). -/
def Arrived (s t : State) (pa : Nat) : Prop :=
  if word s pa 0 = 1 then Object s t pa (word s pa 2) ((word s pa 1 + 1) % 2 ^ 32) (word s pa 2) 0
  else Object s t pa (word s pa 0 - 1) (word s pa 1) (word s pa 2) 0

/-- `s` with other memory contents, and what fetches may still see (R380). -/
def afterStore (s : State) (m : Memory) (bad : List Nat) (st st' : List (Nat × BitVec 16)) : State :=
  { s with
    mem := m, bad := bad
    cur := { s.cur with thr := { s.cur.thr with stale := st } }
    oth := { s.oth with thr := { s.oth.thr with stale := st' } } }

/-- A 32-byte tile descriptor whose fields are in range (R266). -/
def descriptor (base rstride : Word) (estride : BitVec 32) (rows rowlen : BitVec 16) (tstep : Word) : List Byte :=
  leBytes 8 base.toNat ++ leBytes 8 rstride.toNat ++ leBytes 4 estride.toNat ++ leBytes 2 rows.toNat ++ leBytes 2 rowlen.toNat ++
    leBytes 8 tstep.toNat

end Sys2Proof.Claims

/-- No part of another leader's gang operation is aimed at tile `ac` of the current context (R353). -/
def Sys2Proof.Claims.TileFree (s : State) (ac : BitVec 2) : Prop := s.core.aimed.all (fun q => !(q.ctx == s.cur.id && q.ac == ac)) = true

/-- R266–R274, R277: `MZERO`, `XACC`, `MEXT`, `TSET`, and `XACCT` with and without a bound barrier on operand a. -/
def Sys2Proof.Claims.MatrixResults : Prop :=
  ∀ (o : OpMx) (s : State),
    let z := fromZero s
    (Works s .mx o.c [] → TileFree s o.ac → GovFree s o.m →
      (o.d = 0 → o.a = 0 → o.b = 0 → ∃ u, Gives (.mzero o) s (u.retire 4) ∧
        TileWritten (completed s .mx o.c none none 0) u o.ac fun i j => if on z o.m i then 0 else cell s o.ac i j) ∧
      (∀ f, Product s o.d f → s.vtag o.a = 6 → s.vtag o.b = 6 → Source s 8 o.a → Source s 8 o.b → TileClean s o.ac →
        let fit := min 64 (span s 8 * rlen s / rowBytes f)
        let x (t : Tag) (r : BitVec 5) (i k : Nat) := num s t (elem (elemBits f) (s.regBits (rlen s) r.toNat (span s 8)) (i * rowElems f + k))
        let row (i : Nat) := on z o.m i && decide (i < fit)
        ∃ u, Gives (.xacc o) s (u.retire 4) ∧
          TileWritten (completed s .mx o.c none none (productFlags s o.ac f row fit (x f.atag o.a) (x f.btag o.b))) u o.ac
            (product s o.ac f row fit (x f.atag o.a) (x f.btag o.b))) ∧
      (∀ f la lb, o.a < 8 → o.b < 8 → Product s o.d f → TileClean s o.ac →
        let ta := stream s o.a
        let tb := stream s o.b
        let row (i : Nat) := on z o.m i && decide (i < min 64 ta.rows)
        let nb := min 64 tb.rows
        TileReads s ta f row la → TileReads s tb f (fun j => decide (j < nb)) lb →
        let x := tileNum s ta f f.atag la
        let y := tileNum s tb f f.btag lb
        let Done (s1 : State) : Prop := ∃ u, Gives (.xacct o) s (u.retire 4) ∧
          TileWritten (completed s1 .mx o.c none none (productFlags s o.ac f row nb x y)) u o.ac (product s o.ac f row nb x y)
        let ends (t : State) : State := if o.a = o.b then consumed t o.a else consumed (consumed t o.a) o.b
        (ta.bar = none → tb.bar = none → ∃ slots cache, Done (ends (noted s slots cache))) ∧
        (∀ b pa, ta.bar = some b → (o.a = o.b ∨ tb.bar = none) → ObjectAt s b pa → Barrier s pa → s.dev.replay = none →
          ∃ slots cache m bad st st', let s1 := afterStore (ends (noted s slots cache)) m bad st st'
            Done s1 ∧ Arrived s s1 pa))) ∧
    (Works s .mx o.c [o.b] → TileFree s o.ac → GovFree s o.m → o.a < 8 → TileClean s o.ac → Aligned s (ew s) o.d →
      ∀ f, fmtReg (s.fm (o.a.setWidth 3)) = .ok f →
        let d := given f.dfmt tagFp32
        let r := (s.x o.b).toNat
        tagOk d = true → (tagKind d).isFloat = true → tagWidth d ≤ 32 → tagWidth d = ew s →
        (r + (vl s + 63) / 64 ≤ 64 →
          let y (i : Nat) := roundTo (fmtOf d) f.rnd f.sat (fres s) ((decodeFloat fmtFp32 (cell s o.ac (r + i / 64) (i % 64))).scale f.sd)
          ∃ u, Gives (.mext o) s (u.retire 4) ∧
            SpanWritten (completed s .mx o.c (some o.d) none (flagsOf z (on z o.m) fun i => (y i).2)) u (rlen s) o.d (span s (ew s)) d
              (ew s) (wrote z (on z o.m)) ∧
            ElementsAre z u (ew s) o.d (on z o.m) fun i => (y i).1) ∧
        (64 < r + (vl s + 63) / 64 → EntryTraps s (.mext o) s 4 .mx o.c (some o.d) none 0x12 (s.x o.b))) ∧
    (Works s .mx o.c (if o.b = 0 then [o.a] else [o.a, o.b]) → o.d < 8 → o.ac = 0 → o.m = 15 →
      (s.x o.a).toNat % 32 = 0 → o.b = 0 ∨ (s.x o.b).toNat % 16 = 0 →
      ∀ base rstride estride rows rowlen tstep, HoldsBytes s (s.x o.a).toNat (descriptor base rstride estride rows rowlen tstep) →
        (1 ≤ rows.toNat ∧ rows.toNat ≤ 64 ∧ 64 ≤ rowlen.toNat ∧ rowlen.toNat ≤ 512 ∧ rowlen.toNat % 64 = 0 →
          ∃ slots cache, UnitDone (.tset o) (noted (withStream s o.d
            ⟨true, base, rstride, estride, rows.toNat, rowlen.toNat, tstep, if o.b = 0 then none else some (s.x o.b)⟩) slots cache) s 4 .mx o.c none none 0) ∧
        (rows.toNat = 0 ∨ 64 < rows.toNat ∨ rowlen.toNat = 0 ∨ 512 < rowlen.toNat ∨ rowlen.toNat % 64 ≠ 0 →
          ∃ slots cache, EntryTraps (noted s slots cache) (.tset o) s 4 .mx o.c none none 0x10 (s.x o.a)))

/-- R278: `GXACCT` of a gang's leader whose members' stream registers have no bound barrier: every member's tile takes the product of its
own operand a with the leader's operand b, and each consumed register moves by TSTEP. -/
def Sys2Proof.Claims.GangProduct : Prop :=
  ∀ (o : OpMx) (s : State) (f : FmtReg) (lb : Nat → Nat → Loc) (la : Nat → Nat → Nat → Loc),
    let z := fromZero s
    let view (m : Mate) : State := (s.swapMate m).1
    let tb := stream s o.b
    let nb := min 64 tb.rows
    let row (t : State) (i : Nat) := on z o.m i && decide (i < min 64 (stream t o.a).rows)
    let y := tileNum s tb f f.btag lb
    let x (n : Nat) (t : State) := tileNum t (stream t o.a) f f.atag (la n)
    Works s .mx o.c [] → TileFree s o.ac → GovFree s o.m → o.a < 8 → o.b < 8 → Product s o.d f → s.core.parts = [] → s.core.partBars = [] →
    (s.cur.u.gangid >>> 4 &&& 15) ≠ 0 → (s.cur.u.gangid >>> 2 &&& 3) = 0 → (0 :: s.core.mates.map (·.member)).Nodup →
    TileReads s tb f (fun j => decide (j < nb)) lb → tb.bar = none →
    (∀ n t, (n = 0 ∧ t = s ∨ ∃ m ∈ s.core.mates, n = m.member ∧ t = view m) →
      TileReads t (stream t o.a) f (row t) (la n) ∧ TileClean t o.ac ∧ (stream t o.a).bar = none) →
    ∃ slots cache, ∃ mates : List Mate, ∃ u,
      Gives (.gxacct o) s (u.retire 4) ∧
      TileWritten (completed (let t := noted (if o.a = o.b then consumed s o.a else consumed (consumed s o.a) o.b) slots cache
          { t with core := { t.core with mates := mates } }) .mx o.c none none
        ((s.core.mates.map fun m => productFlags (view m) o.ac f (row (view m)) nb (x m.member (view m)) y).foldl (· ||| ·)
          (productFlags s o.ac f (row s) nb (x 0 s) y))) u o.ac (product s o.ac f (row s) nb (x 0 s) y) ∧
      mates.length = s.core.mates.length ∧
      ∀ (k : Nat) (m m' : Mate), s.core.mates[k]? = some m → mates[k]? = some m' →
        let v := view m
        (∃ ac, m' = { m with ts := (consumed v o.a).cur.ts, ac := ac, xdirty := m.xdirty ||| (1#64 <<< (16 + o.ac.toNat)) }) ∧
        (∀ i j, i < 64 → j < 64 → elem 32 (vget (n := 2) m'.ac o.ac) (64 * i + j) = product v o.ac f (row v) nb (x m.member v) y i j) ∧
        ∀ n : BitVec 2, n ≠ o.ac → vget (n := 2) m'.ac n = vget (n := 2) m.ac n

/-! ## Tumbler and Hinge -/

namespace Sys2Proof.Claims

open Sys2Proof.Machine

/-- The 64 bytes of an automaton descriptor (R283). -/
def automatonBytes (b : Binding) : List Byte :=
  leBytes 8 b.classtab.toNat ++ leBytes 8 b.maptab.toNat ++ leBytes 4 b.nsym ++ leBytes 2 b.nclass ++ leBytes 2 b.states ++ List.replicate 40 0

/-- Its ranges. -/
def InRange (b : Binding) : Prop :=
  1 ≤ b.nsym ∧ b.nsym ≤ 2 ^ 20 ∧ 1 ≤ b.nclass ∧ b.nclass ≤ 4096 ∧ 2 ≤ b.states ∧ b.states ≤ 256 ∧ b.classtab.toNat % 2 = 0

/-- Symbol operands (R286). -/
structure Symbols (s : State) (a : BitVec 5) : Prop where
  tag : tagOk (s.vtag a) = true
  kind : (tagKind (s.vtag a)).isIX = true
  width : tagWidth (s.vtag a) = ew s
  size : ew s = 32 ∨ ew s = 64
  source : Source s (ew s) a

/-- State operands (R289). -/
structure States (s : State) (b : BitVec 5) : Prop where
  tag : tagOk (s.vtag b) = true
  kind : (tagKind (s.vtag b)).isIX = true
  width : tagWidth (s.vtag b) = ew s
  source : Source s (ew s) b

/-- A map vector of n maps of S bytes (R285). -/
structure Maps (s : State) (r : BitVec 5) (S n : Nat) : Prop where
  tag : s.vtag r = 6
  source : Source s 8 r
  room : n ≤ span s 8 * rlen s / S

/-- `rd(map i of r, q)` (R285). -/
def rdMap (s : State) (r : BitVec 5) (S i q : Nat) : Nat :=
  let v := el s 8 r (i * S + q)
  if q = 0 ∨ S ≤ q ∨ S ≤ v then 0 else v

/-- The class of symbol y is c; a byte of its map (R286). -/
def ClassIs (s : State) (b : Binding) (y c : Nat) : Prop :=
  y < b.nsym → c < 2 ^ 16 ∧ HoldsBytes s (b.classtab + BitVec.ofNat 64 (2 * y)).toNat (leBytes 2 c)
def MapByteIs (s : State) (b : Binding) (y c q v : Nat) : Prop :=
  y < b.nsym → c < b.nclass → v < 256 ∧ ReadsByte s (b.maptab + BitVec.ofNat 64 (c * b.states + q)).toNat (BitVec.ofNat 8 v)

/-- Where symbol y of class c, whose map has v at byte q, sends state q. -/
def sends (b : Binding) (y c q v : Nat) : Nat :=
  if y < b.nsym ∧ c < b.nclass ∧ 0 < q ∧ q < b.states ∧ v < b.states then v else 0

/-- n maps are written to d's span and their constant flags to mask `o.b`; the rest by TP (R285, R287, R288). -/
def MapsDone (i : Instr) (s1 s : State) (o : OpVa) (S n : Nat) (m : Nat → Nat → Nat) : Prop :=
  ∃ u v, Gives i s (v.retire 4) ∧ SpanWritten (completed s1 .xl o.c (some o.d) none 0) u (rlen s) o.d (span s 8) 6 8
      (fun k => decide (k < n * S) || tp s) ∧
    MaskWritten u v (mask o.b) (8 * rlen s) (fun k => decide (k < n) || tp s) ∧
    (∀ k, k < span s 8 * rlen s → elem 8 (v.regBits (rlen s) o.d.toNat (span s 8)) k =
      if k < n * S then m (k / S) (k % S) else if tp s then 0 else el s 8 o.d k) ∧
    ∀ k, bit v (mask o.b) k = if k < n then ((List.range S).all fun q => decide (q = 0) || m k q == m k 1) else if tp s then false else bit s (mask o.b) k

/-- A mask destination under R106, beside the changes of `s1`. -/
def MaskDoneOn (s1 : State) (i : Instr) (s : State) (cls : Cls) (c : Bool) (d : BitVec 5) (act f : Nat → Bool) : Prop :=
  ∃ u, Gives i s (u.retire 4) ∧ MaskWritten (completed s1 cls c none none 0) u (mask d) (8 * rlen s) (wrote s act) ∧
    ∀ i, bit u (mask d) i =
      (if i < vstart s then bit s (mask d) i
       else if i < vl s then (if act i then f i else if mp s then false else bit s (mask d) i)
       else if tp s then false else bit s (mask d) i)

/-- The 32 bytes of a stream half (R292). -/
def halfBytes (h : StreamHalf) : List Byte :=
  leBytes 8 h.addr.toNat ++ leBytes 4 h.pos ++ leBytes 4 h.rem ++ leBytes 4 h.last ++ leBytes 4 h.limit ++ leBytes 4 h.cbase ++
    leBytes 2 h.bit ++ leBytes 1 h.enc ++ leBytes 1 h.state

/-- The fields fit their places. -/
def Fits (h : StreamHalf) : Prop :=
  h.pos < 2 ^ 32 ∧ h.rem < 2 ^ 32 ∧ h.last < 2 ^ 32 ∧ h.limit < 2 ^ 32 ∧ h.cbase < 2 ^ 32 ∧ h.bit < 2 ^ 16 ∧ h.enc < 2 ^ 8 ∧ h.state < 2 ^ 8

/-- What `HGREST` accepts (R297). -/
def LegalHalf (h : StreamHalf) : Prop :=
  h.enc ≤ 2 ∧ h.state ≤ 2 ∧ (h.enc = 2 → h.bit ≤ 511 ∧ h.cbase % 512 = 0) ∧ (h.enc ≠ 2 → h.bit = 0 ∧ h.cbase = 0)

/-- The value of a varint's bytes (R293). -/
def varintValue : List Byte → Nat
  | [] => 0
  | b :: bs => b.toNat % 128 + 128 * varintValue bs

/-- The stream's next coordinate is c, found at h0; after it the stream reads on from t (R293). -/
def Coded (s : State) (h : StreamHalf) (c : Nat) (h0 t : StreamHalf) : Prop :=
  h.rem ≠ 0 ∧ c < 2 ^ 32 ∧
  (h.enc = 0 ∧ h.addr.toNat % 4 = 0 ∧ HoldsBytes s h.addr.toNat (leBytes 4 c) ∧ h0 = h ∧ t = { h with addr := h.addr + 4, rem := h.rem - 1 } ∨
   h.enc = 1 ∧ (∃ bs, HoldsBytes s h.addr.toNat bs ∧ 1 ≤ bs.length ∧ bs.length ≤ 5 ∧
     (∀ k b, bs[k]? = some b → (128 ≤ b.toNat ↔ k + 1 < bs.length)) ∧ varintValue bs < 2 ^ 32 ∧
     c = (if h.pos = 0 then varintValue bs else h.last + varintValue bs) ∧ h0 = h ∧
     t = { h with addr := h.addr + BitVec.ofNat 64 bs.length, rem := h.rem - 1 }) ∨
   h.enc = 2 ∧ h.cbase < 2 ^ 32 ∧ ∃ (j b : Nat) (block : Nat → List Byte), j < h.rem ∧ b < 512 ∧
     (∀ k, k ≤ j → (block k).length = 64 ∧ HoldsBytes s (h.addr + BitVec.ofNat 64 (64 * k)).toNat (block k)) ∧
     (∀ k n, n < 512 → (k < j ∧ (k = 0 → h.bit ≤ n) ∨ k = j ∧ n < b ∧ (k = 0 → h.bit ≤ n)) →
       ((block k).getD (n / 8) 0).getLsbD (n % 8) = false) ∧
     (j = 0 → h.bit ≤ b) ∧ ((block j).getD (b / 8) 0).getLsbD (b % 8) = true ∧ c = (h.cbase + 512 * j + b) % 2 ^ 32 ∧
     h0 = { h with addr := h.addr + BitVec.ofNat 64 (64 * j), cbase := (h.cbase + 512 * j) % 2 ^ 32, bit := b, rem := h.rem - j } ∧
     t = { h0 with bit := b + 1 })

/-- What `next` answers. -/
inductive Found where
  | done
  | bad
  | coord (c : Nat)
  deriving DecidableEq

/-- `next` (R293, R295) finds r and leaves h1; `take` would leave t. A malformed varint and blocks without a further bit are not among
its cases. -/
def Next (s : State) (h : StreamHalf) (r : Found) (h1 t : StreamHalf) : Prop :=
  h.state = 2 ∧ r = .bad ∧ h1 = h ∧ t = h ∨
  h.state ≠ 2 ∧ (h.state = 1 ∨ h.rem = 0) ∧ r = .done ∧ h1 = h ∧ t = h ∨
  h.state = 0 ∧ ∃ c h0 t0, Coded s h c h0 t0 ∧
    (h.enc < 2 ∧ 0 < h.pos ∧ c ≤ h.last ∧ r = .bad ∧ h1 = h ∧ t = h ∨
     ¬ (h.enc < 2 ∧ 0 < h.pos ∧ c ≤ h.last) ∧ h.limit ≠ 0 ∧ h.limit ≤ c ∧ r = .done ∧ h1 = { h0 with state := 1 } ∧ t = h1 ∨
     ¬ (h.enc < 2 ∧ 0 < h.pos ∧ c ≤ h.last) ∧ ¬ (h.limit ≠ 0 ∧ h.limit ≤ c) ∧ r = .coord c ∧ h1 = h0 ∧
       t = { t0 with last := c, pos := (h.pos + 1) % 2 ^ 32 })

/-- The pairs of `HGINT`, or of `HGMRG`, for n elements (R294), the cursor after them, and the stream that stopped with BAD. -/
inductive Rounds (s : State) (merge : Bool) : Nat → StreamHalf → StreamHalf → List (Nat × Nat × Nat) → StreamHalf → StreamHalf →
    Option Bool → Prop where
  | full (a b : StreamHalf) : Rounds s merge 0 a b [] a b none
  | badA {n a b rb a1 b1 ta tb} : Next s a .bad a1 ta → Next s b rb b1 tb → Rounds s merge (n + 1) a b [] a1 b1 (some false)
  | badB {n a b ra a1 b1 ta tb} : Next s a ra a1 ta → ra ≠ .bad → Next s b .bad b1 tb → Rounds s merge (n + 1) a b [] a1 b1 (some true)
  | stop {n a b ra rb a1 b1 ta tb} : Next s a ra a1 ta → Next s b rb b1 tb → ra ≠ .bad → rb ≠ .bad →
      (if merge then ra = .done ∧ rb = .done else ra = .done ∨ rb = .done) → Rounds s merge (n + 1) a b [] a1 b1 none
  | onlyA {n a b x rb a1 b1 ta tb out a' b' r} : Next s a (.coord x) a1 ta → Next s b rb b1 tb →
      ((∃ y, rb = .coord y ∧ x < y) ∨ merge = true ∧ rb = .done) → Rounds s merge (if merge then n else n + 1) ta b1 out a' b' r →
      Rounds s merge (n + 1) a b (if merge then (x, a1.pos, 0xFFFFFFFF) :: out else out) a' b' r
  | onlyB {n a b y ra a1 b1 ta tb out a' b' r} : Next s a ra a1 ta → Next s b (.coord y) b1 tb →
      ((∃ x, ra = .coord x ∧ y < x) ∨ merge = true ∧ ra = .done) → Rounds s merge (if merge then n else n + 1) a1 tb out a' b' r →
      Rounds s merge (n + 1) a b (if merge then (y, 0xFFFFFFFF, b1.pos) :: out else out) a' b' r
  | both {n a b x a1 b1 ta tb out a' b' r} : Next s a (.coord x) a1 ta → Next s b (.coord x) b1 tb →
      Rounds s merge n ta tb out a' b' r → Rounds s merge (n + 1) a b ((x, a1.pos, b1.pos) :: out) a' b' r

/-- The triples of `out` for the first active elements, in three registers under tag `idx32`, beside the changes of `s2`. -/
def TriplesDone (i : Instr) (s2 s : State) (o : OpVa) (out : List (Nat × Nat × Nat)) : Prop :=
  let z := fromZero s
  let got (i : Nat) : Bool := on z o.m i && decide (rank z o.m i < out.length)
  let pick (i : Nat) : Nat × Nat × Nat := out.getD (rank z o.m i) (0, 0, 0)
  ∃ u v w, Gives i s (w.retire 4) ∧ SpanWritten (completed s2 .xl o.c (some o.d) none 0) u (rlen s) o.d (span s 32) 0x015
      32 (wrote z got) ∧
    SpanWritten u v (rlen s) o.a (span s 32) 0x015 32 (wrote z got) ∧ SpanWritten v w (rlen s) o.b (span s 32) 0x015 32 (wrote z got) ∧
    ElementsAre z w 32 o.d got (fun i => (pick i).1) ∧ ElementsAre z w 32 o.a got (fun i => (pick i).2.1) ∧
    ElementsAre z w 32 o.b got fun i => (pick i).2.2

/-- The same, and the governing mask is written and loses the other active elements (R294). -/
def TrimmedTriples (i : Instr) (s1 s : State) (o : OpVa) (out : List (Nat × Nat × Nat)) : Prop :=
  let z := fromZero s
  ∃ s2, (o.m = 15 ∧ s2 = s1 ∨ o.m ≠ 15 ∧ ∃ m, s2 = s1.putMask o.m m ∧
      ∀ i, m.testBit i = (bit s o.m i && (!on z o.m i || decide (rank z o.m i < out.length)))) ∧
    TriplesDone i s2 s o out

/-- `s` with another cursor. -/
def withCursor (s : State) (a b : StreamHalf) : State := { s with core := { s.core with hinge := (a, b) } }

/-- Three disjoint spans at EW = 32 (R294). -/
structure Triple (s : State) (o : OpVa) : Prop where
  wide : ew s = 32
  spans : Aligned s 32 o.d ∧ Aligned s 32 o.a ∧ Aligned s 32 o.b
  apart : Apart s 32 o.d 32 o.a ∧ Apart s 32 o.d 32 o.b ∧ Apart s 32 o.a 32 o.b
  gov : GovFree s o.m

end Sys2Proof.Claims

/-- R283–R290: the Tumbler. -/
def Sys2Proof.Claims.Tumbler : Prop :=
  ∀ (o : OpVa) (s : State), Claimable s .tumbler →
    let s' := s.claim .tumbler
    (Ready s .xl o.c [o.a] →
      ((s.x o.a).toNat % 64 ≠ 0 → EntryTraps s' (.tmbind o) s 4 .xl o.c none none 0x15 (s.x o.a)) ∧
      ∀ b : Binding, b.nsym < 2 ^ 32 → b.nclass < 2 ^ 16 → b.states < 2 ^ 16 → (s.x o.a).toNat % 64 = 0 →
        HoldsBytes s' (s.x o.a).toNat (automatonBytes b) →
        ∃ slots cache, (InRange b → UnitDone (.tmbind o) (let t := noted s' slots cache
            { t with core := { t.core with tumbler := some b } }) s 4 .xl o.c none none 0) ∧
          (¬ InRange b → EntryTraps (noted s' slots cache) (.tmbind o) s 4 .xl o.c none none 0x15 (s.x o.a))) ∧
    (Works s .xl o.c [] → s'.core.tumbler = none →
      (∀ i ∈ [(.tmmap o : Instr), .tmcomp o, .tmrun o], EntryTraps s' i s 4 .xl o.c (some o.d) none 0x15 0) ∧
      EntryTraps s' (.tmmask o) s 4 .xl o.c none none 0x15 0) ∧
    ∀ (b : Binding) (c : Nat → Nat) (raw : Nat → Nat → Nat), Works s .xl o.c [] → s'.core.tumbler = some b → InRange b → GovFree s o.m →
      let S := b.states
      let y := el s (ew s) o.a
      (Symbols s o.a → Aligned s 8 o.d → Apart s 8 o.d (ew s) o.a → vl s ≤ span s 8 * rlen s / S →
        (∀ i, on (fromZero s) o.m i = true → ClassIs s' b (y i) (c i) ∧ ∀ q, q < S → MapByteIs s' b (y i) (c i) q (raw i q)) →
        ∃ slots cache, MapsDone (.tmmap o) (noted s' slots cache) s o S (vl s) fun i q =>
          if on (fromZero s) o.m i then sends b (y i) (c i) q (raw i q) else q) ∧
      (o.m = 15 → Maps s o.a S (vl s) → Aligned s 8 o.d → DestBeside s 8 o.d 8 o.a →
        MapsDone (.tmcomp o) s' s o S ((vl s + 1) / 2) fun i q =>
          if 2 * i + 1 < vl s then rdMap s o.a S (2 * i + 1) (rdMap s o.a S (2 * i) q) else rdMap s o.a S (2 * i) q) ∧
      (Maps s o.a S (vl s) → States s o.b → Aligned s (ew s) o.d → Apart s (ew s) o.d 8 o.a → DestBeside s (ew s) o.d (ew s) o.b →
        VecDoneOn s' (.tmrun o) s 4 .xl o.c o.d (ew s) (s.vtag o.b) (on s o.m) fun i => (rdMap s o.a S i (el s (ew s) o.b i), 0)) ∧
      (Symbols s o.a → States s o.b →
        let q := el s (ew s) o.b
        (∀ i, on s o.m i = true → ClassIs s' b (y i) (c i) ∧ (0 < q i → q i < S → MapByteIs s' b (y i) (c i) (q i) (raw i (q i)))) →
        ∃ slots cache, MaskDoneOn (noted s' slots cache) (.tmmask o) s .xl o.c o.d (on s o.m) fun i =>
          decide (sends b (y i) (c i) (q i) (raw i (q i)) ≠ 0))

/-- R292–R300: the Hinge. -/
def Sys2Proof.Claims.Hinge : Prop :=
  ∀ (o : OpVa) (s : State), Claimable s .hinge →
    let s' := s.claim .hinge
    let a := s'.core.hinge.1
    let b := s'.core.hinge.2
    let n := (actives (fromZero s) o.m).length
    (Works s .xl o.c [] → Triple s o →
      (o.m ≠ 15 → ∀ merge out a' b' r, Rounds s' merge n a b out a' b' r →
        let i : Instr := if merge then .hgmrg o else .hgint o
        ∃ slots cache,
          (out ≠ [] ∨ r = none → TrimmedTriples i (noted (withCursor s' a' b') slots cache) s o out) ∧
          (out = [] → r = some false → EntryTraps (noted (withCursor s' { a' with state := 2 } b') slots cache) i s 4 .xl o.c (some o.d) none 0x16
            (BitVec.ofNat 64 a'.pos)) ∧
          (out = [] → r = some true → EntryTraps (noted (withCursor s' a' { b' with state := 2 }) slots cache) i s 4 .xl o.c (some o.d) none 0x16
            (BitVec.ofNat 64 (b'.pos + 2 ^ 63)))) ∧
      (2 ≤ a.enc → EntryTraps s' (.hgsplit o) s 4 .xl o.c (some o.d) none 0x17 (BitVec.ofNat 64 a.enc)) ∧
      (a.enc < 2 →
        let left := if a.state = 0 then a.rem else 0
        ∀ (path : Nat → StreamHalf) (c : Nat → Nat), path 0 = a →
          (∀ j, j < n * left / (n + 1) → ∃ t, Coded s' (path j) (c j) (path j) t ∧ (0 < (path j).pos → (path j).last < c j) ∧
            path (j + 1) = { t with last := c j, pos := ((path j).pos + 1) % 2 ^ 32 }) →
          ∃ slots cache, TriplesDone (.hgsplit o) (noted s' slots cache) s o ((List.range n).map fun k =>
            let d := (k + 1) * left / (n + 1)
            ((path d).last, (a.pos + d) % 2 ^ 32, ((path d).addr - a.addr).toNat % 2 ^ 32)))) ∧
    (Ready s .xl o.c [o.a] →
      ((s.x o.a).toNat % 64 ≠ 0 →
        ∀ i ∈ [(.hgsave o : Instr), .hgrest o], EntryTraps s' i s 4 .xl o.c none none 0x06 (s.x o.a)) ∧
      ((s.x o.a).toNat % 64 = 0 →
        (∀ l, (s.x o.a).toNat < 2 ^ 52 → Hit s' (s.x o.a).toNat .write l → s.dev.replay = none →
          ∃ cache, UnitDone (.hgsave o) { locPut s' l (halfBytes a ++ halfBytes b) with cache := cache } s 4 .xl o.c none none 0) ∧
        ∀ a1 b1 : StreamHalf, Fits a1 → Fits b1 → HoldsBytes s' (s.x o.a).toNat (halfBytes a1 ++ halfBytes b1) →
          ∃ slots cache, (LegalHalf a1 → LegalHalf b1 →
              UnitDone (.hgrest o) (noted (withCursor s' a1 b1) slots cache) s 4 .xl o.c none none 0) ∧
            (¬ (LegalHalf a1 ∧ LegalHalf b1) → EntryTraps (noted s' slots cache) (.hgrest o) s 4 .xl o.c none none 0x17 (s.x o.a)))) ∧
    (Ready s .xl o.c [o.a, o.b] → (s.x o.a).toNat % 32 = 0 →
      ∀ (tiles : Word) (ntiles tlo thi na nb : BitVec 32) (a1 b1 : StreamHalf),
        let ta := (s.x o.b).toNat % 2 ^ 32
        let tb := (s.x o.b).toNat / 2 ^ 32
        let record (h : StreamHalf) (est : BitVec 32) := halfBytes h ++ leBytes 4 est.toNat ++ List.replicate 28 (0 : Byte)
        tiles.toNat % 64 = 0 → ta < ntiles.toNat → tb < ntiles.toNat → Fits a1 → Fits b1 → LegalHalf a1 → LegalHalf b1 →
        HoldsBytes s' (s.x o.a).toNat (leBytes 8 tiles.toNat ++ leBytes 4 ntiles.toNat ++ leBytes 4 tlo.toNat ++ leBytes 4 thi.toNat ++
          List.replicate 12 (0 : Byte)) →
        HoldsBytes s' (tiles + BitVec.ofNat 64 (64 * ta)).toNat (record a1 na) →
        HoldsBytes s' (tiles + BitVec.ofNat 64 (64 * tb)).toNat (record b1 nb) →
        ∃ slots cache, Gives (.hgbind o) s (((completed (noted (withCursor s' a1 b1) slots cache) .xl o.c none (some o.d) 0).putX o.d
          (if na = 0 ∨ nb = 0 then 0
           else if tlo.toNat ≤ min na.toNat nb.toNat ∧ max na.toNat nb.toNat ≤ thi.toNat then 1 else 2)).retire 4)) ∧
    (Ready s .xl o.c [] → ∃ v : Word, Gives (.hgdone o) s (((completed s' .xl o.c none (some o.d) 0).putX o.d v).retire 4) ∧
      (v.getLsbD 0 = true ↔ a.state = 1 ∨ a.rem = 0) ∧ (v.getLsbD 1 = true ↔ b.state = 1 ∨ b.rem = 0) ∧
      (v.getLsbD 2 = true ↔ a.state = 2) ∧ (v.getLsbD 3 = true ↔ b.state = 2) ∧ ∀ k, 4 ≤ k → v.getLsbD k = false)

/-! ## The context mover, the events of a context, the lanes, the fault service -/

namespace Sys2Proof.Claims

open Sys2Proof.Machine

/-- The machine seen from its other context. -/
def other (s : State) : State := { s with cur := s.oth, oth := s.cur }
/-- The machine seen from context c, and back. -/
def seenFrom (c : Bool) (s : State) : State := if s.cur.id = c then s else other s
def seenBack (c : Bool) (s u : State) : State := if s.cur.id = c then u else other u

/-- An event of context c: where P holds of the machine seen from it, the event leads to a state with R. -/
def EventDone (i : Bool → Instr) (P : State → Prop) (R : State → State → Prop) : Prop :=
  ∀ (c : Bool) (s : State), P (seenFrom c s) → ∃ u, Gives (i c) s (seenBack c s u) ∧ R (seenFrom c s) u

/-- `s` with other event bits, wait state. -/
def withEvents (s : State) (pre kill stop : Bool) : State :=
  { s with cur := { s.cur with sys := { s.cur.sys with evPre := pre, evKill := kill, evStop := stop } } }
def waiting (s : State) (w : Wait) : State := { s with cur := { s.cur with thr := { s.cur.thr with wait := w } } }

/-- A live thread in user mode. -/
abbrev LiveUser (s : State) : Prop := s.cur.thr.live = true ∧ s.user = true

/-- Nothing keeps the VIQ of the context from freezing: no entry of a thread that had the context before (R173), no gang operation of another core's
leader aimed at it (R279, R324). -/
structure Freezable (s : State) : Prop where
  old : ∀ d ∈ s.core.drains, d.id = s.cur.id → d.viq = []
  aimed : ∀ q, s.core.aimed = some q → q.ctx ≠ s.cur.id

/-- Nothing keeps an event from its boundary: besides, no gang operation that the thread leads is outstanding (R279), and no
delivered trap is ready (R308). -/
structure Interruptible (s : State) : Prop extends Freezable s where
  parts : ∀ p ∈ s.core.parts, p.ctx ≠ s.cur.id
  due : ∀ d ∈ s.cur.thr.due, s.cur.ready d = false

/-- No debug stop comes before a pre-emption: neither a breakpoint where the thread stands nor a halt (R340). -/
def NoStop (s : State) : Prop := (s.cur.thr.wait = .none → s.breakpoint = none) ∧ (s.cur.sys.evStop = false ∨ s.kden = false)

/-- A debug stop for REASON n: the thread waits in the core monitor for RESUME (R336, R338). -/
structure Stopped (s u : State) (n : Nat) : Prop where
  wait : u.cur.thr.wait = .stop
  mode : u.cur.sys.mode = .system
  reason : (u.cur.dbg.stat.setWidth 8).toNat = n
  cause : u.cur.sys.cause.getLsbD 63 = true ∧ u.cur.sys.cause.setWidth 8 = 0x42#8
  epc : u.cur.sys.epc = s.cur.pc.setWidth 64 + (if s.cur.half ∧ s.cur.pc.getLsbD 0 = false then 1 else 0)
  regs : u.cur.x = s.cur.x ∧ u.cur.v = s.cur.v ∧ u.cur.viq = s.cur.viq.map (frozenEntry (vget (n := 4) s.cur.m 15)) ∧ u.mem = s.mem ∧ u.oth = s.oth
  masks : u.cur.m = vset (n := 4) s.cur.m 15 (frozenM15 s)

/-- Doubleword k of the trace sink's header (R342). -/
def sinkWord (s : State) (k : Nat) : Nat := s.mem.readVal (s.dev.win.ktsink.toNat + 8 * k) 8

/-- The lanes work for the thread of the context: it has a quad (R326), its VIQ is not frozen, it owes no delivered trap. -/
structure LanesOn (s : State) : Prop extends Freezable s where
  live : LiveUser s
  thawed : s.cur.frozen = false
  due : s.cur.thr.due = []
  quad : s.hasQuad = true

/-- An entry that waits for nothing: no record, no unit that a thread which has given its context away still uses (R236). -/
structure EntryFree (s : State) (e : Entry) : Prop where
  new : e.fin = false
  record : e.rid = none
  unit : ∀ u, e.unit = some u → s.unitDrains u = false

/-- The head entry of the VIQ that the lanes can work on. -/
structure HeadIs (s : State) (e : Entry) (rest : List Entry) : Prop extends LanesOn s, EntryFree s e where
  head : s.cur.viq = e :: rest
  next : ∀ h ∈ rest.head?, h.fin = false

/-- `s` where the run of an entry begins: at the start of a convoy the quads move (R172). -/
def starting (s : State) (e : Entry) : State :=
  if e.conv && e.vstart == e.first then { s with core := { s.core with held := s.quadsMoved } } else s

/-- `s` with other entries queued. -/
def withQueue (s : State) (q : List Entry) : State := { s with cur := { s.cur with viq := q } }

/-- `s` after its head entry has completed with the flags fl (R17, R62). -/
def headDone (s : State) (e : Entry) (fl : Word) : State :=
  { s with cur := { s.cur with
    viq := s.cur.viq.tail
    u := { s.cur.u with vcommit := s.cur.u.vcommit + 1, vflags := s.cur.u.vflags ||| ((e.flags ||| fl) &&& 0x13F) } } }

/-- An open record that only the thread of the current context can wait on, which owes no other trap and whose VIQ may freeze. -/
structure Answerable (s : State) (q : FaultRec) : Prop where
  open' : s.dev.recs.find? (·.rid == q.rid) = some q
  due : s.cur.thr.due = [] ∧ s.oth.thr.due = []
  drains : s.core.drains = []
  aimed : s.core.aimed = none
  parts : ∀ p ∈ s.core.parts, p.rid ≠ some q.rid
  oth : s.oth.u.tid ≠ q.tid ∧ ∀ e ∈ s.oth.viq, e.rid ≠ some q.rid

/-- A stream half in the widths of R292. -/
def HalfFits (h : StreamHalf) : Prop :=
  h.pos < 2 ^ 32 ∧ h.rem < 2 ^ 32 ∧ h.last < 2 ^ 32 ∧ h.limit < 2 ^ 32 ∧ h.cbase < 2 ^ 32 ∧ h.bit < 2 ^ 16 ∧ h.enc < 2 ^ 8 ∧ h.state < 2 ^ 8

/-- A context whose files, units and engine slots fit their places in the area; no old thread and no other context has a claim on what the area
holds, and the service has ended no copy of it. -/
structure Saveable (s : State) : Prop where
  shared : s.core.drains = [] ∧ ∀ u, s.core.heldBy u = some (!s.cur.id) → s.unitFlag s.cur u = false
  keyed : (s.core.keyed.map (·.slot)).Pairwise (· < ·) ∧ ∀ k ∈ s.core.keyed, k.slot < 16384 ∧ k.key < 2 ^ 64 ∧ k.val < 2 ^ 64
  topk : s.core.topk.k < 2 ^ 64 ∧ s.core.topk.cands.length ≤ 1024 ∧ ∀ c ∈ s.core.topk.cands, c.1 < 2 ^ 64 ∧ c.2 < 2 ^ 64
  tumbler : ∀ b, s.core.tumbler = some b → b.nsym < 2 ^ 32 ∧ b.nclass < 2 ^ 16 ∧ b.states < 2 ^ 16
  hinge : HalfFits s.core.hinge.1 ∧ HalfFits s.core.hinge.2
  copies : s.core.copies.length ≤ 64 ∧ ((s.core.copies.filter (·.mine s)).map (·.tag)).Nodup ∧
    ∀ c ∈ s.core.copies, c.mine s = true → c.tag < 64 ∧ c.block.length = 256 ∧ c.cur < 2 ^ 64 ∧ c.out < 2 ^ 64 ∧ c.asid < 2 ^ 64 ∧ c.ptbase < 2 ^ 64
  slots : ((s.core.slots.filter (·.mine s)).map (·.slot)).Nodup ∧ ∀ p ∈ s.core.slots, p.mine s = true → p.slot < 16 ∧ p.desc.length = 128 ∧
    p.lead < 2 ^ 32 ∧ p.cons < 2 ^ 64 ∧ p.pos < 2 ^ 64 ∧ p.asid < 2 ^ 64 ∧ p.ptbase < 2 ^ 64 ∧ ∀ e, p.ending = some e → e.1 < 16 ∧ e.2 < 2 ^ 28
  ends : s.cur.thr.ends = []
  entries : s.cur.viq.length ≤ 64
  small : s.cur.u.rlen.toNat ≤ 0x8000
  regs : ∀ r : BitVec 5, (vget (n := 5) s.cur.v r).bits < 2 ^ (8 * s.cur.u.rlen.toNat)
  masks : ∀ k : BitVec 4, vget (n := 4) s.cur.m k < 2 ^ (8 * s.cur.u.rlen.toNat)
  tiles : ∀ k : BitVec 2, vget (n := 2) s.cur.ac k < 2 ^ (8 * 0x4000)

end Sys2Proof.Claims

/-- R329: `ctxop`, and the mover's steps as events. -/
def Sys2Proof.Claims.ContextMover : Prop :=
  (∀ (o : OpI) (s : State), Unpoisoned s [o.a] → number o = 0x10D → s.user = false →
    let old := s.cur.sys.nent <<< 8
    let v := s.x o.a
    Gives (.srd o) s ((s.writeX o.d old).retire 4) ∧
    (v = 0 → Gives (.swr o) s ((s.writeX o.d old).retire 4)) ∧
    (v = 1 → s.cur.frozen = true → Gives (.swr o) s ((s.ctxSave.writeX o.d old).retire 4)) ∧
    (v = 1 → s.cur.frozen = false → Gives (.swr o) s (s.trap 0x02 (sysWord o 1))) ∧
    (v = 2 → s.restoreBad = true → Gives (.swr o) s s.monitorFault) ∧
    (v = 2 → s.restoreBad = false → s.restoreRoom = true → Gives (.swr o) s ((s.ctxRestore.writeX o.d old).retire 4)) ∧
    (v = 2 → s.restoreBad = false → s.restoreRoom = false → Gives (.swr o) s s) ∧
    (3 ≤ v.toNat → Gives (.swr o) s (s.trap 0x02 (sysWord o 1)))) ∧
  EventDone .ctxopSave (fun s => s.cur.thr.live = true ∧ s.cur.frozen = true) (fun s u => u = s.ctxSave) ∧
  EventDone .ctxopRestore
    (fun s => s.cur.thr.live = true ∧ s.user = false ∧ s.cur.thr.saved = true ∧ s.restoreBad = false ∧ s.restoreRoom = true)
    (fun s u => u = s.ctxRestore) ∧
  EventDone .ctxopRestore (fun s => s.cur.thr.live = true ∧ s.user = false ∧ s.cur.thr.saved = true ∧ s.restoreBad = true)
    (fun s u => u = s.monitorFault) ∧
  ∀ s : State, s.ctxSave.cur.viq = [] ∧ s.ctxSave.cur.thr.saved = true ∧ s.ctxSave.cur.pc = s.cur.pc ∧
    s.ctxSave.cur.x = Vector.replicate 32 0 ∧ s.ctxSave.cur.fm = Vector.replicate 8 0 ∧ s.ctxSave.cur.m = Vector.replicate 16 0 ∧
    s.ctxSave.cur.v = Vector.replicate 32 VReg.start ∧ s.ctxSave.cur.ac = Vector.replicate 4 0 ∧
    s.ctxSave.cur.lp = Vector.replicate 8 ⟨0, 0, 0, 0⟩ ∧
    s.ctxSave.cur.u = { UserRegs.start with tid := s.cur.u.tid, coreid := s.cur.u.coreid, dieid := s.cur.u.dieid } ∧
    s.ctxSave.cur.sys.nent.toNat = s.cur.viq.length % 2 ^ 64

/-- R9, R221, R236, R262, R281, R327–R329: a save and then a restore of the same area bring back what is dirty; what is clean has its start value. The
units that the context held are with it as they were, its copies run on from their cursors, and its prefetch slots from their positions. -/
def Sys2Proof.Claims.SaveRestore : Prop :=
  ∀ s : State, Saveable s →
    let t := s.ctxSave.ctxRestore
    (∀ r : BitVec 5, vget (n := 5) t.cur.v r = if s.cur.u.vdirty.getLsbD r.toNat then vget (n := 5) s.cur.v r else VReg.start) ∧
    (∀ k : BitVec 4, vget (n := 4) t.cur.m k = if s.cur.u.xdirty.getLsbD k.toNat then vget (n := 4) s.cur.m k else 0) ∧
    (∀ k : BitVec 2, vget (n := 2) t.cur.ac k = if s.cur.u.xdirty.getLsbD (16 + k.toNat) then vget (n := 2) s.cur.ac k else 0) ∧
    t.cur.u.vtype = s.cur.u.vtype ∧ t.cur.u.vl = s.cur.u.vl ∧ t.cur.u.rlen = s.cur.u.rlen ∧ t.cur.u.vlmax = s.cur.u.vlmax ∧
    t.cur.u.vdirty = s.cur.u.vdirty ∧ t.cur.u.xdirty = s.cur.u.xdirty ∧ t.cur.u.cycle = s.cur.u.cycle ∧
    t.cur.u.instret = s.cur.u.instret ∧ t.cur.u.tdone = s.cur.u.tdone ∧ t.cur.u.terr = s.cur.u.terr ∧ t.cur.u.gangid = s.cur.u.gangid ∧
    t.cur.u.vcommit = s.cur.u.vcommit ∧ t.cur.sys.cause = s.cur.sys.cause ∧ t.cur.sys.tval = s.cur.sys.tval ∧
    t.cur.sys.vepc = s.cur.sys.vepc ∧ t.cur.x = Vector.replicate 32 0 ∧ t.cur.frozen = true ∧ t.cur.viq.length = s.cur.viq.length ∧
    (∀ (k : Nat) (e e' : Entry), s.cur.viq[k]? = some e → t.cur.viq[k]? = some e' → e'.xa = e.xa ∧ e'.xb = e.xb ∧ e'.fmt = e.fmt ∧ e'.addr = e.addr ∧
      e'.reissue = e.reissue) ∧
    (s.core.heldBy .keyed = some s.cur.id → t.core.keyed = if s.cur.u.xdirty.getLsbD 20 then s.core.keyed else []) ∧
    (s.core.heldBy .lanes = some s.cur.id → ∀ k, k < 64 * 4096 → t.core.lanes.read k = if s.cur.u.xdirty.getLsbD 21 then s.core.lanes.read k else 0) ∧
    (s.core.heldBy .topk = some s.cur.id → t.core.topk = if s.core.topk.k = 0 then TopK.start else s.core.topk) ∧
    (s.core.heldBy .tumbler = some s.cur.id → t.core.tumbler = s.core.tumbler) ∧
    (s.core.heldBy .hinge = some s.cur.id → t.core.hinge = s.core.hinge) ∧
    t.cur.tags = s.cur.tags ∧
    (∀ c ∈ s.core.copies, c.mine s = false → c ∈ t.core.copies) ∧
    (∀ c ∈ s.core.copies, c.mine s = true → ∃ d ∈ t.core.copies, d.ctx = s.cur.id ∧ d.tag = c.tag ∧ d.block = c.block ∧ d.cur = c.cur ∧ d.out = c.out ∧
      d.red = c.red ∧ d.phys = c.phys ∧ d.spill = c.spill ∧ d.flags = c.flags ∧ d.asid = c.asid ∧ d.ptbase = c.ptbase ∧ d.iaddr = c.iaddr) ∧
    (∀ p ∈ s.core.slots, p.mine s = false → p ∈ t.core.slots) ∧
    ∀ p ∈ s.core.slots, p.mine s = true → ∃ q ∈ t.core.slots, q.ctx = s.cur.id ∧ q.slot = p.slot ∧ q.desc = p.desc ∧ q.addr = p.addr ∧ q.lead = p.lead ∧
      q.cons = p.cons ∧ q.pos = p.pos ∧ q.arrived = p.pos ∧ q.ending = p.ending ∧ q.phys = p.phys ∧ q.asid = p.asid ∧ q.ptbase = p.ptbase

/-- R307, R323, R325, R334, R336, R338, R341, R342: pre-emption, kill, halt, breakpoint and resumption of a thread, and its trace. That RESUME after a
stop of REASON 4 goes on behind the EBREAK is the model's reading (log entry 25); so is what a freeze leaves of a queued entry: its batch's pins stay, and
`vstart` and `m15` name what has not performed (log entry 37). -/
def Obligations.ContextEvents : Prop :=
  EventDone .preemptionEvent
    (fun s => LiveUser s ∧ Interruptible s ∧ s.cur.sys.evKill = false ∧ NoStop s)
    (fun s u => u = (withEvents s false false s.cur.sys.evStop).takeTrap true none 0x40 0) ∧
  EventDone .preemptionEvent (fun s => s.cur.thr.live = true ∧ (s.user = false ∨ ¬ Interruptible s))
    (fun s u => u = withEvents s true s.cur.sys.evKill s.cur.sys.evStop) ∧
  EventDone .killEvent (fun s => LiveUser s ∧ Interruptible s)
    (fun s u => u = (withEvents s s.cur.sys.evPre false s.cur.sys.evStop).takeTrap true none 0x41 0) ∧
  EventDone .killEvent (fun s => s.cur.thr.live = true ∧ (s.user = false ∨ ¬ Interruptible s))
    (fun s u => u = withEvents s s.cur.sys.evPre true s.cur.sys.evStop) ∧
  EventDone .hostHalt
    (fun s => LiveUser s ∧ Interruptible s ∧ s.kden = true ∧ s.cur.sys.evKill = false ∧ (s.cur.thr.wait = .none → s.breakpoint = none))
    (fun s u => Stopped s u 5) ∧
  EventDone .hostHalt (fun s => s.kden = false) (fun s u => u = s) ∧
  EventDone .debugStopEvent
    (fun s => LiveUser s ∧ Interruptible s ∧ s.cur.sys.evKill = false ∧ s.cur.thr.wait = .none ∧ s.kden = true ∧
      s.cur.dbg.pass ≠ some s.cur.pc ∧ s.cur.half = false ∧
      ∃ k : Fin 4, s.cur.dbg.bp[k].getLsbD 63 = true ∧ s.cur.dbg.bp[k].setWidth 52 = s.cur.pc)
    (fun s u => Stopped s u 1) ∧
  EventDone .debugResume
    (fun s => s.cur.thr.live = true ∧ s.cur.thr.wait = .stop ∧ s.cur.sys.kill = false ∧ s.cur.sys.skipv = false)
    (fun s u => u.user = true ∧ u.cur.thr.wait = .none ∧ u.cur.x = s.cur.x ∧ u.cur.viq = s.cur.viq ∧ u.cur.frozen = false ∧ u.mem = s.mem ∧
      u.cur.dbg.pass = (if s.cur.dbg.stat.setWidth 8 = 1#8 then some (s.cur.sys.epc.setWidth 52) else s.cur.dbg.pass) ∧
      u.cur.pc = ((s.cur.sys.epc + if s.cur.dbg.stat.setWidth 8 = 4#8 then 4 else 0).setWidth 52 >>> 1) <<< 1) ∧
  (∀ time, EventDone (.traceSample · time)
    (fun s => LiveUser s ∧ s.cur.thr.wait = .none ∧ s.kden = true ∧ s.cur.dbg.ctl.extractLsb' 8 24 ≠ 0 ∧
      s.core.trace.length < 2048 ∧ s.core.loss = 0)
    (fun s u => u = { s with core := { s.core with trace := s.core.trace ++ [
      { time := time, addr := (match s.cur.viq with | e :: _ => e.addr | [] => s.cur.pc).setWidth 64,
        element := (match s.cur.viq with | e :: _ => e.vstart | [] => 0),
        place := s.cur.u.dieid.toNat * 64 + s.cur.u.coreid.toNat, ctx := s.cur.id, kind := 2, detail := 0,
        data := s.cur.u.instret }] } })) ∧
  ∀ (s : State) (r : TraceRec) (rest : List TraceRec), s.core.trace = r :: rest →
    let size := sinkWord s 1
    let head := sinkWord s 2
    let a := sinkWord s 0 + head % size
    ((head + 2 ^ 64 - sinkWord s 3) % 2 ^ 64 = size → Gives .traceBufferDrain s s) ∧
    ((head + 2 ^ 64 - sinkWord s 3) % 2 ^ 64 ≠ size → r.kind ≠ 0 →
      a + 32 ≤ s.dev.win.ktsink.toNat ∨ s.dev.win.ktsink.toNat + 40 ≤ a →
      ∃ t, Gives .traceBufferDrain s t ∧ t.core = { s.core with trace := rest } ∧ sinkWord t 2 = (head + 32) % 2 ^ 64 ∧
        sinkWord t 3 = sinkWord s 3 ∧ sinkWord t 4 = sinkWord s 4 ∧ t.mem.readVal a 8 = r.time.toNat ∧
        t.mem.readVal (a + 8) 8 = r.addr.toNat ∧ t.mem.readVal (a + 24) 8 = r.data.toNat)

/-- R17, R172, R174, R308: the head entry. One with no element effect completes; a run of it that ends does, a run that traps takes the trap, a
run of one element group goes on from its end; an entry whose words are no instruction is illegal at its turn (R329). -/
def Sys2Proof.Claims.HeadSteps : Prop :=
  (∀ (o : OpVa) (e : Entry) (rest : List Entry), vopOf e.code = some (vopVaddVv o) → e.vl ≤ e.first → e.reissue = false →
    ∀ i ∈ [fun c => Instr.viqEntryComplete ⟨c, .own 0⟩, fun c => .elementGroupIssue ⟨c, 0⟩],
      EventDone i (fun s => HeadIs s e rest) (fun s u => u = s.countRun (headDone (starting s e) e 0))) ∧
  (∀ (op : VOp) (e : Entry) (rest : List Entry), vopOf e.code = some op →
    (∀ (f : State → State) (fl : Word), EventDone (fun c => .viqEntryComplete ⟨c, .own 0⟩)
      (fun s => HeadIs s e rest ∧ op.run e e.total (starting s e) = .done (f s) fl ∧ (f s).cur.viq = e :: rest ∧ (f s).cur.thr.live = true)
      (fun s u => u = s.countRun (headDone (f s) e fl))) ∧
    (∀ (f : State → State) (code : BitVec 8) (tval : Word), EventDone .viqEntryTrap
      (fun s => HeadIs s e rest ∧ op.run e e.total (starting s e) = .trap (f s) code tval ∧ LiveUser (f s))
      (fun s u => u = s.countRun ((f s).takeTrap false (some (e.seq, e.addr)) code tval))) ∧
    (∀ (f : State → State) (fl : Word), EventDone (fun c => .elementGroupIssue ⟨c, 0⟩)
      (fun s => HeadIs s e rest ∧ op.run e (groupEnd e (starting s e)) (starting s e) = .part (f s) fl ∧ (f s).cur.viq = e :: rest ∧
        (f s).cur.thr.live = true)
      (fun s u => u = s.countRun (withQueue (f s) ({ e with flags := e.flags ||| fl, vstart := groupEnd e (starting s e) } :: rest))))) ∧
  ∀ (e : Entry) (rest : List Entry), vopOf e.code = none → ∀ i ∈ [Instr.viqEntryTrap, fun c => .elementGroupIssue ⟨c, 0⟩],
    EventDone i (fun s => HeadIs s e rest) (fun s u => u = s.countRun ((starting s e).takeTrap false (some (e.seq, e.addr)) 0x02 e.code.tval))

/-- R17, R174: an entry of the head's convoy that has nothing in common with it finishes before it, and waits for it to complete. -/
def Sys2Proof.Claims.OutOfOrder : Prop :=
  ∀ (op : VOp) (e h : Entry) (rest : List Entry), vopOf h.code = some op → h.conv = false → e.fin = false →
    ∀ (f : State → State) (fl : Word), EventDone (fun c => .viqEntryComplete ⟨c, .own 1⟩)
      (fun s => LanesOn s ∧ EntryFree s h ∧ s.cur.viq = e :: h :: rest ∧ e.independent h s = true ∧
        op.run h h.total (withQueue s (h :: e :: rest)) = .done (f s) fl ∧ (f s).cur.viq = h :: e :: rest ∧ (f s).cur.thr.live = true)
      (fun s u => u = s.countRun (withQueue (f s)
        (e :: { h with flags := h.flags ||| fl, fin := true, vstart := if (h.foot s).elt then h.total else h.vstart } :: rest)))

/-- R170, R172: quads at a convoy start, and the issue of the other context. -/
def Sys2Proof.Claims.QuadsAndIssue : Prop :=
  EventDone .convoyStart (fun s => LiveUser s ∧ s.cur.frozen = false) (fun s u => u = { s with core := { s.core with held := s.quadsMoved } }) ∧
  EventDone .convoyStart (fun s => s.cur.frozen = true) (fun s u => u = s) ∧
  ∀ (c : Bool) (s : State), (seenFrom c s).cur.thr.live = true → (seenFrom c s).cur.thr.wait = .none →
    Gives (.issueStarvationTimeout c) s { seenFrom c s with forced := true }

/-- R17, R170, R172, R174, R308: what the lanes and the issue of the other context do. -/
def Sys2Proof.Claims.LaneSteps : Prop := HeadSteps ∧ OutOfOrder ∧ QuadsAndIssue

/-- R171, R180–R198, R310: what ends a wait lets the parked instruction execute again; `WFI` retires. -/
def Sys2Proof.Claims.Wakes : Prop :=
  (∀ i ∈ [Instr.waitaWake, .barrierWaitWake, fun c => .gangWaitWake ⟨c, []⟩, .tagWaitWake, .msgrcvWake, fun c => .freeGangNumberWake ⟨c, 1, 0⟩],
    EventDone i (fun s => s.cur.thr.wait = .event) (fun s u => u = waiting s .none) ∧
    EventDone i (fun s => s.cur.thr.wait ≠ .event) (fun s u => u = s)) ∧
  EventDone .wfiWake
    (fun s => s.cur.thr.live = true ∧ s.user = false ∧ s.cur.thr.wait = .event ∧
      s.mem.readVal s.cur.pc.toNat 4 = (sctlWord ⟨0, 0⟩ 3).toNat) (fun s u => u = (waiting s .none).retire 4) ∧
  ∀ s : State, s.oth.id = !s.cur.id → ∃ t, Gives .heldAccessResume s t ∧
    (t.cur = if s.cur.thr.wait = .event then (waiting s .none).cur else s.cur) ∧
    (t.oth = if s.oth.thr.wait = .event then (waiting (other s) .none).cur else s.oth) ∧ t.core = s.core ∧ t.dev = s.dev ∧ t.mem = s.mem

/-- R194, R195: a member on another core joins the gang, so that the object counts it, and leaves it, so that the object counts its leave; the
leader's core sees the members' tiles and streams (R278). -/
def Sys2Proof.Claims.MatesOfAGang : Prop :=
  (∀ (c : Bool) (s : State) (o : MateArgs) (r : GangRec), s.dev.replay = none → s.gangRec o.gid = some r → r.obj = o.obj → r.size = o.size →
    r.size ≤ 4 → (∀ m ∈ s.core.mates, m.tid ≠ o.tid) →
    let n := s.mem.readVal o.obj 4
    0 < n → n < r.size →
    ∃ u, Gives (.gangWaitWake ⟨c, [o]⟩) s u ∧ u.mem.readVal o.obj 4 = n + 1 ∧ u.core.gangs = s.core.gangs ∧
      (∀ k, 4 ≤ k → u.mem.readVal (o.obj + k) 1 = s.mem.readVal (o.obj + k) 1) ∧ u.cur.x = s.cur.x ∧ u.cur.pc = s.cur.pc ∧
      (LiveUser s → s.cur.u.gangid = BitVec.ofNat 64 (16 * o.gid + (r.size - 1)) → 0 < o.gid → o.gid < 3 →
        ∃ m, u.core.mates = s.core.mates ++ [m] ∧ m.member = n ∧ m.tid = o.tid ∧ m.coreid = o.coreid ∧
          ∀ k : Fin 4, m.ac[k] = o.tiles.getD k 0)) ∧
  ∀ (c : Bool) (s : State) (gid n : Nat) (r : GangRec), s.dev.replay = none → s.gangRec gid = some r → r.size ≤ 4 → 0 < n →
    let left := s.mem.readVal (r.obj + 8) 4
    left + n + r.here.toNat ≤ s.mem.readVal r.obj 4 → left + n < r.size →
    ∃ u, Gives (.freeGangNumberWake ⟨c, gid, n⟩) s u ∧ u.mem.readVal (r.obj + 8) 4 = left + n ∧ u.core.gangs = s.core.gangs ∧
      u.mem.readVal r.obj 8 = s.mem.readVal r.obj 8

/-- R314, R315: a record enters the queue when there is room; RESUME lets the faulting item run again; DELIVER takes the trap of the
page's CODE. -/
def Obligations.FaultService : Prop :=
  (∀ (s : State) (r : FaultRec) (pre post : List FaultRec) (a : Nat), s.dev.recs = pre ++ r :: post → (∀ q ∈ pre, q.slot.isSome = true) →
    r.slot = none → r.source ≠ 7 → (seenFrom r.ctx s).fqSlot = some a →
    ∃ u, Gives .faultQueueAppend s (seenBack r.ctx s u) ∧ { r with slot := some a } ∈ u.dev.recs ∧
      u.fqWord 2 = ((seenFrom r.ctx s).fqWord 2 + 1) % 2 ^ 64 ∧ u.cur.pc = (seenFrom r.ctx s).cur.pc) ∧
  (∀ (s : State) (q : FaultRec) (a : Nat), s.dev.recs.find? (·.rid == q.rid) = some q → q.slot = some a →
    (let f := (seenFrom q.ctx s).cur.sys.fltq.toNat
     a + 0x38 ≤ f + 24 ∨ f + 32 ≤ a + 0x30) →
    ∃ t, Gives (.faultOutcomeResume q.rid) s t ∧ t.mem.readVal (a + 0x30) 8 = 1 ∧ (∀ k ∈ t.dev.recs, k.rid ≠ q.rid) ∧
      (s.cur.thr.wait = .record q.rid → t.cur.thr.wait = .none) ∧ (s.oth.thr.wait = .record q.rid → t.oth.thr.wait = .none) ∧
      (∀ e ∈ t.cur.viq, e.rid ≠ some q.rid) ∧ (∀ c ∈ t.core.copies, c.rid ≠ some q.rid) ∧ (∀ p ∈ t.core.slots, p.rid ≠ some q.rid) ∧
      t.cur.pc = s.cur.pc ∧ t.cur.x = s.cur.x ∧ t.cur.v = s.cur.v ∧ t.cur.m = s.cur.m) ∧
  ∀ (s : State) (q : FaultRec) (a : Nat) (p : RecPage) (code : BitVec 8), Claims.Answerable s q → q.slot = some a →
    q.pages = [p] → 1 ≤ p.code → p.code ≤ 4 → LiveUser s →
    let delivered := fun (t : State) => t.cur.sys.mode = .system ∧ t.cur.thr.wait = .none ∧
      t.cur.sys.cause.setWidth 8 = BitVec.ofNat 8 (6 + p.code) ∧ t.cur.sys.tval = BitVec.ofNat 64 (p.page * 2 ^ 16) ∧
      t.cur.x = s.cur.x ∧ ∀ k ∈ t.dev.recs, k.rid ≠ q.rid
    (q.source = 0 → s.cur.thr.wait = .record q.rid → (∀ e ∈ s.cur.viq, e.rid ≠ some q.rid) → q.tid = s.cur.u.tid →
      q.iaddr.setWidth 52 = s.cur.pc →
      ∃ t, Gives (.faultOutcomeDeliver q.rid code) s t ∧ delivered t ∧ t.cur.sys.cause.getLsbD 62 = false) ∧
    (q.source = 2 → ∀ e rest, s.cur.viq = e :: rest → e.rid = some q.rid → s.cur.thr.wait ≠ .stop →
      ∃ t, Gives (.faultOutcomeDeliver q.rid code) s t ∧ delivered t ∧ t.cur.sys.cause.getLsbD 62 = true ∧
        t.cur.sys.vepc = e.addr.setWidth 64)

/-! ## Engines, measurement, links, power, the host -/

namespace Sys2Proof.Claims

open Sys2Proof.Machine

/-- The lowest cause of an engine (R345). -/
def causeOf (b : BitVec 8) : Option Nat := (List.range 8).find? fun c => b.getLsbD c

/-- A cycle of a context: `cycle` while the thread is resident and not saved (R98), and its programmable counters (R346). -/
def CycleOf (c u : Ctx) (evs : List (BitVec 8)) : Prop :=
  u.u.cycle = (if c.thr.live = true ∧ c.thr.saved = false then c.u.cycle + 1 else c.u.cycle) ∧
  (∀ k : Fin 4, u.dbg.pmcnt[k] = c.dbg.pmcnt[k] +
    if c.thr.live = true ∧ c.thr.saved = false ∧ (c.dbg.pmsel[k].getLsbD (if c.sys.mode = .user then 8 else 9) = true) then
      (let e := c.dbg.pmsel[k].setWidth 8
       if e = 0x50#8 then 1 else if e = 0x51#8 ∨ e = 0x52#8 ∨ e = 0x53#8 ∨ 0x56 ≤ e.toNat then 0 else BitVec.ofNat 64 (evs.count e)) else 0) ∧
  u.pc = c.pc ∧ u.x = c.x ∧ u.v = c.v ∧ u.m = c.m ∧ u.sys = c.sys ∧ u.thr = c.thr ∧ u.viq = c.viq ∧ u.u.instret = c.u.instret

/-- The dies of links 0–1, 0–2, 1–3, 2–3 (R360). -/
def touches (l : BitVec 2) (d : Nat) : Prop :=
  l = 0 ∧ (d = 0 ∨ d = 1) ∨ l = 1 ∧ (d = 0 ∨ d = 2) ∨ l = 2 ∧ (d = 1 ∨ d = 3) ∨ l = 3 ∧ (d = 2 ∨ d = 3)

/-- Per-die numbers with that of one die changed. -/
def OnlyDie (old new : Vector Nat 4) (die : BitVec 2) (v : Nat) : Prop :=
  ∀ d : BitVec 2, new.toList.getD d.toNat 0 = if d = die then v else old.toList.getD d.toNat 0

/-- `s` with other link records, or other clock records. -/
def withLinks (s : State) (k : Links) : State := { s with dev := { s.dev with links := k } }
def withClocks (s : State) (c : Clocks) : State := { s with dev := { s.dev with clocks := c } }

/-- `u` is `s` but for link records and the vectors raised; `DIESTATE` that has changed raises vector 1 (R368). -/
def LinksBecome (s u : State) (k : Links) : Prop :=
  u = withLinks s k ∧ u.dev.dieState = s.dev.dieState ∨
  ∃ w, u = { withLinks s k with dev := { (withLinks s k).dev with win := w } } ∧ u.dev.dieState ≠ s.dev.dieState ∧
    w = { s.dev.win with raised := 1 :: s.dev.win.raised }

/-- The numbers of `new` are those of `old` and n. -/
def Adds (old new : List Nat) (n : Nat) : Prop := ∀ k, k ∈ new ↔ k = n ∨ k ∈ old

/-- A thread's place is gone: nothing runs, and the core holds nothing of it. -/
def Gone (t : State) : Prop :=
  t.cur.thr.live = false ∧ t.oth.thr.live = false ∧ t.core.copies = [] ∧ t.core.slots = [] ∧ t.core.saved = []

/-- No host reaches the device: every die is lost, or the modules of every die are down (R377). -/
def HostDead (s : State) : Prop := (∀ d, d < 4 → s.dev.dieLost d = true) ∨ ∀ d, d < 4 → d ∈ s.dev.links.modDown

/-- The device answers, and no engine holds a line. -/
structure Answering (s : State) : Prop where
  up : s.dev.pilot.held = false
  reached : ¬ HostDead s
  still : Still s

/-- n bytes from a on lie in the HBM of dies that are not lost, without poison. -/
def SoundHbm (s : State) (a n : Nat) : Prop :=
  0 < n ∧ a + n ≤ 2 ^ 40 ∧ (∀ x, a ≤ x → x < a + n → ∃ d, regionOf x = .hbm d ∧ s.dev.dieLost d = false) ∧ ∀ l ∈ s.bad, l * 128 + 128 ≤ a ∨ a + n ≤ l * 128

/-- An outside read: the answer is the bytes as they stand. -/
def ReadsOutside (i : Instr) (s : State) (a n : Nat) : Prop :=
  Gives i s { s with dev := { s.dev with reply := s.mem.readN a n, replyBad := false } }

/-- The home die records that the host may hold the lines of n bytes from a on, and whether it has written them (R364). -/
def Recorded (c : Caches) (a n : Nat) (written : Bool) : Prop := ∀ x, a ≤ x → x < a + n → ∃ h ∈ c.host, h.1 = x / 128 ∧ (written → h.2 = true)

/-- A read of the host: the lines may be in its caches from then on. -/
def ReadsByHost (i : Instr) (s : State) (a n : Nat) : Prop :=
  ∃ host, Gives i s { s with cache := { s.cache with host := host }, dev := { s.dev with reply := s.mem.readN a n, replyBad := false } } ∧
    Recorded { s.cache with host := host } a n false
def HostMayHold (i : Instr) (s : State) (a n : Nat) (written : Bool) : Prop := ∃ t, Gives i s t ∧ Recorded t.cache a n written

/-- Data that comes with a poison marker: the lines that it is written to are poisoned (R373). -/
def PoisonsOutside (i : Instr) (s : State) (a : Nat) (bs : List Byte) : Prop :=
  ∃ t, Gives i s t ∧ ∀ x, a ≤ x → x < a + bs.length → x / 128 ∈ t.bad

/-- An outside write: the bytes are in memory, and every other byte is as before. -/
def WritesOutside (i : Instr) (s : State) (a : Nat) (bs : List Byte) : Prop :=
  ∃ t, Gives i s t ∧ (∀ k b, bs[k]? = some b → t.mem.read (a + k) = b) ∧ (∀ x, x < a ∨ a + bs.length ≤ x → t.mem.read x = s.mem.read x) ∧
    t.cur.x = s.cur.x ∧ t.cur.pc = s.cur.pc ∧ t.core = s.core ∧ t.dev = s.dev

/-- The result of an outside atomic on n bytes (R183, R234); the order of minimum and maximum is signed, which is the model's reading
(log entry 31). -/
def outsideNew (op : RmwOp) (n old v : Nat) : Nat :=
  match op with
  | .add => (old + v) % 2 ^ (8 * n)
  | .swap => v
  | .and => old &&& v
  | .or => old ||| v
  | .min => if signedN n v < signedN n old then v else old
  | .max => if signedN n old < signedN n v then v else old
  | .cas e => if old = e.toNat % 2 ^ (8 * n) then v else old
  | .binc => if old < v then old + 1 else old

/-- An outside atomic: the answer is the old value, and memory holds the new one. -/
def AtomicOutside (i : Instr) (s : State) (a : Nat) (op : RmwOp) (wide : Bool) (v : Word) : Prop :=
  let n := if wide then 8 else 4
  a % n = 0 → SoundHbm s a 8 → ∃ t, Gives i s t ∧ t.dev.reply = leBytes n (s.mem.readVal a n) ∧ t.dev.replyBad = false ∧
    t.mem.readVal a n = outsideNew op n (s.mem.readVal a n) (v.toNat % 2 ^ (8 * n)) ∧
    (∀ x, x < a ∨ a + n ≤ x → t.mem.read x = s.mem.read x) ∧ t.cur.x = s.cur.x ∧ t.cur.pc = s.cur.pc ∧ t.core = s.core

end Sys2Proof.Claims

/-- R220, R256–R259, R316: a line issued, a line arrived, an element copied, a copy's end, a migration's end. -/
def Obligations.EngineSteps : Prop :=
  (∀ (s : State) (p : PfSlot) (k line : Nat) (l : Loc), s.core.slots.find? (·.slot == p.slot) = some p → p.ending = none →
    (Stream.ofBytes p.desc 0).find (fun q _ => q == p.pos) = some (k, line) → p.pos < p.cons + p.lead → s.linesOut < 4096 →
    slotTr (seenFrom p.ctx s) p (line * 128) .read = (.at l, seenFrom p.ctx s) →
    Gives (.prefetchLineIssue p.slot) s { s with core := { s.core with
      slots := s.core.slots.map fun q => if q.slot = p.slot then { p with pos := p.pos + 1, flight := p.flight ++ [l.prefetched] } else q } }) ∧
  (∀ (s : State) (p : PfSlot), s.core.slots.find? (·.slot == p.slot) = some p → p.arrived < p.pos →
    p.arrived + 1 < p.pos ∨ p.ending.isSome ∨ ((Stream.ofBytes p.desc 0).find fun q _ => q == p.pos).isSome →
    ∃ cache, Gives (.prefetchLineArrival p.slot) s { s with
      core := { s.core with
        slots := s.core.slots.map fun q => if q.slot = p.slot then { p with arrived := p.arrived + 1, flight := p.flight.drop 1 } else q }
      cache := cache }) ∧
  (∀ (s : State) (c : CopyJob) (a b : Nat) (ma mb : MemAttr), s.core.copies.find? (·.slot == c.slot) = some c → c.rid = none → c.red = false →
    ctlComp c.dst.ctl = false → c.cur < c.src.elems → c.lines = [] → s.dev.replay = none →
    let v := seenFrom c.ctx s
    let n := c.src.esz
    let x := (c.src.addr c.cur).toNat
    let y := (c.dst.addr c.cur).toNat
    c.ready v = true → b / 128 ∉ v.unread c → 0 < n → x % 128 + n ≤ 128 → y % 128 + n ≤ 128 → a % 128 = x % 128 →
    copyTr (v.before c.slot) c x .read = (.at (.mem a ma), v.before c.slot) → copyTr (v.before c.slot) c y .write = (.at (.mem b mb), v.before c.slot) →
    v.badLine a n = none →
    ∃ u, Gives (.copyEngineRun c.slot 1) s (seenBack c.ctx s u) ∧ u.mem.readN b n = s.mem.readN a n ∧
      (∀ z, z < b ∨ b + n ≤ z → u.mem.read z = s.mem.read z) ∧ u.cur.x = v.cur.x ∧ u.cur.pc = v.cur.pc ∧
      ∃ c' ∈ u.core.copies, c'.slot = c.slot ∧ c'.cur = c.cur + 1 ∧ c'.block = c.block ∧ c'.tag = c.tag) ∧
  (∀ (s : State) (c : CopyJob), s.core.copies.find? (·.slot == c.slot) = some c → c.rid = none → c.cur = c.src.elems → c.spill = false →
    ctlComp c.dst.ctl = false → c.tag < 64 → c.drained = false → (seenFrom c.ctx s).cur.viq = [] →
    let v := seenFrom c.ctx s
    Gives (.copyComplete c.slot) s (seenBack c.ctx s (tagged { v with core := { v.core with
        copies := v.core.copies.filter fun k => k.slot != c.slot } } (BitVec.ofNat 6 c.tag)
      (BitVec.ofNat 64 (2 * 2 ^ 60 + c.flags.toNat % 2 ^ 6 * 2 ^ 48 + c.cur * c.src.esz % 2 ^ 48)) true false))) ∧
  ∀ (s : State) (i : Nat) (g : MigEntry), s.dev.mig[i]? = some g → 512 ≤ g.prog → g.tag < 64 → g.newFrame % 65536 = 0 → g.newFrame < 2 ^ 52 →
    s.cur.thr.saved = false → s.oth.thr.saved = false → (∀ c ∈ s.core.saved, c.u.tid ≠ g.tid) →
    ∃ t, Gives (.migrationComplete i) s t ∧
      (let e := BitVec.ofNat 64 (t.mem.readVal g.leafAddr 8)
       let old := BitVec.ofNat 64 (s.mem.readVal g.leafAddr 8)
       e.getLsbD 7 = false ∧ pteFrame e = g.newFrame ∧ ∀ k, k < 7 ∨ 8 ≤ k ∧ k < 16 → e.getLsbD k = old.getLsbD k) ∧
      (let issuer (c : Ctx) : Prop := c.thr.live = true ∧ c.u.tid = g.tid
       let marked (c d : Ctx) : Prop := d.u.tdone.getLsbD g.tag = true ∧ d.u.terr.getLsbD g.tag = false ∧
         d.tags.toList.getD g.tag 0 = 0x2000000000010000 ∧ ∀ k, k < 64 → k ≠ g.tag → d.u.tdone.getLsbD k = c.u.tdone.getLsbD k
       (issuer s.cur → marked s.cur t.cur ∧ t.oth = s.oth) ∧ (¬ issuer s.cur → issuer s.oth → marked s.oth t.oth ∧ t.cur = s.cur) ∧
       (¬ issuer s.cur → ¬ issuer s.oth → t.cur = s.cur ∧ t.oth = s.oth)) ∧
      (∀ k ∈ t.dev.mig, k.page ≠ g.page ∨ k.asid ≠ g.asid) ∧
      ∀ k ∈ t.core.tlb1 ++ t.core.tlb2, k.hits g.asid (g.page * 2 ^ 16) = false

/-- R98, R320, R345–R348, R402, R403, R405: a clock cycle, the pair table, a bit error. What is measured stands still in no power state; a cycle of an
idle or gated cluster moves nothing else. Launches P and Q on the two contexts share the leakage, and each die's energy by the lines that they moved; whose
the odd unit of the leakage is, and that a share is rounded down, is the model's choice (log entry 35). -/
def Obligations.Measurement : Prop :=
  (∀ (o : CycleArgs) (s : State), ∃ t v ls, Gives (.coreCycle o) s t ∧ t.core.energy = s.core.energy + o.energy.cluster ∧ t.mem = s.mem ∧
    t.dev = { s.dev with clocks := { s.dev.clocks with point := v }, disp := { s.dev.disp with launches := ls } } ∧
    (o.point = none ∨ s.dev.pilot.held = true → v = s.dev.clocks.point) ∧
    (∀ d p, o.point = some (d, p) → s.dev.pilot.held = false → OnlyDie s.dev.clocks.point v d p.val) ∧
    (∀ (p q : Launch) (n a b : Nat), s.dev.disp.launches = [p, q] → p.id ≠ q.id → s.cur.thr.live = true → s.oth.thr.live = true →
      s.cur.thr.launch = p.id → s.oth.thr.launch = q.id → o.energy.work = [] → o.energy.dies = [⟨n, [(p.id, a), (q.id, b)]⟩] →
      ls = [{ p with energy := p.energy + ((o.energy.leak - o.energy.leak / 2) + n * a / (a + b)) },
        { q with energy := q.energy + (o.energy.leak / 2 + n * b / (a + b)) }]) ∧
    (s.core.power ≠ .run → t.cur = s.cur ∧ t.oth = s.oth ∧ t.core = { s.core with energy := s.core.energy + o.energy.cluster }) ∧
    (s.core.power = .run → CycleOf s.cur t.cur (if s.cur.id then o.ev1 else o.ev0) ∧
      CycleOf s.oth t.oth (if s.oth.id then o.ev1 else o.ev0) ∧
      (∀ e c, e < 10 → c < 8 → t.core.stalls.toList.getD (8 * e + c) 0 = s.core.stalls.toList.getD (8 * e + c) 0 +
        if causeOf (o.causes.getD e 0) = some c then 1 else 0) ∧
      (o.charges = [] → t.core.pairs = s.core.pairs) ∧
      (∀ g, o.charges = [g] → s.core.pairs.length < 32 → (∀ p ∈ s.core.pairs, p.prod ≠ g.prod ∨ p.cons ≠ g.cons) → s.core.shadow = [] →
        t.core.pairs = s.core.pairs ++ [⟨g.prod, g.cons, 1, g.lag, g.lag⟩]))) ∧
  (∀ s : State, Gives .pairTableClear s { s with core := { s.core with pairs := [], shadow := [] } }) ∧
  (∀ (item : EccItem) (s : State), Gives (.eccError ⟨true, item⟩) s { s with core := { s.core with corrected := s.core.corrected + 1 } }) ∧
  (∀ (a : Nat) (s : State), ∃ t, Gives (.eccError ⟨false, .line a⟩) s t ∧ (∀ l, l ∈ t.bad ↔ l = a / 128 ∨ l ∈ s.bad) ∧ t.mem = s.mem ∧ t.cur = s.cur) ∧
  (∀ (k : Nat) (s : State), ∃ t, Gives (.eccError ⟨false, .spad k⟩) s t ∧ (∀ l, l ∈ t.core.spadBad ↔ l = k / 128 ∨ l ∈ s.core.spadBad) ∧
    t.core.spad = s.core.spad ∧ t.mem = s.mem ∧ t.cur = s.cur) ∧
  (∀ (c : Bool) (r : BitVec 5) (s : State), r ≠ 0 → ∃ u, Gives (.eccError ⟨false, .x c r⟩) s (seenBack c s u) ∧
    u.xPoisoned [r] = true ∧ u.cur.x = (seenFrom c s).cur.x ∧ ∀ q, q ≠ r → u.xPoisoned [q] = (seenFrom c s).xPoisoned [q]) ∧
  ∀ (c : Bool) (r : BitVec 5) (s : State), ∃ u, Gives (.eccError ⟨false, .v c r⟩) s (seenBack c s u) ∧ u.cur.v = (seenFrom c s).cur.v ∧
    ∀ k, k < 32 → u.cur.poison.v.getLsbD k = ((seenFrom c s).cur.poison.v.getLsbD k || decide (k = r.toNat))

/-- R360–R362, R369, R403: the die-to-die links, the modules, the ports, the clock points. -/
def Obligations.LinksAndClocks : Prop :=
  (∀ (die : BitVec 2) (s : State),
    (∀ cap : Fin 9, ∃ v, Gives (.throttle die cap) s (withClocks s { s.dev.clocks with cap := v }) ∧ OnlyDie s.dev.clocks.cap v die cap.val) ∧
    (∃ v, Gives (.thermalStepDown die) s (withClocks s { s.dev.clocks with heat := v }) ∧
      OnlyDie s.dev.clocks.heat v die (min 8 (s.dev.clocks.heat.toList.getD die.toNat 0 + 1))) ∧
    (∃ u n, Gives (.ucieModuleDown die) s u ∧ Adds s.dev.links.modDown n die.toNat ∧ LinksBecome s u { s.dev.links with modDown := n }) ∧
    (∃ n, Gives (.ucieWidthDegrade die) s (withLinks s { s.dev.links with narrow := n }) ∧ Adds s.dev.links.narrow n die.toNat) ∧
    (∃ v, Gives (.ucieLaneRepair die) s (withLinks s { s.dev.links with repairs := v }) ∧
      OnlyDie s.dev.links.repairs v die (s.dev.links.repairs.toList.getD die.toNat 0 + 1)) ∧
    (die.toNat ∉ s.dev.links.modDown →
      ∃ n, Gives (.ucieL1Entry die) s (withLinks s { s.dev.links with asleep := n }) ∧ Adds s.dev.links.asleep n die.toNat) ∧
    (∃ n, Gives (.ucieL1Exit die) s (withLinks s { s.dev.links with asleep := n }) ∧ ∀ k, k ∈ n ↔ k ∈ s.dev.links.asleep ∧ k ≠ die.toNat)) ∧
  (∀ (l : BitVec 2) (s : State),
    let k := s.dev.links
    (∀ back again : Bool,
      let at_ := 2 * l.toNat + back.toNat
      let n := if again then k.fails.toList.getD at_ 0 + 1 else 1
      ∃ v r, Gives (.linkFlitCrcFail ⟨l, back, again⟩) s (withLinks s { k with fails := v, retrain := r }) ∧
        (∀ j : Fin 8, v[j] = if j.val = at_ then n else k.fails[j]) ∧ (n < 16 → r = k.retrain) ∧ (16 ≤ n → Adds k.retrain r l.toNat)) ∧
    (l.toNat ∉ k.retrain → Gives (.linkRetrain l) s s ∧ Gives (.linkDown l) s s) ∧
    (l.toNat ∈ k.retrain → ∃ r, (∀ j, j ∈ r ↔ j ∈ k.retrain ∧ j ≠ l.toNat) ∧
      (∃ v, Gives (.linkRetrain l) s (withLinks s { k with fails := v, retrain := r }) ∧
        ∀ j : Fin 8, v[j] = if j.val / 2 = l.toNat then 0 else k.fails[j]) ∧
      (k.down = [] → ∃ u, Gives (.linkDown l) s u ∧ LinksBecome s u { k with down := [l.toNat], retrain := r }) ∧
      (∀ m d, m ≠ l → touches l d → touches m d → m.toNat ∈ k.down → ∃ u, Gives (.linkDown l) s u ∧ u.dev.dieLost d = true))) ∧
  ∀ (port : Fin 12) (s : State), ∃ u n, Gives (.ualinkPortDown port) s u ∧ Adds s.dev.links.portDown n port.val ∧
    LinksBecome s u { s.dev.links with portDown := n }

/-- R205, R322, R344, R361, R376, R402–R404: an idle and a gated cluster; the loss of a die. That gating empties both TLBs and keeps the rest of the core,
and that `CLUSTER_GATE` does nothing while trace records are left, is the model's reading (log entry 35): R402 names core stores and bank roles. -/
def Obligations.PowerAndLoss : Prop :=
  (∀ s : State, (let free (c : Ctx) : Prop := c.thr.live = false ∧ c.thr.ended = none
      s.core.power = .run → free s.cur → free s.oth → (∀ r ∈ s.dev.others, r.die ≠ s.die ∨ r.core / 4 ≠ s.coreNo / 4) →
      Gives .clusterIdleEntry s { s with core := { s.core with power := .idle } }) ∧
    (s.core.power = .idle → s.core.copies = [] → s.core.slots = [] → s.core.drains = [] → s.dev.recs = [] → s.core.saved = [] →
      let off (c : CoreRes) : CoreRes := { c with
        power := .gated, banks := List.replicate 24 0 ++ List.replicate 16 1, spad := [], spadBad := [], owner := none,
        tlb1 := [], tlb2 := [] }
      (s.core.trace = [] → ∃ cache, Gives .clusterGate s { s with core := off s.core, cache := cache }) ∧
      (s.core.trace ≠ [] → Gives .clusterGate s s) ∧
      ∃ n cache, Gives .traceGatingDrainTimeout s { s with core := { off s.core with trace := [], loss := n }, cache := cache } ∧
        ((∀ r ∈ s.core.trace, r.kind ≠ 0) → n = s.core.loss + s.core.trace.length))) ∧
  (∀ (die : BitVec 2) (s : State), ∀ i ∈ [Instr.dielost die, .dieAnswerTimeout die],
    (s.dev.dieLost die.toNat = true → Gives i s s) ∧
    (s.dev.dieLost die.toNat = false → ∃ t, Gives i s t ∧ t.dev.lost = die.toNat :: s.dev.lost ∧
      (s.dev.dieState.getLsbD (12 + die.toNat) = false → 1 ∈ t.dev.win.raised) ∧
      (s.die ≠ die.toNat → (∀ r ∈ s.dev.others, r.die ≠ die.toNat) →
        (∀ b ∈ s.cache.below, regionOf (b.line * 128) ≠ .hbm die.toNat) →
        t.cur = s.cur ∧ t.oth = s.oth ∧ t.core = s.core ∧ t.mem = s.mem) ∧ (s.die = die.toNat → Gone t))) ∧
  ∀ s : State, ∃ t, Gives .thermalShutdown s t ∧ t.dev.pilot.held = true ∧
    t.dev.disp.ready = false ∧ (∀ d, d < 4 → t.dev.dieLost d = true) ∧ Gone t

/-- R234, R333, R363, R364, R366–R370, R377: the host and peers; nothing answers while the dies are held in reset (R399), nor the host when its link or
every die is gone. -/
def Obligations.OutsideAccess : Prop :=
  (∀ (s : State) (a n : Nat) (bs : List Byte) (op : RmwOp) (w : Bool) (v : Word),
    (s.dev.pilot.held = true ∨ HostDead s →
      ∀ i ∈ [Instr.hostCxlMemRead a n, .hostCxlMemWrite a ⟨bs, w⟩, .hostAtomic a op w v, .hostSnoop ⟨a, none⟩, .hostSnoop ⟨a, some ⟨bs, w⟩⟩,
        .controlWindowWrite a bs, .kwcmdUnlock, .kwcmdLock], Gives i s s) ∧
    (s.dev.pilot.held = true → ∀ i ∈ [Instr.peerRequest (.read a n), .peerRequest (.write a bs w), .peerRequest (.rmw a op w v)], Gives i s s)) ∧
  (∀ (s : State) (a n : Nat) (bs : List Byte) (op : RmwOp) (w : Bool) (v : Word), Answering s →
    (SoundHbm s a n → ReadsByHost (.hostCxlMemRead a n) s a n) ∧
    (SoundHbm s a bs.length → WritesOutside (.hostCxlMemWrite a ⟨bs, false⟩) s a bs ∧
      PoisonsOutside (.hostCxlMemWrite a ⟨bs, true⟩) s a bs ∧ HostMayHold (.hostCxlMemWrite a ⟨bs, w⟩) s a bs.length true) ∧
    AtomicOutside (.hostAtomic a op w v) s a op w v ∧
    (0x100000000000 ≤ a → a < 0x180000000000 → a / 128 ∉ s.bad → ReadsOutside (.hostSnoop ⟨a, none⟩) s (a / 128 * 128) 128) ∧
    (0x100000000000 ≤ a → a < 0x180000000000 → bs.length = 128 → ∃ t, Gives (.hostSnoop ⟨a, some ⟨bs, w⟩⟩) s t ∧ t.cache.onDie (a / 128) = false ∧
      t.mem.readN (a / 128 * 128) 128 = bs ∧ (∀ x, x / 128 ≠ a / 128 → t.mem.read x = s.mem.read x) ∧ t.bad.contains (a / 128) = w) ∧
    (s.dev.ualId.isSome → (∃ p, p < 12 ∧ p ∉ s.dev.links.portDown) →
      (8 ≤ n → n ≤ 128 → SoundHbm s a n → ReadsOutside (.peerRequest (.read a n)) s a n) ∧
      (8 ≤ bs.length → bs.length ≤ 128 → SoundHbm s a bs.length → WritesOutside (.peerRequest (.write a bs false)) s a bs ∧ PoisonsOutside (.peerRequest (.write a bs true)) s a bs) ∧
      AtomicOutside (.peerRequest (.rmw a op w v)) s a op w v ∧
      ∀ (red : Nat) (fmt : Tag), redFormat red fmt bs.length = true → SoundHbm s a bs.length →
        ∃ t, Gives (.peerRequest (.combine a red fmt bs false)) s t ∧
          t.mem.readVal a bs.length = (combine red fmt (8 * bs.length) (s.mem.readVal a bs.length) (Memory.leVal bs)).1 % 2 ^ (8 * bs.length) ∧
          ∀ x, x < a ∨ a + bs.length ≤ x → t.mem.read x = s.mem.read x)) ∧
  (∀ (s : State) (id : BitVec 10) (phizon refuses : Bool) (ports : List (Fin 12)), Gives (.peerRequest (.present id phizon refuses ports)) s
    { s with dev := { s.dev with
      peers := ⟨id.toNat, phizon, refuses, ports.map (·.val)⟩ :: s.dev.peers.filter fun q => q.id != id.toNat } }) ∧
  (∀ (s : State) (v : Word), s.dev.pilot.held = false → ¬ HostDead s →
    let win (w : Window) : State := { s with dev := { s.dev with win := w } }
    let w := s.dev.win
    (∀ i : Nat → List Byte → Instr, i = Instr.controlWindowWrite ∨ i = (fun o bs => .hostCxlMemWrite (0x10000000000 + o) ⟨bs, false⟩) →
      Gives (i 0x18 (leBytes 8 v.toNat)) s (win { w with requests := w.requests ++ [v] }) ∧
      Gives (i 0x20 (leBytes 8 v.toNat)) s (win { w with ktsink := v }) ∧
      Gives (i 0x100 (leBytes 8 v.toNat)) s (win { w with kwAsid := v &&& 0xFFFF }) ∧
      Gives (i 0x108 (leBytes 8 2)) s (win { w with unlocked := none })) ∧
    (∀ q ∈ [(0x10, s.dev.dieState), (0x20, w.ktsink), (0x100, w.kwAsid), (0x110, w.kwstat)],
      Gives (.hostCxlMemRead (0x10000000000 + q.1) 8) s { s with dev := { s.dev with reply := leBytes 8 q.2.toNat, replyBad := false } }) ∧
    Gives .kwcmdLock s (win { w with unlocked := none }) ∧
    ∀ i ∈ [Instr.kwcmdUnlock, .controlWindowWrite 0x108 (leBytes 8 1)],
      (8 ≤ w.fails → Gives i s s) ∧
      (w.fails < 8 → Config.sm3 w.kwKey = s.dev.pilot.digest → Gives i s (win { w with unlocked := some (w.kwAsid.toNat % 2 ^ 16) })) ∧
      (w.fails < 8 → Config.sm3 w.kwKey ≠ s.dev.pilot.digest → Gives i s (win { w with
        fails := w.fails + 1, raised := if w.fails = 7 then 2 :: w.raised else w.raised }))) ∧
  (∀ s : State, HostDead s → Gives .lstatRead s s) ∧
  ∀ s : State, ¬ HostDead s → ∃ v : Word, Gives .lstatRead s { s with dev := { s.dev with
      reply := leBytes 8 v.toNat, replyBad := false, disp := { s.dev.disp with badDone := false } } } ∧
    v.getLsbD 63 = s.dev.disp.corrupt ∧ v.getLsbD 62 = s.dev.disp.listLost ∧ v.getLsbD 61 = s.dev.disp.badDone ∧
    (s.dev.disp.record % 128 = 0 → s.dev.disp.record < 2 ^ 52 → (v.setWidth 52).toNat = s.dev.disp.record)

/-! ## The dispatcher, replay, the translator, Pilot -/

namespace Sys2Proof.Claims

open Sys2Proof.Machine

/-- `s` with another dispatcher, another store, another Pilot. -/
def withDisp (s : State) (d : Dispatcher) : State := { s with dev := { s.dev with disp := d } }
def withStore (s : State) (t : TransStore) : State := { s with dev := { s.dev with store := t } }
def withPilot (s : State) (p : Pilot) : State := { s with dev := { s.dev with pilot := p } }

/-- Pilot answers bs, and nothing else happens. -/
abbrev Says (i : Instr) (s : State) (bs : List Byte) : Prop := Gives i s (withPilot s { s.dev.pilot with reply := bs })

/-- A thread at its start on the current context (R7, R8, R22). -/
structure Started (u : State) (l : Launch) (k : Nat) (o : PlaceArgs) : Prop where
  pc : u.cur.pc = l.entry.setWidth 52
  args : u.x 10 = l.args ∧ u.x 11 = BitVec.ofNat 64 k ∧ u.x 2 = ((o.sp + l.stack) &&& ~~~15#64) ∧ u.x 3 = l.data
  rest : ∀ r : BitVec 5, r ≠ 2 → r ≠ 3 → r ≠ 10 → r ≠ 11 → u.x r = 0
  live : u.cur.thr.live = true ∧ u.cur.thr.wait = .none ∧ u.user = true ∧ u.cur.viq = [] ∧ u.cur.half = false
  space : u.cur.sys.asid = BitVec.ofNat 64 l.asid ∧ u.cur.sys.ptbase = l.ptbase ∧ u.cur.sys.prio = BitVec.ofNat 64 l.prio
  ids : u.cur.u.tid = o.tid ∧ u.cur.thr.launch = l.id ∧ u.cur.thr.lot = k ∧ u.cur.thr.ranges = l.ranges k
  clear : u.cur.u.vdirty = 0 ∧ u.cur.u.xdirty = 0 ∧ u.cur.u.vl = 0 ∧ u.cur.u.gangid = 0
  owner : u.core.owner = some l.asid

/-- No launch waits for its completion word to be written. -/
def NoneFinished (s : State) : Prop := ∀ j ∈ s.dev.disp.launches, j.ok + j.failed < j.lots ∨ j.replay = true

/-- The dispatcher can place lots: it is not held, no lot is to be counted as lost (R322), no launch is to be finished. -/
structure Placing (s : State) : Prop where
  up : s.dev.pilot.held = false
  alive : s.deadLot = none
  finished : NoneFinished s

/-- A place on another core that lot k of the launch may take. -/
def FreePlace (s : State) (l : Launch) (k : Nat) (o : PlaceArgs) : Prop :=
  s.fitsAt l k o.die.toNat o.core.toNat = true ∧ s.takenAt o.die.toNat o.core.toNat o.ctx = false

/-- What the dispatcher knows of a thread on another core. -/
def remoteOf (l : Launch) (k born : Nat) (o : PlaceArgs) : Remote :=
  ⟨o.tid, o.die.toNat, o.core.toNat, o.ctx, l.asid, l.id, k, born, []⟩

/-- No thread occupies the current context. -/
def FreeHere (s : State) : Prop := s.cur.thr.live = false ∧ s.cur.thr.ended = none

/-- The cluster is free for a replay (R350): its cores hold no thread, and the core has no old thread, copy or prefetch. -/
structure ClusterFree (s : State) : Prop where
  here : FreeHere s
  other : FreeHere (other s)
  rest : s.core.drains = [] ∧ s.core.copies = [] ∧ s.core.slots = []
  away : ∀ r ∈ s.dev.others, r.die ≠ s.die ∨ r.core / 4 ≠ s.coreNo / 4

/-- A launch with one more lot counted (R167): with a cooperative level, FAILED once another lot has failed (R323). -/
def counted (l : Launch) (failed : Bool) : Launch :=
  let f := failed ∨ (l.coop = true ∧ 0 < l.failed)
  { l with
    ok := if f then l.ok else l.ok + 1
    failed := if f then l.failed + 1 else l.failed }

/-- After a reset: every die is held, nothing runs, and no launch, record, migration or loss is left (R404). -/
structure ResetState (s t : State) : Prop where
  held : t.dev.pilot.held = true
  gone : Gone t
  regs : ∀ r, t.x r = 0
  core : t.core = CoreRes.reset
  dev : t.dev.recs = [] ∧ t.dev.mig = [] ∧ t.dev.lost = [] ∧ t.dev.ualId = none ∧ t.dev.disp.ready = false ∧ t.dev.disp.launches = [] ∧
    t.dev.links = Links.reset
  win : { t.dev.win with raised := [], fails := 0 } = Window.reset ∧
    t.dev.win.raised = if t.dev.dieState = s.dev.dieState then [] else [1]
  kept : { t.dev.pilot with log := [] } = { s.dev.pilot with log := [], held := true } ∧ t.dev.store.blocks.length = s.dev.store.blocks.length

end Sys2Proof.Claims

/-- R164–R167, R377: the dispatcher at the list: one on a lost die, nothing linked, a bad NEXT, an accepted record, a refused one. -/
def Sys2Proof.Claims.LaunchTake : Prop :=
  ∀ (s : State) (d : Nat), let q := s.dev.disp
    let next := s.mem.readVal q.cursor 8
    let lost (a : Nat) : Prop := s.listLost a = true ∧ LogEntry.launchLost a ∉ s.dev.pilot.log →
      ∃ t, Gives (.launchTake none) s t ∧ t.dev.disp = { q with listLost := true } ∧ t.dev.pilot.log = s.dev.pilot.log ++ [.launchLost a] ∧ t.mem = s.mem
    q.ready = true → q.corrupt = false → lost q.cursor ∧ (s.listLost q.cursor = false → s.badLine q.cursor 8 = none →
    (next = 0 → Gives (.launchTake none) s s) ∧
    (next ≠ 0 → next % 128 ≠ 0 ∨ (∀ e, regionOf next ≠ .hbm e) → ∃ w, Gives (.launchTake none) s (let t := withDisp s { q with corrupt := true, record := q.cursor }
      { t with dev := { t.dev with win := { s.dev.win with raised := w } } }) ∧ w = 0 :: s.dev.win.raised) ∧
    (next ≠ 0 → next % 128 = 0 → regionOf next = .hbm d → lost next ∧ (s.listLost next = false → s.badLine next 128 = none →
      let r := readLaunch s next
      let s0 := withDisp s { q with cursor := next }
      ∀ sp, q.spaces.find? (fun p => p.1 == r.asid.toNat % 2 ^ 16) = some sp → ∀ loc s1 s2, doneLoc sp r.doneAddr s0 = (.at loc, s1) →
      (∀ l, checkLaunch sp r s1 = (.ok l, s2) → l.lots ≠ 0 → l.galys = none →
        Gives (.launchTake none) s (withDisp s2 { s2.dev.disp with
          launches := s2.dev.disp.launches ++ [l], nextId := s2.dev.disp.nextId + 1 })) ∧
      (∀ code a m, checkLaunch sp r s1 = (.error (some code), s2) → code < 128 → doneLoc sp r.doneAddr s2 = (.at (.mem a m), s2) →
        ∃ t, Gives (.launchTake none) s t ∧ t.mem.readVal a 8 = 2 ^ 63 ∧ t.mem.readVal (a + 8) 8 = code * 2 ^ 56 ∧
          t.dev.disp = s2.dev.disp ∧ ∀ x, x < a ∨ a + 16 ≤ x → t.mem.read x = s2.mem.read x))))

/-- R22, R162, R166, R168, R173, R325: lots are placed one at a time, pre-empted threads come back, the next lot runs ahead. -/
def Sys2Proof.Claims.SingleLots : Prop :=
  (∀ (s : State) (c : Bool) (o : PlaceArgs) (l : Launch) (k : Nat), o.here = some c →
    let v := seenFrom c s
    bestLot v.fitsAlone s.dev.disp.launches none = some (l, k) →
    (Placing s → FreeHere v → v.resumable = none → ∃ u, Gives (.lotPlace [o]) s (seenBack c s u) ∧ Started u l k o) ∧
    (s.dev.pilot.held = false → v.cur.thr.ended = some false → l.asid = v.cur.sys.asid.toNat ∨ v.cur.viq = [] →
      gangGid v.cur.u.gangid = 0 → (∀ d, v.resumable = some d → v.prioOf d < l.prio) →
      ∃ u, Gives (.nextLotRunahead o) s (seenBack c s u) ∧ Started u l k o ∧
        ∃ d ∈ u.core.drains, d.u.tid = v.cur.u.tid ∧ d.id = v.cur.id ∧ d.viq = v.cur.viq ∧ d.thr.launch = v.cur.thr.launch ∧
          d.thr.lot = v.cur.thr.lot ∧ d.thr.ended = some false)) ∧
  (∀ (s : State) (c : Bool) (o : PlaceArgs) (k : Ctx), o.here = some c → Placing s →
    let v := seenFrom c s
    FreeHere v → bestLot v.fitsAlone s.dev.disp.launches none = none → v.resumable = some k →
    ∃ u, Gives (.lotPlace [o]) s (seenBack c s u) ∧ u.cur = k) ∧
  ∀ (s : State) (o : PlaceArgs) (l : Launch) (k : Nat), o.here = none → Placing s →
    s.takenAt o.die.toNat o.core.toNat o.ctx = false →
    bestLot (fun l k => l.single && s.fitsAt l k o.die.toNat o.core.toNat) s.dev.disp.launches none = some (l, k) →
    ∃ t, Gives (.lotPlace [o]) s t ∧ t.dev.others = s.dev.others ++ [remoteOf l k s.dev.disp.placed o] ∧ t.cur = s.cur ∧ t.oth = s.oth ∧
      t.dev.disp.launches = s.dev.disp.launches.map fun j => if j.id = l.id then { j with waiting := dropLot j.waiting k } else j

/-- R169, R175: the lots of a cooperative launch start all at once, or none of them; here on other cores. -/
def Sys2Proof.Claims.CooperativeLots : Prop :=
  ∀ (s : State) (os : List PlaceArgs) (l : Launch), Placing s → s.dev.disp.launches = [l] → l.startable = true → l.coop = true →
    2 ≤ l.lots → l.waiting = [(0, l.lots)] → os.length = l.lots → (∀ o ∈ os, o.here = none) →
    (l.gangShaped = true → oneCluster (os.map fun o => (o.die.toNat, o.core.toNat)) = true) →
    ((os.map fun o => (o.die, o.core, o.ctx)).Nodup → (∀ (i : Nat) (o : PlaceArgs), os[i]? = some o → FreePlace s l i o) →
      ∃ t, Gives (.lotPlace os) s t ∧ t.dev.others = s.dev.others ++ os.mapIdx (fun i o => remoteOf l i (s.dev.disp.placed + i) o) ∧
        t.dev.disp.launches = [{ l with waiting := [] }] ∧ t.cur = s.cur ∧ t.oth = s.oth) ∧
    ((∃ (i : Nat) (o : PlaceArgs), os[i]? = some o ∧ s.takenAt o.die.toNat o.core.toNat o.ctx = true) → Gives (.lotPlace os) s s)

/-- R23, R167: a lot whose thread has ended with everything done is counted; with the last one the launch is finished and its completion word
written. -/
def Sys2Proof.Claims.LotsComplete : Prop :=
  ∀ (s : State) (c : Bool) (o : CompleteArgs) (l : Launch) (f : Bool), o.here = some c →
    let v := seenFrom c s
    v.cur.thr.ended = some f → v.cur.viq = [] → s.core.drains = [] → s.core.copies = [] → s.core.slots = [] →
    v.launch v.cur.thr.launch = some l → l.replay = false → (f = false ∨ l.coop = false) → (f = true ∨ gangGid v.cur.u.gangid = 0) →
    let after := s.dev.disp.launches.map fun j => if j.id = l.id then counted j f else j
    (l.ok + l.failed + 1 < l.lots → ∃ u, Gives (.lotComplete o) s (seenBack c s u) ∧ u.cur.thr = Thread.empty ∧
      u.dev.disp.launches = after ∧ u.mem = s.mem) ∧
    (l.lots ≤ l.ok + l.failed + 1 → ∀ a ma,
      (let t := withDisp { v with cur := { v.cur with thr := Thread.empty } } { s.dev.disp with launches := after }
       doneLoc (l.asid, l.ptbase) l.doneAddr t = (.at (.mem a ma), t)) →
      let m := counted l f
      ∃ u, Gives (.lotComplete o) s (seenBack c s u) ∧ u.dev.disp.launches = after.filter (fun j => j.id != l.id) ∧
        u.mem.readVal a 8 = 2 ^ 63 + m.failed % 2 ^ 31 * 2 ^ 32 + m.ok % 2 ^ 32 ∧
        u.mem.readVal (a + 8) 8 = m.failed / 2 ^ 31 % 2 * 2 ^ 48 + m.energy % 2 ^ 48)

/-- R22, R23, R162, R166–R169, R173, R175, R325: lots are placed, run ahead, complete. -/
def Sys2Proof.Claims.Lots : Prop := SingleLots ∧ CooperativeLots ∧ LotsComplete

/-- R349–R351: a replay is refused or begins; a pass that is not the last puts its pages back and starts the next one; the last pass, a failed lot or
a full save area ends the replay. -/
def Obligations.ReplayRuns : Prop :=
  (∀ (a : Word) (s : State), let v := seenFrom false s
    let desc := a.toNat
    s.dev.disp.ready = true → s.dev.replay = none → ClusterFree v → desc % 64 = 0 →
    (¬ (1 ≤ s.mem.readVal (desc + 16) 8 ∧ s.mem.readVal (desc + 16) 8 ≤ 16 ∧ s.mem.readVal (desc + 24) 8 % 65536 = 0 ∧
        s.mem.readVal (desc + 48) 8 = 0 ∧ s.mem.readVal (desc + 56) 8 = 0) →
      ∃ u, Gives (.replayStart a) s (seenBack false s u) ∧ u.mem.readVal (desc + 0x28) 8 = 2 ^ 63 + 1 ∧ u.dev.replay = none ∧
        u.dev.win.requests = s.dev.win.requests.erase a) ∧
    (∀ l sp s1, v.replayDescOk desc = true → (readLaunch v (v.replayWord desc 0)).space s.dev.disp = some sp →
      checkLaunch sp (readLaunch v (v.replayWord desc 0)) v = (.ok l, s1) → l.coop = false → v.replayWord desc 1 < l.lots →
      l.mayUse s1 (v.replayWord desc 1) s1.die = true → l.galys = none →
      ∃ u r, Gives (.replayStart a) s (seenBack false s u) ∧ u.dev.replay = some r ∧ r.desc = desc ∧ r.lot = s1.replayWord desc 1 ∧ r.pass = 0 ∧
        u.cur.pc = l.entry.setWidth 52 ∧ u.cur.thr.live = true ∧ u.x 10 = l.args ∧ u.core.tlb1 = [] ∧ u.core.tlb2 = [])) ∧
  ∀ (cycles mj : Word) (s : State) (r : Replay), let v := seenFrom false s
    s.dev.replay = some r →
    (r.full = true → ∃ u, Gives (.replayPassEnd cycles mj) s (seenBack false s u) ∧ u.dev.replay = none ∧
      u.mem.readVal (r.desc + 0x28) 8 = 2 ^ 63 + (if r.mismatch then 2 ^ 62 else 0) + 2) ∧
    ∀ f : Bool, r.full = false → v.cur.thr.ended = some f → v.cur.viq = [] → s.core.copies = [] → s.core.slots = [] →
      let mismatch := r.mismatch || (decide (r.pass ≠ 0) && decide (v.cur.thr.hash ≠ r.hash0))
      let at_ := r.desc + 0x40 + 32 * r.pass
      let recorded (u : State) : Prop := u.mem.readVal at_ 8 = cycles.toNat ∧ u.mem.readVal (at_ + 8) 8 = v.cur.u.instret.toNat ∧
        u.mem.readVal (at_ + 16) 8 = mj.toNat ∧ u.mem.readVal (at_ + 24) 8 = v.cur.thr.hash.toNat
      (f = true ∨ r.passes ≤ r.pass + 1 →
        ∃ u, Gives (.replayPassEnd cycles mj) s (seenBack false s u) ∧ u.dev.replay = none ∧ u.cur.thr = { Thread.empty with stale := u.cur.thr.stale } ∧
          u.mem.readVal (r.desc + 0x28) 8 = 2 ^ 63 + (if mismatch then 2 ^ 62 else 0) + (if f then 3 else 0) ∧ recorded u) ∧
      (f = false → r.pass + 1 < r.passes → ∀ l page, v.launch r.launch = some l → r.got = [(false, page)] →
        (∀ p, regionOf (page * 2 ^ 16) ≠ .peer p ∧ regionOf (r.save / 2 ^ 16 * 2 ^ 16) ≠ .peer p) → page ≠ r.save / 2 ^ 16 →
        (∀ q, q = page ∨ q = r.save / 2 ^ 16 → at_ + 32 ≤ q * 2 ^ 16 ∨ (q + 1) * 2 ^ 16 ≤ at_) →
        ∃ u n, Gives (.replayPassEnd cycles mj) s (seenBack false s u) ∧ u.dev.replay = some n ∧
          n = { r with pass := r.pass + 1, got := [], mismatch := mismatch, hash0 := if r.pass = 0 then v.cur.thr.hash else r.hash0 } ∧
          u.cur.pc = l.entry.setWidth 52 ∧ u.cur.thr.live = true ∧ u.x 10 = l.args ∧ u.core.tlb1 = [] ∧ u.core.tlb2 = [] ∧
          (let flags := u.cur.sys.ctxarea.toNat + 0x78
           (flags + 8 ≤ at_ ∨ at_ + 32 ≤ flags → recorded u) ∧
           ∀ k, k < 2 ^ 16 → page * 2 ^ 16 + k < flags ∨ flags + 8 ≤ page * 2 ^ 16 + k →
            u.mem.read (page * 2 ^ 16 + k) = s.mem.read (r.save / 2 ^ 16 * 2 ^ 16 + k)))

/-- R385, R388–R392, R399, R404: finished translations, the store and the decode tables. The native code, the shape of its tables and what a place must
keep clear of are the model's choices (log entry 32). -/
def Obligations.Translations : Prop :=
  (∀ (o : TranslationArgs) (s : State) (j : GalysJob), let t := s.dev.store
    t.busy.find? (fun b => b.digest == o.digest && b.rev == o.rev) = some j →
    let code := match (if j.rev = t.rev then t.stored j.digest else none) with
      | some e => e.code
      | none => galysCode j.text
    s.placeOk o.addr code.length = true →
    ∃ u, Gives (.galysTranslationDone o) s u ∧ (∃ c ∈ u.dev.store.cache, c.1 = o.addr ∧ c.2.digest = j.digest ∧ c.2.rev = j.rev ∧ c.2.code = code ∧
        c.2.whole = true) ∧
      u.dev.store.busy = t.busy.filter (fun c => c != j) ∧ u.dev.store.rev = t.rev ∧ u.cur.pc = s.cur.pc ∧ u.cur.x = s.cur.x ∧
      u.mem.readN o.addr code.length = code ∧
      ∀ l va a ptr, s.dev.disp.launches = [l] → (l.galys.any fun k => k.digest == j.digest && k.rev == j.rev) = true →
        s.codeEntry l o.addr code.length = some (va, a, ptr) → a + 8 ≤ o.addr ∨ codeEnd o.addr code.length ≤ a →
        u.dev.disp.launches = [{ l with entry := BitVec.ofNat 64 (va + 36 * (l.galysLevel.getD 0)), galys := none }] ∧
        u.mem.readVal a 8 = ptr.toNat) ∧
  (∀ s : State, let t := s.dev.store
    (36 ≤ t.freeBlocks → Gives .translationStoreReclaim s s) ∧
    (∀ b, t.freeBlocks < 36 → t.oldest = some b → ∃ l : List FlashBlock, Gives .translationStoreReclaim s (withStore s { t with blocks := l }) ∧
      ∀ c ∈ l, c.id = b.id → c.entries = []) ∧
    (t.busy = [] → ∃ l : List FlashBlock, Gives .erasestore s (withStore s { t with blocks := l }) ∧ l.length = t.blocks.length ∧
      (∀ c ∈ l, c.retired = false → c.entries = []) ∧
      ∀ (k : Nat) (b c : FlashBlock), t.blocks[k]? = some b → l[k]? = some c → b.retired = false → b.entries ≠ [] → c.erases = b.erases + 1) ∧
    (t.busy ≠ [] → Gives .erasestore s s) ∧
    (∀ d, FreeHere s → FreeHere (other s) → s.core.drains = [] → s.dev.others = [] → s.dev.pilot.held = false → s.dev.pilot.decode = some d →
      let ok := Config.sm2Verify s.dev.pilot.rootKey (Config.sm3 d.bytes) d.signature = true ∧ s.dev.pilot.rollback ≤ d.version
      (ok → Gives .decodeTableLoad s (withStore s { t with rev := t.rev + 1, table := some d })) ∧ (¬ ok → Gives .decodeTableLoad s s)) ∧
    (s.cur.thr.live = true ∨ s.dev.pilot.decode = none → Gives .decodeTableLoad s s))

/-- R165, R392, R399, R404: boot, reset, the loss of the main supply. The model's readings (log entry 35): memory keeps its bytes over a reset, the
Keyway's failures are kept over a CXL reset, a power loss takes from the far tier what only caches held; and a boot keeps the revision of a table that
has not changed (log entry 32). That lost bytes read 0 is its choice (log entry 1). -/
def Obligations.BootAndReset : Prop :=
  (∀ (s : State) (sentinel tail : Nat), let p := s.dev.pilot
    let places := sentinel % 128 = 0 ∧ tail % 8 = 0 ∧ regionOf sentinel = .hbm s.dev.primary ∧ regionOf tail = .hbm s.dev.primary ∧
      (tail + 8 ≤ sentinel ∨ sentinel + 128 ≤ tail)
    let ok (i : FlashImage) : Prop := Config.sm2Verify p.rootKey (Config.sm3 i.bytes) i.signature = true ∧ p.rollback ≤ i.version
    let good := ∃ f d, p.firmware = some f ∧ p.decode = some d ∧ ok f ∧ ok d
    let rom := Config.sm3 p.code = p.codeDigest ∧ Config.sm2Verify p.rootKey p.codeDigest p.codeSig = true
    (p.held = false → Gives (.powerOnBoot sentinel tail) s s) ∧
    (p.held = true → places →
      (¬ rom → Gives (.powerOnBoot sentinel tail) s (withPilot s { p with log := p.log ++ [.bootFailed 1] })) ∧
      (rom → p.fresh = false → ¬ good →
        Gives (.powerOnBoot sentinel tail) s (withPilot s { p with log := p.log ++ [.bootFailed 3] })) ∧
      (rom → p.fresh = false → good → ∃ t, Gives (.powerOnBoot sentinel tail) s t ∧
        t.dev.pilot = { p with held := false } ∧ t.dev.disp = { s.dev.disp with ready := true, tail := tail, cursor := sentinel } ∧
        t.dev.store.rev = (if s.dev.store.table = p.decode then s.dev.store.rev else s.dev.store.rev + 1) ∧ t.dev.store.table = p.decode ∧ t.dev.ualId = p.nextId ∧ (p.nextId.isSome → t.dev.links.portDown = []) ∧
        (p.nextId = none → ∀ n, n < 12 → n ∈ t.dev.links.portDown) ∧ (t.dev.dieState ≠ s.dev.dieState → 1 ∈ t.dev.win.raised) ∧
        t.mem.readVal tail 8 = sentinel ∧ (∀ k, k < 128 → t.mem.read (sentinel + k) = 0) ∧
        (∀ a, (a < sentinel ∨ sentinel + 128 ≤ a) → (a < tail ∨ tail + 8 ≤ a) → t.mem.read a = s.mem.read a) ∧
        t.cur.x = s.cur.x ∧ t.core = s.core))) ∧
  (∀ s : State, (∃ t, Gives .pilotReset s t ∧ ResetState s t ∧ t.dev.win.fails = 0 ∧ (s.dev.disp.launches = [] → t.mem = s.mem)) ∧
    (s.dev.pilot.held = true → Gives .hostCxlReset s s) ∧
    (s.dev.pilot.held = false → ∃ t, Gives .hostCxlReset s t ∧ ResetState s t ∧ t.dev.win.fails = s.dev.win.fails ∧ (s.dev.disp.launches = [] → t.mem = s.mem))) ∧
  ∀ (cut : Bool) (s : State), ∃ t, Gives (.powerLoss cut) s t ∧ ResetState s t ∧ t.dev.store.cache = [] ∧
    ((∀ b ∈ s.cache.below, b.bytes.length = 128) → ∀ a, t.mem.read a =
      if regionOf a = .far then
        (match s.cache.below.find? (·.line == a / 128) with
         | some b => b.bytes.getD (a % 128) 0
         | none => s.mem.read a)
      else 0)

/-- R397, R398, R400, R401, R404: what Pilot answers and what its controls change. Message formats are the model's (log entry 30). -/
def Obligations.PilotServices : Prop :=
  ∀ s : State, let p := s.dev.pilot
    (∀ (a : BitVec 7) (e : BitVec 8) (id : BitVec 10),
      Gives (.i3cDynamicAddress a) s (withPilot s { p with addr := some a }) ∧
      Gives (.setEndpointId e) s (withPilot s { p with eid := e, reply := [e] }) ∧ Says .getEndpointId s [p.eid] ∧
      Gives (.setualid id) s (withPilot s { p with nextId := some id.toNat })) ∧
    Says .getMessageTypeSupport s [0x00, 0x01, 0x05, 0x7E] ∧ Says .getVersion s [0x13] ∧ Says .getCapabilities s [0x16] ∧
    (∀ n : Nat, ∃ bs k, Gives (.pldmNumericSensor n) s { withPilot s { p with reply := bs } with free := k }) ∧
    Says (.pldmStateSensor 0) s (leBytes 8 s.dev.dieState.toNat) ∧
    (∀ n : Nat, ∃ bs k, Gives (.pldmStateSensor n) s { withPilot s { p with reply := bs } with free := k }) ∧
    (∃ bs, Says .pldmEventLog s bs ∧ (p.log = [] → bs = (p.fwTrace.map TraceRec.bytes).flatten)) ∧
    (∀ a b : Bool, Gives (.negotiateAlgorithms a b) s (withPilot s { p with negotiated := a && b, reply := [if a && b then 1 else 0] })) ∧
    Says .getDigests s (Config.sm3 p.chain) ∧ Says .getCertificate s p.chain ∧
    (∀ n, Says (.challenge n) s (Config.sm2Sign (Config.sm3 (Config.sm3 p.chain ++ n)))) ∧
    Says (.getMeasurements 1) s (Config.sm3 p.code) ∧ Says (.getMeasurements 4) s p.digest ∧
    (∀ f, p.firmware = some f → Says (.getMeasurements 2) s (Config.sm3 f.bytes)) ∧
    (∀ d, p.decode = some d → Says (.getMeasurements 3) s (Config.sm3 d.bytes ++ leBytes 4 s.dev.store.rev.toNat)) ∧
    Says (.getMeasurements 5) s (Config.sm3 p.rootKey ++ leBytes 8 p.rollback) ∧
    (∀ d : List Byte, d.length = 32 → Gives (.keywaydigest d) s (let t := withPilot s { p with digest := d, log := p.log ++ [.keywayDigest] }
      { t with dev := { t.dev with win := { s.dev.win with fails := 0 } } })) ∧
    (∀ o : DebugAnswer,
      (p.nonce = none → ∃ bs k, bs.length = 32 ∧
        Gives (.fwdebug o) s { withPilot s { p with nonce := some bs, reply := bs } with free := k }) ∧
      (∀ n, p.nonce = some n →
        let good := chainsTo p.debugRoot o.chain = true ∧
          ∃ c, o.chain.head? = some c ∧ Config.sm2Verify c.key (Config.sm3 (n ++ p.serial)) o.signature = true
        (good → Gives (.fwdebug o) s (withPilot s { p with nonce := none, fwDebug := true, log := p.log ++ [.debugUnlocked], reply := [1] })) ∧
        (¬ good → Gives (.fwdebug o) s (withPilot s { p with nonce := none, reply := [0] })))) ∧
    (p.update = .idle → Gives .requestUpdate s (withPilot s { p with staged := [], update := .requested })) ∧
    (∀ l, p.update = .requested → Gives (.passComponentTable l) s (withPilot s { p with update := .table l })) ∧
    (∀ l c (i : FlashImage), p.update = .table l ∨ p.update = .sent l → c ∈ l → Gives (.updateComponent c i) s (withPilot s
      { p with staged := ((c, i) :: p.staged.filter (fun x => x.1 != c)), update := .sent l })) ∧
    (∀ l, p.update = .sent l → (∀ c ∈ l, ∃ x ∈ p.staged, x.1 = c) → Gives .transferComplete s (withPilot s { p with update := .transferred })) ∧
    (p.update = .transferred → Gives .verifyComplete s (withPilot s { p with update := .verified })) ∧
    (p.update = .verified → Gives .applyComplete s (withPilot s { p with update := .applied })) ∧
    (∀ f d, p.update = .applied → p.fresh = false → p.staged = [(.firmware, f), (.decodeTable, d)] →
      Gives .activateFirmware s (withPilot s { p with
        prevFirmware := p.firmware, prevDecode := p.decode, firmware := some f, decode := some d, fresh := true, staged := [], update := .idle })) ∧
    (p.update ≠ .applied → Gives .activateFirmware s s)

/-! ## The machine: reset, decoding, one step, whole-machine rules -/

namespace Sys2Proof.Claims

open Sys2Proof.Machine

/-- A context with nothing running, as it stands after reset: R7 and R8 in the registers. -/
structure FreshCtx (c : Ctx) : Prop where
  regs : (∀ k (h : k < 32), c.x[k] = 0) ∧ (∀ k (h : k < 8), c.fm[k] = 0) ∧ (∀ k (h : k < 32), c.v[k] = ⟨0, 0⟩) ∧
    (∀ k (h : k < 16), c.m[k] = 0) ∧ (∀ k (h : k < 4), c.ac[k] = 0) ∧ (∀ k (h : k < 64), c.tags[k] = 0) ∧ c.viq = []
  vec : c.u.vtype = 0x100 ∧ c.u.vl = 0 ∧ c.u.vstart = 0 ∧ c.u.vcommit = 0 ∧ c.u.vdirty = 0 ∧ c.u.xdirty = 0 ∧ c.u.lastd = 0 ∧
    c.u.rlen = 2048 ∧ c.u.vlmax = 2048
  other : c.u.fthresh = 0x60000 ∧ c.u.vflags = 0 ∧ c.u.sfctl = 0 ∧ c.u.terr = 0 ∧ c.u.tdone = 0xFFFFFFFFFFFFFFFF ∧ c.u.cycle = 0 ∧
    c.u.instret = 0
  loops : ∀ k (h : k < 8), c.lp[k] = ⟨0, 0, 0, 0⟩
  none : c.thr.live = false ∧ c.poison = ⟨0, 0, 0, 0⟩

/-- The system registers that only system mode changes (R96, R304, R305). -/
structure SameSystem (s t : State) : Prop where
  entry : t.cur.sys.tvec = s.cur.sys.tvec ∧ t.cur.sys.scratch = s.cur.sys.scratch ∧ t.cur.sys.fltq = s.cur.sys.fltq
  space : t.cur.sys.asid = s.cur.sys.asid ∧ t.cur.sys.ptbase = s.cur.sys.ptbase
  place : t.cur.sys.prio = s.cur.sys.prio ∧ t.cur.sys.ctxarea = s.cur.sys.ctxarea ∧ t.core.quads = s.core.quads ∧
    t.core.spimg = s.core.spimg

/-- The current context before it runs the instruction at its pc. -/
abbrev issuing (s : State) : State := { s.setWait .none with forced := false }

/-- `s` as a move of the core begins: its entry of the agenda is taken. -/
def moving (s : State) : State := { s with agenda := s.agenda.tail }

/-- The state in which the core's next move looks at an instruction: the context that comes first (R170). -/
def atMove (s : State) : State := issuing (moving s).choose

/-- The core's next move looks at the instruction at the current context's pc: no replay, delivered trap, event or breakpoint comes first, nor the
lanes, unless the agenda puts the Lamplighter before them. -/
structure AtInstruction (lamp : Bool) (s : State) : Prop where
  agenda : s.agenda = if lamp then none :: s.agenda.tail else []
  replay : (moving s).startWaiting = none
  due : (moving s).choose.takeDue = none
  event : (moving s).choose.pendingEvent = none
  runs : (moving s).choose.cur.runnable = true
  lanes : lamp = true ∨ (moving s).choose.runLanes = none
  points : (atMove s).breakpoint = none

end Sys2Proof.Claims

/-- R7, R8, R97, R200, R202, R326, R399: what reset leaves. That memory and the scratchpad read as zero is the model's choice (log entry 1). -/
def Sys2Proof.Claims.ResetValues : Prop :=
  FreshCtx State.reset.cur ∧ FreshCtx State.reset.oth ∧ State.reset.cur.id = false ∧ State.reset.oth.id = true ∧
  (∀ b, b < 40 → State.reset.core.banks[b]? = some (if b < 24 then 0 else 1)) ∧ State.reset.core.quads = 3 ∧
  State.reset.core.tlb1 = [] ∧ State.reset.core.tlb2 = [] ∧ State.reset.core.copies = [] ∧ State.reset.core.slots = [] ∧
  State.reset.core.keyed = [] ∧ State.reset.core.tumbler = none ∧ State.reset.core.power = .run ∧
  State.reset.dev.pilot.held = true ∧ State.reset.dev.disp.ready = false ∧ State.reset.dev.disp.launches = [] ∧
  (∀ a, State.reset.mem.read a = 0) ∧ ∀ k, State.reset.core.spad.read k = 0

/-- The core's move after reset changes nothing until the device boots (R399). -/
def Sys2Proof.Claims.ResetWaits : Prop := step State.reset = .next State.reset

/-- R24, R27, R34, R37, R41: words written out from the encoding tables decode to the instructions they stand for. -/
def Obligations.DecodeWords : Prop :=
  -- ADD x3, x1, x2: f9 0, b 2, a 1, d 3, major 0, C 0, length 01
  decodeTableWord 32 0b000000000_00010_00001_00011_00000_0_01 = some (.add ⟨3, 1, 2⟩) ∧
  -- ADDI x5, x0, 7: imm11 7, f3 0, a 0, d 5, major 1
  decodeTableWord 32 0b00000000111_000_00000_00101_00001_0_01 = some (.addi ⟨5, 0, 7⟩) ∧
  -- BNEZ x4, -2: off16 -2 halfwords, cond 1, a 4, major 6
  decodeTableWord 32 0b1111111111111110_001_00100_00110_0_01 = some (.bnez ⟨4, 0xFFFE⟩) ∧
  -- VADD v4, v1, v2 under m3, C = 1: mk 3, f5 0, b 2, a 1, d 4, major 13
  decodeTableWord 32 0b0011_00000_00010_00001_00100_01101_1_01 = some (.vaddVv ⟨true, 4, 1, 2, 3⟩) ∧
  -- LD x6, x7, 8 in its wide form: imm43 = 8
  decodeTableWord 64 0b00000000000000000000000000000000_00000001000_011_00111_00110_00011_0_11 = some (.ldWide ⟨6, 7, 8⟩) ∧
  -- cADD d = 9 from b = 10: b 10, d 9, cop 1, length 0
  decodeTableWord 16 0b01010_01001_00001_0 = some (.cAdd ⟨9, 10⟩) ∧
  -- C = 1 in a scalar major (R29), a reserved major (R35) and the all-zero halfword (R41)
  decodeTableWord 32 0b000000000_00010_00001_00011_00000_1_01 = none ∧ decodeTableWord 32 0b000000000_00010_00001_00011_11101_0_01 = none ∧
  decodeTableWord 16 0 = none

/-- R24–R28, R34, R37, R41: decoding the bytes of an encoded well-formed instruction gives it back, and every byte string that decodes
begins with the bytes of the instruction that it gives. -/
def Obligations.DecodeAndEncodeAgree : Prop :=
  (∀ (i : Instr) (c : Code) (rest : List Byte), WellFormed i → encode i = some c → decode (c.bytes ++ rest) = .ok (i, rest)) ∧
  ∀ (bs rest : List Byte) (i : Instr), decode bs = .ok (i, rest) → WellFormed i ∧ ∃ c, encode i = some c ∧ bs = c.bytes ++ rest

/-- What the core's moves do with an instruction. It has the effect of `exec`; what follows an instruction in its context (`afterIssue`: a pass of a
breakpoint is used up, single step stops) and the choice of the next context (`turn`, R170) are added. -/
def Sys2Proof.Claims.MoveRunsDecoded : Prop :=
  ∀ (lamp : Bool) (s t : State) (c : Code), AtInstruction lamp s → fetchCode (atMove s) = .ok c t →
    (t.xWaits c = false → ∀ i, decodeCode c = .ok i → (t.cur.half = false ∨ hasWaitHalf c = true) → ∀ u, Gives i t u →
      let w := State.afterIssue (atMove s) u
      State.stands (atMove s) w = true → step s = .next w.turn) ∧
    (t.xWaits c = false → (∃ e, decodeCode c = .error e) ∨ t.cur.half = true ∧ hasWaitHalf c = false →
      let w := State.afterIssue (atMove s) (t.trap 0x02 c.tval)
      State.stands (atMove s) w = true → step s = .next w.turn) ∧
    (∀ r, (moving s).choose.runLanes = some r →
      t.xWaits c = true ∨ (∃ i u, decodeCode c = .ok i ∧ (t.cur.half = false ∨ hasWaitHalf c = true) ∧ Gives i t u ∧
        State.stands (atMove s) (State.afterIssue (atMove s) u) = false) → step s = .next r)

/-- A step runs the next step of another agent, or the instruction that the bytes at pc decode to, or traps on bytes that are no
instruction (R35); one that stalls leaves the move to the lanes (R15, R18). The agenda is the model's own (log entry 3). -/
def Obligations.StepRunsDecoded : Prop :=
  (∀ (s : State) (i : Instr) (r : List (Option Instr)), s.agenda = some i :: r → step s = exec i { s with agenda := r }) ∧
  (∀ (s : State) (r : List (Option Instr)), s.agenda = none :: r → step s = coreMove true { s with agenda := r }) ∧
  (∀ s : State, s.agenda = [] → step s = coreMove false s) ∧
  Claims.MoveRunsDecoded ∧
  ∀ (s : State) (pa : Nat) (m : MemAttr) (i : Instr) (rest : List Byte), s.cur.thr.stale = [] → (∀ h ∈ s.cache.host, h.2 = false) →
    s.cur.pc.toNat + 8 ≤ 2 ^ 52 →
    (∀ k, k < 4 → locate s (s.cur.pc.toNat + 2 * k) 2 .fetch = .ok (.mem (pa + 2 * k) m) s) →
    decode (s.mem.readN pa 8) = .ok (i, rest) → ∃ c, fetchCode s = .ok c s ∧ decodeCode c = .ok i

/-- R12, R15, R16, R31, R32, R172, R173, R309: what a push does before an element is touched. -/
def Obligations.VectorPush : Prop :=
  ∀ (o : OpVa) (s : State), ∀ i ∈ [Instr.vaddVv o, .vsubVv o, .vandVv o, .vmaxVv o, .vsaddVv o],
    let cv := nextConvoy s.cur.convoy o.c .alu
    let used := s.cur.viq.length + s.oldEntries.length
    let starts := o.c || s.cur.convoy.isNone
    (s.user = false → Gives i s s.monitorFault) ∧
    (s.user = true → cv.legal = false → ∀ c, encode i = some c → Gives i s (s.trap 0x03 c.tval)) ∧
    (s.user = true → cv.legal = true → 64 ≤ used → Gives i s s) ∧
    (s.user = true → cv.legal = true → used < 64 → s.cur.viq ≠ [] ∨ s.oldEntries ≠ [] ∨ s.hasQuad = false ∨ s.lanesNext = true → ∃ e : Entry,
      Gives i s ((State.setVlast { s with
        cur := { s.cur with viq := s.cur.viq ++ [e], convoy := some cv, u := { s.cur.u with vstart := 0 } }
        core := { s.core with held := if starts then s.quadsMoved else s.core.held } } o.d).retire 4) ∧
      encode i = some e.code ∧ e.addr = s.cur.pc ∧ e.conv = starts ∧ e.seq = s.cur.u.vcommit.toNat + s.cur.viq.length ∧ e.vl = vl s ∧
      e.vstart = vstart s ∧ e.first = vstart s ∧ e.vtype = s.cur.u.vtype ∧ e.flags = 0 ∧ e.fin = false ∧ e.reissue = false ∧ e.rid = none) ∧
    (Ready s .alu o.c [] → vl s ≤ vstart s → Gives i s ((completed s .alu o.c (some o.d) none 0).retire 4))

/-- R6: a byte array reads back what was written into it, little-endian, and nothing else changes; canonical arrays that read alike are
equal. -/
def Obligations.MemoryLaws : Prop :=
  (∀ (m : Memory) (a x : Nat) (bs : List Byte),
    (m.write a bs).read x = if a ≤ x ∧ x < a + bs.length then bs.getD (x - a) 0 else m.read x) ∧
  (∀ (m : Memory) (a n v : Nat), (m.writeVal a n v).readVal a n = v % 256 ^ n) ∧
  ∀ m n : Memory, m.wf → n.wf → (∀ a, m.read a = n.read a) → m = n

/-- Every step keeps physical memory and the scratchpad in their canonical form. -/
def Obligations.StepKeepsMemory : Prop := ∀ s t : State, s.memOk → step s = .next t → t.memOk

/-- Reset memory and scratchpad are canonical. -/
def Obligations.ResetMemory : Prop := State.reset.memOk

/-- No step ends in a fault or a refusal: whatever the spec calls a trap, a fault or an error is an effect. -/
def Obligations.EveryStepGoesOn : Prop := (∀ (i : Instr) (s : State), ∃ t, Gives i s t) ∧ ∀ s : State, ∃ t, step s = .next t

/-- R96, R305: no instruction that a user-mode thread executes changes a register that only system mode may write. -/
def Obligations.UserModeKeepsSystemState : Prop :=
  ∀ (i : Instr) (s t : State), encode i ≠ none → s.user = true → s.cur.id ≠ s.oth.id → Gives i s t → SameSystem s (seenFrom s.cur.id t)

/-! ## Statements of several parts -/

/-- R39, R41, R81, R82: immediates, `LUP`, and the compact scalar ops. -/
def Obligations.ImmediateAndCompactResults : Prop := Claims.ImmediateResults ∧ Claims.CompactScalarResults

/-- R49, R110: the vector integer operations. -/
def Obligations.VectorIntegerResults : Prop := Claims.VectorSums ∧ Claims.VectorBits ∧ Claims.VectorIntegers

/-- R67, R105, R110, R111: comparisons, merges, moves, sign injection. -/
def Obligations.VectorComparisonsAndMoves : Prop := Claims.VectorComparisons ∧ Claims.VectorMoves

/-- R112, R113: `VFMA` and its relatives on values and on integers. -/
def Obligations.FusedResults : Prop := Claims.FusedFloats ∧ Claims.FusedIntegers

/-- R116, R117: the special functions. -/
def Obligations.SpecialFunctions : Prop := Claims.SpecialResults ∧ Claims.SpecialValues

/-- R114, R119, R120: `VDOT` and `VSSMX`. -/
def Obligations.DotProductsAndStrips : Prop := Claims.DotProducts ∧ Claims.StripSoftmax

/-- R12, R133–R135, R151–R153: masks from masks, counts of masks, conflicts and partitions. -/
def Obligations.MaskInstructions : Prop := Claims.MaskResults ∧ Claims.MaskQueries ∧ Claims.RunPartitions

/-- R68–R70, R73, R137, R138, R140: reductions and scans. -/
def Obligations.Reductions : Prop := Claims.SumReductions ∧ Claims.OtherReductions ∧ Claims.Scans

/-- R141–R147: moves of whole vectors, packing, and single elements. -/
def Obligations.ElementPlacement : Prop := Claims.ElementMoves ∧ Claims.ElementPacking ∧ Claims.SingleElements

/-- R58, R60, R63, R67, R68, R79, R80: scalar floating point. -/
def Obligations.ScalarFloatResults : Prop := Claims.ScalarFloats ∧ Claims.SpecialOperands

/-- R6, R83, R84: scalar loads and stores, and where they trap. -/
def Obligations.ScalarLoadsAndStores : Prop := Claims.ScalarLoads ∧ Claims.ScalarStores ∧ Claims.ScalarAccessTraps

/-- R181, R182, R184, R185: atomics, ordered accesses, fences. -/
def Obligations.AtomicAndOrderedAccesses : Prop := Claims.AtomicResults ∧ Claims.OrderedAccesses

/-- R85–R88: branches on registers and on masks. -/
def Obligations.Branches : Prop :=
  Claims.RegisterBranches ∧ Claims.MaskBranches ∧ Claims.RegisterBranchesComplete ∧ Claims.MaskBranchesComplete

/-- R85, R89, R90, R93, R98: jumps, and what a transfer does to loop levels. -/
def Obligations.JumpsAndTransfers : Prop := Claims.Jumps ∧ Claims.JumpsComplete ∧ Claims.Transfers

/-- R91, R92, R176: `LOOP`, and the close of an iteration. -/
def Obligations.LoopInstructions : Prop := Claims.LoopEntry ∧ Claims.LoopClose

/-- R62, R63, R94–R97, R304: `SRD`, `SWR`, `SSET`, `SCLR`. -/
def Obligations.StateRegisters : Prop := Claims.RegisterAccess ∧ Claims.RegisterBits ∧ Claims.RegisterTraps ∧ Claims.RegisterWaits

/-- R306, R307, R309: the entry of a trap, and a trap in system mode. What the freeze leaves of a queued entry is the model's reading: the pins of its batch
stay, and `vstart` and `m15` name what has not performed (log entry 37). -/
def Obligations.TrapEntry : Prop := Claims.TrapState ∧ Claims.MonitorFault

/-- R307, R310: `ERET`, and the way back from a trap. That the object and the generation that a wait half has latched survive the trap (log entry 27), and
what the freeze leaves of a queued entry (log entry 37), are the model's readings. -/
def Obligations.ReturnFromTrap : Prop := Claims.EretResult ∧ Claims.TrapRoundTrip

/-- R210–R213, R319: the walk, the TLBs, `PGSPLICE`. -/
def Obligations.Paging : Prop := Claims.PageWalk ∧ Claims.TlbUse ∧ Claims.PageSplice

/-- R191–R195: `BARSYNC` and `GANG`. That a wait half uses the address and the generation that its join half has latched, whatever the registers hold since,
is the model's reading (log entry 27). -/
def Obligations.BarriersAndGangs : Prop := Claims.Barriers ∧ Claims.BarrierWaitHalf ∧ Claims.Gangs ∧ Claims.MatesOfAGang

/-- R196–R198: mailboxes, `YIELD`, `VSYNC`. -/
def Obligations.MessagesAndYielding : Prop := Claims.Messages ∧ Claims.Yielding

/-- R121–R124, R126, R131, R312: vector loads, and the record of a page fault. -/
def Obligations.VectorLoads : Prop := Claims.LoadResults ∧ Claims.VectorPageFaults

/-- R128–R130, R186, R187: vector stores and atomics. -/
def Obligations.VectorStoresAndAtomics : Prop := Claims.VectorStores ∧ Claims.VectorAtomics

/-- R255, R256, R260: tags, and the issue of a copy. -/
def Obligations.Copies : Prop := Claims.CopyTags ∧ Claims.CopyIssue

/-- R203, R219, R221, R254, R265: prefetch slots, bank roles, flushes. -/
def Obligations.StreamsAndBanks : Prop := Claims.StreamPrefetch ∧ Claims.BankRoles ∧ Claims.LineFlushes

/-- R236, R240–R245: the claim of a unit, and the keyed store. -/
def Obligations.KeyedStoreUnit : Prop := Claims.UnitClaims ∧ Claims.KeyedStore

/-- R246–R251: lane tables and the top-k unit. -/
def Obligations.LaneTablesAndTopK : Prop := Claims.LaneTables ∧ Claims.TopKUnit

/-- R266–R274, R277, R278: tile streams and products. -/
def Obligations.MatrixInstructions : Prop := Claims.MatrixResults ∧ Claims.GangProduct

/-- R283–R290, R292–R300: the automaton and the merge cursor. -/
def Obligations.TumblerAndHinge : Prop := Claims.Tumbler ∧ Claims.Hinge

/-- R9, R327–R329: SAVE and RESTORE. -/
def Obligations.ContextMoves : Prop := Claims.ContextMover ∧ Claims.SaveRestore

/-- R17, R170, R171, R174, R180–R198, R308, R310: the lanes of a context, and what ends a wait. -/
def Obligations.LanesAndWakes : Prop := Claims.LaneSteps ∧ Claims.Wakes

/-- R22, R23, R162, R164–R168, R173, R325: launches and their lots. -/
def Obligations.LaunchAndLots : Prop := Claims.LaunchTake ∧ Claims.Lots

/-- R7, R8, R97, R200, R202, R326, R399: what reset leaves, and that the core waits for the boot. -/
def Obligations.WhatResetLeaves : Prop := Claims.ResetValues ∧ Claims.ResetWaits
end

