-- ==== Sys2Proof/Laws/Decode.lean ====
section
/-! SUPPORT. The fields of encoded words, and the bytes of an instruction. -/

namespace Sys2Proof

/-- A field of the upper part of an appended word. -/
theorem extract_append_high {m n : Nat} (x : BitVec m) (y : BitVec n) (k w : Nat) (h : n ≤ k) :
    (x ++ y).extractLsb' k w = x.extractLsb' (k - n) w := by
  apply BitVec.eq_of_getLsbD_eq
  intro i hi
  simp only [BitVec.getLsbD_extractLsb', BitVec.getLsbD_append]
  rw [if_neg (by omega), show k + i - n = k - n + i by omega]

/-- A field of the lower part. -/
theorem extract_append_low {m n : Nat} (x : BitVec m) (y : BitVec n) (k w : Nat) (h : k + w ≤ n) :
    (x ++ y).extractLsb' k w = y.extractLsb' k w := by
  apply BitVec.eq_of_getLsbD_eq
  intro i hi
  simp only [BitVec.getLsbD_extractLsb', BitVec.getLsbD_append]
  rw [if_pos (by omega)]

/-- The whole of a word. -/
theorem extract_all {n : Nat} (x : BitVec n) : x.extractLsb' 0 n = x := by
  apply BitVec.eq_of_getLsbD_eq
  intro i hi
  simp [hi]

/-! The parts of a word (R24, R27). -/

theorem std_low (maj : BitVec 5) (c : Bool) (body : BitVec 24) :
    (std maj c body).getLsbD 0 = true ∧ (std maj c body).getLsbD 1 = false := by
  unfold std
  constructor <;> rw [BitVec.getLsbD_append] <;> rfl

theorem wid_low (maj : BitVec 5) (c : Bool) (body : BitVec 24) :
    (wid maj c body).getLsbD 0 = true ∧ (wid maj c body).getLsbD 1 = true := by
  unfold wid
  constructor <;> rw [BitVec.getLsbD_append] <;> rfl

theorem halfOf_low (cop : BitVec 5) (o : OpC) : (halfOf cop o).getLsbD 0 = false := by
  unfold halfOf
  rw [BitVec.getLsbD_append]; rfl

@[simp] theorem std_c (maj : BitVec 5) (c : Bool) (body : BitVec 24) : (std maj c body).getLsbD 2 = c := by
  unfold std
  rw [BitVec.getLsbD_append, if_neg (by decide), BitVec.getLsbD_append, if_pos (by decide)]
  cases c <;> rfl

@[simp] theorem wid_c (maj : BitVec 5) (c : Bool) (body : BitVec 24) : (wid maj c body).getLsbD 2 = c := by
  unfold wid
  rw [BitVec.getLsbD_append, if_neg (by decide), BitVec.getLsbD_append, if_pos (by decide)]
  cases c <;> rfl

@[simp] theorem std_maj (maj : BitVec 5) (c : Bool) (body : BitVec 24) : (std maj c body).extractLsb' 3 5 = maj := by
  unfold std
  rw [extract_append_high _ _ _ _ (by decide), extract_append_high _ _ _ _ (by decide), extract_append_low _ _ _ _ (by decide)]
  exact extract_all maj

@[simp] theorem wid_maj (maj : BitVec 5) (c : Bool) (body : BitVec 24) : (wid maj c body).extractLsb' 3 5 = maj := by
  unfold wid
  rw [extract_append_high _ _ _ _ (by decide), extract_append_high _ _ _ _ (by decide), extract_append_low _ _ _ _ (by decide)]
  exact extract_all maj

@[simp] theorem std_body (maj : BitVec 5) (c : Bool) (body : BitVec 24) : (std maj c body).extractLsb' 8 24 = body := by
  unfold std
  rw [extract_append_high _ _ _ _ (by decide), extract_append_high _ _ _ _ (by decide), extract_append_high _ _ _ _ (by decide)]
  exact extract_all body

@[simp] theorem wid_body (maj : BitVec 5) (c : Bool) (body : BitVec 24) : (wid maj c body).extractLsb' 8 24 = body := by
  unfold wid
  rw [extract_append_high _ _ _ _ (by decide), extract_append_high _ _ _ _ (by decide), extract_append_high _ _ _ _ (by decide)]
  exact extract_all body

@[simp] theorem halfOf_cop (cop : BitVec 5) (o : OpC) : (halfOf cop o).extractLsb' 1 5 = cop := by
  unfold halfOf
  rw [extract_append_high _ _ _ _ (by decide), extract_append_low _ _ _ _ (by decide)]
  exact extract_all cop

@[simp] theorem halfOf_d (cop : BitVec 5) (o : OpC) : (halfOf cop o).extractLsb' 6 5 = o.d := by
  unfold halfOf
  rw [extract_append_high _ _ _ _ (by decide), extract_append_high _ _ _ _ (by decide), extract_append_low _ _ _ _ (by decide)]
  exact extract_all o.d

@[simp] theorem halfOf_b (cop : BitVec 5) (o : OpC) : (halfOf cop o).extractLsb' 11 5 = o.b := by
  unfold halfOf
  rw [extract_append_high _ _ _ _ (by decide), extract_append_high _ _ _ _ (by decide), extract_append_high _ _ _ _ (by decide)]
  exact extract_all o.b

/-! The fields of a body (R27). -/

section
variable (d a b : BitVec 5) (f : BitVec 9) (f3 : BitVec 3) (imm : BitVec 11)

@[simp] theorem bodyR_d : fieldD (bodyR d a b f) = d := by
  unfold fieldD bodyR
  rw [extract_append_low _ _ _ _ (by decide)]; exact extract_all d

@[simp] theorem bodyR_a : fieldA (bodyR d a b f) = a := by
  unfold fieldA bodyR
  rw [extract_append_high _ _ _ _ (by decide), extract_append_low _ _ _ _ (by decide)]; exact extract_all a

@[simp] theorem bodyR_b : fieldB (bodyR d a b f) = b := by
  unfold fieldB bodyR
  rw [extract_append_high _ _ _ _ (by decide), extract_append_high _ _ _ _ (by decide), extract_append_low _ _ _ _ (by decide)]
  exact extract_all b

@[simp] theorem bodyR_f : field9 (bodyR d a b f) = f := by
  unfold field9 bodyR
  rw [extract_append_high _ _ _ _ (by decide), extract_append_high _ _ _ _ (by decide), extract_append_high _ _ _ _ (by decide)]
  exact extract_all f

@[simp] theorem bodyI_d : fieldD (bodyI d a f3 imm) = d := by
  unfold fieldD bodyI
  rw [extract_append_low _ _ _ _ (by decide)]; exact extract_all d

@[simp] theorem bodyI_a : fieldA (bodyI d a f3 imm) = a := by
  unfold fieldA bodyI
  rw [extract_append_high _ _ _ _ (by decide), extract_append_low _ _ _ _ (by decide)]; exact extract_all a

@[simp] theorem bodyI_f3 : field3 (bodyI d a f3 imm) = f3 := by
  unfold field3 bodyI
  rw [extract_append_high _ _ _ _ (by decide), extract_append_high _ _ _ _ (by decide), extract_append_low _ _ _ _ (by decide)]
  exact extract_all f3

@[simp] theorem bodyI_imm : field11 (bodyI d a f3 imm) = imm := by
  unfold field11 bodyI
  rw [extract_append_high _ _ _ _ (by decide), extract_append_high _ _ _ _ (by decide), extract_append_high _ _ _ _ (by decide)]
  exact extract_all imm

@[simp] theorem bodyU_d (i : BitVec 19) : fieldD (bodyU d i) = d := by
  unfold fieldD bodyU
  rw [extract_append_low _ _ _ _ (by decide)]; exact extract_all d

@[simp] theorem bodyU_imm (i : BitVec 19) : field19 (bodyU d i) = i := by
  unfold field19 bodyU
  rw [extract_append_high _ _ _ _ (by decide)]; exact extract_all i

@[simp] theorem bodyB_a (cond : BitVec 3) (off : BitVec 16) : fieldD (bodyB a cond off) = a := by
  unfold fieldD bodyB
  rw [extract_append_low _ _ _ _ (by decide)]; exact extract_all a

@[simp] theorem bodyB_cond (cond : BitVec 3) (off : BitVec 16) : fieldCond (bodyB a cond off) = cond := by
  unfold fieldCond bodyB
  rw [extract_append_high _ _ _ _ (by decide), extract_append_low _ _ _ _ (by decide)]; exact extract_all cond

@[simp] theorem bodyB_off (cond : BitVec 3) (off : BitVec 16) : field16 (bodyB a cond off) = off := by
  unfold field16 bodyB
  rw [extract_append_high _ _ _ _ (by decide), extract_append_high _ _ _ _ (by decide)]; exact extract_all off

end

/-! Bytes. -/

/-- The length bits of a code are those of its form (R24). -/
def Code.lengthOk : Code → Bool
  | .half h => !h.getLsbD 0
  | .word w => w.getLsbD 0 && !w.getLsbD 1
  | .wide w _ => w.getLsbD 0 && w.getLsbD 1

theorem std_lengthOk (maj : BitVec 5) (c : Bool) (body : BitVec 24) : (Code.word (std maj c body)).lengthOk = true := by
  simp [Code.lengthOk, -BitVec.getLsbD_eq_getElem, std_low]

theorem wid_lengthOk (maj : BitVec 5) (c : Bool) (body : BitVec 24) (v : BitVec 32) :
    (Code.wide (wid maj c body) v).lengthOk = true := by
  simp [Code.lengthOk, -BitVec.getLsbD_eq_getElem, wid_low]

theorem halfOf_lengthOk (cop : BitVec 5) (o : OpC) : (Code.half (halfOf cop o)).lengthOk = true := by
  simp [Code.lengthOk, -BitVec.getLsbD_eq_getElem, halfOf_low]

/-- Decoding what `takeCode` finds. -/
theorem decode_of_takeCode {bs rest : List Byte} {c : Code} (h : takeCode bs = some (c, rest)) :
    decode bs = (decodeCode c).map fun i => (i, rest) := by
  simp [decode, h]

end Sys2Proof
end

