-- ==== Sys2Proof/Laws/Memory.lean ====
section
/-! SUPPORT. The canonical form of a byte array (`Memory.wf`): what it says, and that every operation on memory keeps it. -/

namespace Sys2Proof.Machine

namespace Memory

/-- An address whose entries all lie above k. -/
def Above (k : Nat) (m : Memory) : Prop := ∀ c ∈ m, k < c.1

theorem wf_nil : wf [] := rfl

/-- The canonical form, entry by entry: a byte that is not the unlisted one, all other entries above it, and the rest canonical. -/
theorem wf_cons {c : Host.Cell} {m : Memory} : wf (c :: m) ↔ c.2 ≠ unlisted ∧ Above c.1 m ∧ wf m := by
  induction m generalizing c with
  | nil => simp [wf, canonical, Above]
  | cons d m ih =>
    have h : wf (c :: d :: m) ↔ (c.2 ≠ unlisted ∧ c.1 < d.1) ∧ wf (d :: m) := by simp [wf, canonical]
    rw [h, ih]
    constructor
    · rintro ⟨⟨h1, h2⟩, h3, h4, h5⟩
      refine ⟨h1, fun e he => ?_, h3, h4, h5⟩
      rcases List.mem_cons.1 he with rfl | he
      · exact h2
      · exact Nat.lt_trans h2 (h4 e he)
    · rintro ⟨h1, h2, h3⟩
      exact ⟨⟨h1, h2 d (by simp)⟩, h3⟩

/-- A part of a canonical array is canonical. -/
theorem wf_filter (p : Host.Cell → Bool) {m : Memory} (h : m.wf) : wf (m.filter p) := by
  induction m with
  | nil => exact wf_nil
  | cons c m ih =>
    obtain ⟨h1, h2, h3⟩ := wf_cons.1 h
    rw [List.filter_cons]
    split
    · exact wf_cons.2 ⟨h1, fun d hd => h2 d (List.mem_filter.1 hd).1, ih h3⟩
    · exact ih h3

/-- Two canonical arrays, the second above the first. -/
theorem wf_append {m n : Memory} (hm : m.wf) (hn : n.wf) (h : ∀ c ∈ m, Above c.1 n) : wf (m ++ n) := by
  induction m with
  | nil => exact hn
  | cons c m ih =>
    obtain ⟨h1, h2, h3⟩ := wf_cons.1 hm
    refine wf_cons.2 ⟨h1, fun d hd => ?_, ih h3 fun d hd => h d (by simp [hd])⟩
    rcases List.mem_append.1 hd with hd | hd
    · exact h2 d hd
    · exact h c (by simp) d hd

/-- The entries of written bytes lie at their addresses. -/
theorem mem_cells {a : Nat} {bs : List Byte} {c : Host.Cell} (h : c ∈ cells a bs) : a ≤ c.1 ∧ c.1 < a + bs.length := by
  induction bs generalizing a with
  | nil => simp [cells] at h
  | cons b bs ih =>
    simp only [cells] at h
    split at h
    · have := ih h; simp; omega
    · rcases List.mem_cons.1 h with rfl | h
      · simp
      · have := ih h; simp; omega

theorem wf_cells (a : Nat) (bs : List Byte) : wf (cells a bs) := by
  induction bs generalizing a with
  | nil => exact wf_nil
  | cons b bs ih =>
    simp only [cells]
    split
    · exact ih (a + 1)
    · exact wf_cons.2 ⟨‹_›, fun c hc => by have := mem_cells hc; simp; omega, ih (a + 1)⟩

/-- A write keeps the canonical form. -/
theorem wf_write {m : Memory} (a : Nat) (bs : List Byte) (h : m.wf) : (m.write a bs).wf := by
  refine wf_append (wf_filter _ h) (wf_append (wf_cells a bs) (wf_filter _ h) ?_) ?_
  · intro c hc d hd
    have h1 := mem_cells hc
    have h2 := (List.mem_filter.1 hd).2
    simp at h2; omega
  · intro c hc d hd
    have h1 := (List.mem_filter.1 hc).2
    simp at h1
    rcases List.mem_append.1 hd with hd | hd
    · have := mem_cells hd; omega
    · have h2 := (List.mem_filter.1 hd).2
      simp at h2; omega

theorem wf_writeVal {m : Memory} (a n v : Nat) (h : m.wf) : (m.writeVal a n v).wf := wf_write a _ h

end Memory

/-! The operations of the machine on memory. -/

theorem State.memOk_putMem {s : State} (h : s.memOk) (a : Nat) (bs : List Byte) : (s.putMem a bs).memOk :=
  ⟨Memory.wf_write a bs h.1, h.2⟩

theorem State.memOk_putPte {s : State} (h : s.memOk) (a : Nat) (e : Word) : (s.putPte a e).memOk :=
  ⟨Memory.wf_writeVal a 8 _ h.1, h.2⟩

theorem State.memOk_putSpad {s : State} (h : s.memOk) (k : Nat) (bs : List Byte) :
    (s.setCore { s.core with spad := s.core.spad.write k bs }).memOk :=
  ⟨h.1, Memory.wf_write k bs h.2.1, h.2.2⟩

theorem peerWrite_memOk {s : State} (h : s.memOk) (pa : Nat) (bs : List Byte) : (peerWrite s pa bs).memOk :=
  ⟨h.1, h.2.1, h.2.2.1, Memory.wf_write pa bs h.2.2.2⟩

/-- A step that changes none of the four arrays. -/
theorem State.memOk_of_same {s t : State} (h : s.memOk) (h1 : t.mem = s.mem) (h2 : t.core.spad = s.core.spad)
    (h3 : t.core.lanes = s.core.lanes) (h4 : t.dev.peerMem = s.dev.peerMem) : t.memOk := by
  unfold State.memOk; rw [h1, h2, h3, h4]; exact h

/-- The lane tables after a fill. -/
theorem fillLanes_wf {m : Memory} (bytes : List (Nat × Nat)) (h : m.wf) : (fillLanes m bytes).wf := by
  unfold fillLanes
  generalize List.range 64 = l
  induction l generalizing m with
  | nil => exact h
  | cons k l ih =>
    refine ih ?_
    clear ih
    induction bytes generalizing m with
    | nil => exact h
    | cons b bs ih => exact ih (Memory.wf_write _ _ h)

/-- The scratchpad after banks have left their role. -/
theorem clearBanks_spad_wf {m : Memory} (bs : List Nat) (h : m.wf) :
    Memory.wf (m.filter fun cell => !bs.contains (cell.1 / 2 ^ 16)) := Memory.wf_filter _ h

end Sys2Proof.Machine
end

