-- ==== Sys2Proof/Laws/State.lean ====
section
/-! SUPPORT. What each update of the state does to each of its fields. -/

namespace Sys2Proof.Machine

section
variable (s : State)


/-! `setCur` -/

@[simp] theorem State.setCur_cur (c : Ctx) : (s.setCur c).cur = c := rfl
@[simp] theorem State.setCur_oth (c : Ctx) : (s.setCur c).oth = s.oth := rfl
@[simp] theorem State.setCur_core (c : Ctx) : (s.setCur c).core = s.core := rfl
@[simp] theorem State.setCur_dev (c : Ctx) : (s.setCur c).dev = s.dev := rfl
@[simp] theorem State.setCur_mem (c : Ctx) : (s.setCur c).mem = s.mem := rfl
@[simp] theorem State.setCur_bad (c : Ctx) : (s.setCur c).bad = s.bad := rfl
@[simp] theorem State.setCur_cache (c : Ctx) : (s.setCur c).cache = s.cache := rfl
@[simp] theorem State.setCur_agenda (c : Ctx) : (s.setCur c).agenda = s.agenda := rfl
@[simp] theorem State.setCur_forced (c : Ctx) : (s.setCur c).forced = s.forced := rfl
@[simp] theorem State.setCur_free (c : Ctx) : (s.setCur c).free = s.free := rfl

/-! `setOth` -/

@[simp] theorem State.setOth_cur (c : Ctx) : (s.setOth c).cur = s.cur := rfl
@[simp] theorem State.setOth_oth (c : Ctx) : (s.setOth c).oth = c := rfl
@[simp] theorem State.setOth_core (c : Ctx) : (s.setOth c).core = s.core := rfl
@[simp] theorem State.setOth_dev (c : Ctx) : (s.setOth c).dev = s.dev := rfl
@[simp] theorem State.setOth_mem (c : Ctx) : (s.setOth c).mem = s.mem := rfl
@[simp] theorem State.setOth_bad (c : Ctx) : (s.setOth c).bad = s.bad := rfl
@[simp] theorem State.setOth_cache (c : Ctx) : (s.setOth c).cache = s.cache := rfl
@[simp] theorem State.setOth_agenda (c : Ctx) : (s.setOth c).agenda = s.agenda := rfl
@[simp] theorem State.setOth_forced (c : Ctx) : (s.setOth c).forced = s.forced := rfl
@[simp] theorem State.setOth_free (c : Ctx) : (s.setOth c).free = s.free := rfl

/-! `setCore` -/

@[simp] theorem State.setCore_cur (c : CoreRes) : (s.setCore c).cur = s.cur := rfl
@[simp] theorem State.setCore_oth (c : CoreRes) : (s.setCore c).oth = s.oth := rfl
@[simp] theorem State.setCore_core (c : CoreRes) : (s.setCore c).core = c := rfl
@[simp] theorem State.setCore_dev (c : CoreRes) : (s.setCore c).dev = s.dev := rfl
@[simp] theorem State.setCore_mem (c : CoreRes) : (s.setCore c).mem = s.mem := rfl
@[simp] theorem State.setCore_bad (c : CoreRes) : (s.setCore c).bad = s.bad := rfl
@[simp] theorem State.setCore_cache (c : CoreRes) : (s.setCore c).cache = s.cache := rfl
@[simp] theorem State.setCore_agenda (c : CoreRes) : (s.setCore c).agenda = s.agenda := rfl
@[simp] theorem State.setCore_forced (c : CoreRes) : (s.setCore c).forced = s.forced := rfl
@[simp] theorem State.setCore_free (c : CoreRes) : (s.setCore c).free = s.free := rfl

/-! `setDev` -/

@[simp] theorem State.setDev_cur (d : Device) : (s.setDev d).cur = s.cur := rfl
@[simp] theorem State.setDev_oth (d : Device) : (s.setDev d).oth = s.oth := rfl
@[simp] theorem State.setDev_core (d : Device) : (s.setDev d).core = s.core := rfl
@[simp] theorem State.setDev_dev (d : Device) : (s.setDev d).dev = d := rfl
@[simp] theorem State.setDev_mem (d : Device) : (s.setDev d).mem = s.mem := rfl
@[simp] theorem State.setDev_bad (d : Device) : (s.setDev d).bad = s.bad := rfl
@[simp] theorem State.setDev_cache (d : Device) : (s.setDev d).cache = s.cache := rfl
@[simp] theorem State.setDev_agenda (d : Device) : (s.setDev d).agenda = s.agenda := rfl
@[simp] theorem State.setDev_forced (d : Device) : (s.setDev d).forced = s.forced := rfl
@[simp] theorem State.setDev_free (d : Device) : (s.setDev d).free = s.free := rfl

/-! `setMem` -/

@[simp] theorem State.setMem_cur (m : Memory) : (s.setMem m).cur = s.cur := rfl
@[simp] theorem State.setMem_oth (m : Memory) : (s.setMem m).oth = s.oth := rfl
@[simp] theorem State.setMem_core (m : Memory) : (s.setMem m).core = s.core := rfl
@[simp] theorem State.setMem_dev (m : Memory) : (s.setMem m).dev = s.dev := rfl
@[simp] theorem State.setMem_mem (m : Memory) : (s.setMem m).mem = m := rfl
@[simp] theorem State.setMem_bad (m : Memory) : (s.setMem m).bad = s.bad := rfl
@[simp] theorem State.setMem_cache (m : Memory) : (s.setMem m).cache = s.cache := rfl
@[simp] theorem State.setMem_agenda (m : Memory) : (s.setMem m).agenda = s.agenda := rfl
@[simp] theorem State.setMem_forced (m : Memory) : (s.setMem m).forced = s.forced := rfl
@[simp] theorem State.setMem_free (m : Memory) : (s.setMem m).free = s.free := rfl

/-! `setBad` -/

@[simp] theorem State.setBad_cur (b : List Nat) : (s.setBad b).cur = s.cur := rfl
@[simp] theorem State.setBad_oth (b : List Nat) : (s.setBad b).oth = s.oth := rfl
@[simp] theorem State.setBad_core (b : List Nat) : (s.setBad b).core = s.core := rfl
@[simp] theorem State.setBad_dev (b : List Nat) : (s.setBad b).dev = s.dev := rfl
@[simp] theorem State.setBad_mem (b : List Nat) : (s.setBad b).mem = s.mem := rfl
@[simp] theorem State.setBad_bad (b : List Nat) : (s.setBad b).bad = b := rfl
@[simp] theorem State.setBad_cache (b : List Nat) : (s.setBad b).cache = s.cache := rfl
@[simp] theorem State.setBad_agenda (b : List Nat) : (s.setBad b).agenda = s.agenda := rfl
@[simp] theorem State.setBad_forced (b : List Nat) : (s.setBad b).forced = s.forced := rfl
@[simp] theorem State.setBad_free (b : List Nat) : (s.setBad b).free = s.free := rfl

/-! `setFree` -/

@[simp] theorem State.setFree_cur (n : Nat) : (s.setFree n).cur = s.cur := rfl
@[simp] theorem State.setFree_oth (n : Nat) : (s.setFree n).oth = s.oth := rfl
@[simp] theorem State.setFree_core (n : Nat) : (s.setFree n).core = s.core := rfl
@[simp] theorem State.setFree_dev (n : Nat) : (s.setFree n).dev = s.dev := rfl
@[simp] theorem State.setFree_mem (n : Nat) : (s.setFree n).mem = s.mem := rfl
@[simp] theorem State.setFree_bad (n : Nat) : (s.setFree n).bad = s.bad := rfl
@[simp] theorem State.setFree_cache (n : Nat) : (s.setFree n).cache = s.cache := rfl
@[simp] theorem State.setFree_agenda (n : Nat) : (s.setFree n).agenda = s.agenda := rfl
@[simp] theorem State.setFree_forced (n : Nat) : (s.setFree n).forced = s.forced := rfl
@[simp] theorem State.setFree_free (n : Nat) : (s.setFree n).free = n := rfl

/-! `setCache` -/

@[simp] theorem State.setCache_cur (c : Caches) : (s.setCache c).cur = s.cur := rfl
@[simp] theorem State.setCache_oth (c : Caches) : (s.setCache c).oth = s.oth := rfl
@[simp] theorem State.setCache_core (c : Caches) : (s.setCache c).core = s.core := rfl
@[simp] theorem State.setCache_dev (c : Caches) : (s.setCache c).dev = s.dev := rfl
@[simp] theorem State.setCache_mem (c : Caches) : (s.setCache c).mem = s.mem := rfl
@[simp] theorem State.setCache_bad (c : Caches) : (s.setCache c).bad = s.bad := rfl
@[simp] theorem State.setCache_cache (c : Caches) : (s.setCache c).cache = c := rfl
@[simp] theorem State.setCache_agenda (c : Caches) : (s.setCache c).agenda = s.agenda := rfl
@[simp] theorem State.setCache_forced (c : Caches) : (s.setCache c).forced = s.forced := rfl
@[simp] theorem State.setCache_free (c : Caches) : (s.setCache c).free = s.free := rfl

/-! `swap` -/

@[simp] theorem State.swap_cur : s.swap.cur = s.oth := rfl
@[simp] theorem State.swap_oth : s.swap.oth = s.cur := rfl
@[simp] theorem State.swap_core : s.swap.core = s.core := rfl
@[simp] theorem State.swap_dev : s.swap.dev = s.dev := rfl
@[simp] theorem State.swap_mem : s.swap.mem = s.mem := rfl
@[simp] theorem State.swap_bad : s.swap.bad = s.bad := rfl
@[simp] theorem State.swap_cache : s.swap.cache = s.cache := rfl
@[simp] theorem State.swap_agenda : s.swap.agenda = s.agenda := rfl
@[simp] theorem State.swap_forced : s.swap.forced = s.forced := rfl
@[simp] theorem State.swap_free : s.swap.free = s.free := rfl

@[simp] theorem State.swap_swap : s.swap.swap = s := rfl


/-! `setU` -/

@[simp] theorem State.setU_oth (u : UserRegs) : (s.setU u).oth = s.oth := rfl
@[simp] theorem State.setU_core (u : UserRegs) : (s.setU u).core = s.core := rfl
@[simp] theorem State.setU_dev (u : UserRegs) : (s.setU u).dev = s.dev := rfl
@[simp] theorem State.setU_mem (u : UserRegs) : (s.setU u).mem = s.mem := rfl
@[simp] theorem State.setU_bad (u : UserRegs) : (s.setU u).bad = s.bad := rfl
@[simp] theorem State.setU_cache (u : UserRegs) : (s.setU u).cache = s.cache := rfl
@[simp] theorem State.setU_agenda (u : UserRegs) : (s.setU u).agenda = s.agenda := rfl
@[simp] theorem State.setU_forced (u : UserRegs) : (s.setU u).forced = s.forced := rfl
@[simp] theorem State.setU_free (u : UserRegs) : (s.setU u).free = s.free := rfl
@[simp] theorem State.setU_cur_id (u : UserRegs) : (s.setU u).cur.id = s.cur.id := rfl
@[simp] theorem State.setU_cur_pc (u : UserRegs) : (s.setU u).cur.pc = s.cur.pc := rfl
@[simp] theorem State.setU_cur_half (u : UserRegs) : (s.setU u).cur.half = s.cur.half := rfl
@[simp] theorem State.setU_cur_obj (u : UserRegs) : (s.setU u).cur.obj = s.cur.obj := rfl
@[simp] theorem State.setU_cur_x (u : UserRegs) : (s.setU u).cur.x = s.cur.x := rfl
@[simp] theorem State.setU_cur_fm (u : UserRegs) : (s.setU u).cur.fm = s.cur.fm := rfl
@[simp] theorem State.setU_cur_v (u : UserRegs) : (s.setU u).cur.v = s.cur.v := rfl
@[simp] theorem State.setU_cur_m (u : UserRegs) : (s.setU u).cur.m = s.cur.m := rfl
@[simp] theorem State.setU_cur_ac (u : UserRegs) : (s.setU u).cur.ac = s.cur.ac := rfl
@[simp] theorem State.setU_cur_ts (u : UserRegs) : (s.setU u).cur.ts = s.cur.ts := rfl
@[simp] theorem State.setU_cur_tags (u : UserRegs) : (s.setU u).cur.tags = s.cur.tags := rfl
@[simp] theorem State.setU_cur_viq (u : UserRegs) : (s.setU u).cur.viq = s.cur.viq := rfl
@[simp] theorem State.setU_cur_frozen (u : UserRegs) : (s.setU u).cur.frozen = s.cur.frozen := rfl
@[simp] theorem State.setU_cur_convoy (u : UserRegs) : (s.setU u).cur.convoy = s.cur.convoy := rfl
@[simp] theorem State.setU_cur_u (u : UserRegs) : (s.setU u).cur.u = u := rfl
@[simp] theorem State.setU_cur_lp (u : UserRegs) : (s.setU u).cur.lp = s.cur.lp := rfl
@[simp] theorem State.setU_cur_sys (u : UserRegs) : (s.setU u).cur.sys = s.cur.sys := rfl
@[simp] theorem State.setU_cur_ext (u : UserRegs) : (s.setU u).cur.ext = s.cur.ext := rfl
@[simp] theorem State.setU_cur_poison (u : UserRegs) : (s.setU u).cur.poison = s.cur.poison := rfl
@[simp] theorem State.setU_cur_dbg (u : UserRegs) : (s.setU u).cur.dbg = s.cur.dbg := rfl
@[simp] theorem State.setU_cur_thr (u : UserRegs) : (s.setU u).cur.thr = s.cur.thr := rfl

/-! `setSys` -/

@[simp] theorem State.setSys_oth (r : SysRegs) : (s.setSys r).oth = s.oth := rfl
@[simp] theorem State.setSys_core (r : SysRegs) : (s.setSys r).core = s.core := rfl
@[simp] theorem State.setSys_dev (r : SysRegs) : (s.setSys r).dev = s.dev := rfl
@[simp] theorem State.setSys_mem (r : SysRegs) : (s.setSys r).mem = s.mem := rfl
@[simp] theorem State.setSys_bad (r : SysRegs) : (s.setSys r).bad = s.bad := rfl
@[simp] theorem State.setSys_cache (r : SysRegs) : (s.setSys r).cache = s.cache := rfl
@[simp] theorem State.setSys_agenda (r : SysRegs) : (s.setSys r).agenda = s.agenda := rfl
@[simp] theorem State.setSys_forced (r : SysRegs) : (s.setSys r).forced = s.forced := rfl
@[simp] theorem State.setSys_free (r : SysRegs) : (s.setSys r).free = s.free := rfl
@[simp] theorem State.setSys_cur_id (r : SysRegs) : (s.setSys r).cur.id = s.cur.id := rfl
@[simp] theorem State.setSys_cur_pc (r : SysRegs) : (s.setSys r).cur.pc = s.cur.pc := rfl
@[simp] theorem State.setSys_cur_half (r : SysRegs) : (s.setSys r).cur.half = s.cur.half := rfl
@[simp] theorem State.setSys_cur_obj (r : SysRegs) : (s.setSys r).cur.obj = s.cur.obj := rfl
@[simp] theorem State.setSys_cur_x (r : SysRegs) : (s.setSys r).cur.x = s.cur.x := rfl
@[simp] theorem State.setSys_cur_fm (r : SysRegs) : (s.setSys r).cur.fm = s.cur.fm := rfl
@[simp] theorem State.setSys_cur_v (r : SysRegs) : (s.setSys r).cur.v = s.cur.v := rfl
@[simp] theorem State.setSys_cur_m (r : SysRegs) : (s.setSys r).cur.m = s.cur.m := rfl
@[simp] theorem State.setSys_cur_ac (r : SysRegs) : (s.setSys r).cur.ac = s.cur.ac := rfl
@[simp] theorem State.setSys_cur_ts (r : SysRegs) : (s.setSys r).cur.ts = s.cur.ts := rfl
@[simp] theorem State.setSys_cur_tags (r : SysRegs) : (s.setSys r).cur.tags = s.cur.tags := rfl
@[simp] theorem State.setSys_cur_viq (r : SysRegs) : (s.setSys r).cur.viq = s.cur.viq := rfl
@[simp] theorem State.setSys_cur_frozen (r : SysRegs) : (s.setSys r).cur.frozen = s.cur.frozen := rfl
@[simp] theorem State.setSys_cur_convoy (r : SysRegs) : (s.setSys r).cur.convoy = s.cur.convoy := rfl
@[simp] theorem State.setSys_cur_u (r : SysRegs) : (s.setSys r).cur.u = s.cur.u := rfl
@[simp] theorem State.setSys_cur_lp (r : SysRegs) : (s.setSys r).cur.lp = s.cur.lp := rfl
@[simp] theorem State.setSys_cur_sys (r : SysRegs) : (s.setSys r).cur.sys = r := rfl
@[simp] theorem State.setSys_cur_ext (r : SysRegs) : (s.setSys r).cur.ext = s.cur.ext := rfl
@[simp] theorem State.setSys_cur_poison (r : SysRegs) : (s.setSys r).cur.poison = s.cur.poison := rfl
@[simp] theorem State.setSys_cur_dbg (r : SysRegs) : (s.setSys r).cur.dbg = s.cur.dbg := rfl
@[simp] theorem State.setSys_cur_thr (r : SysRegs) : (s.setSys r).cur.thr = s.cur.thr := rfl

/-! `setThr` -/

@[simp] theorem State.setThr_oth (t : Thread) : (s.setThr t).oth = s.oth := rfl
@[simp] theorem State.setThr_core (t : Thread) : (s.setThr t).core = s.core := rfl
@[simp] theorem State.setThr_dev (t : Thread) : (s.setThr t).dev = s.dev := rfl
@[simp] theorem State.setThr_mem (t : Thread) : (s.setThr t).mem = s.mem := rfl
@[simp] theorem State.setThr_bad (t : Thread) : (s.setThr t).bad = s.bad := rfl
@[simp] theorem State.setThr_cache (t : Thread) : (s.setThr t).cache = s.cache := rfl
@[simp] theorem State.setThr_agenda (t : Thread) : (s.setThr t).agenda = s.agenda := rfl
@[simp] theorem State.setThr_forced (t : Thread) : (s.setThr t).forced = s.forced := rfl
@[simp] theorem State.setThr_free (t : Thread) : (s.setThr t).free = s.free := rfl
@[simp] theorem State.setThr_cur_id (t : Thread) : (s.setThr t).cur.id = s.cur.id := rfl
@[simp] theorem State.setThr_cur_pc (t : Thread) : (s.setThr t).cur.pc = s.cur.pc := rfl
@[simp] theorem State.setThr_cur_half (t : Thread) : (s.setThr t).cur.half = s.cur.half := rfl
@[simp] theorem State.setThr_cur_obj (t : Thread) : (s.setThr t).cur.obj = s.cur.obj := rfl
@[simp] theorem State.setThr_cur_x (t : Thread) : (s.setThr t).cur.x = s.cur.x := rfl
@[simp] theorem State.setThr_cur_fm (t : Thread) : (s.setThr t).cur.fm = s.cur.fm := rfl
@[simp] theorem State.setThr_cur_v (t : Thread) : (s.setThr t).cur.v = s.cur.v := rfl
@[simp] theorem State.setThr_cur_m (t : Thread) : (s.setThr t).cur.m = s.cur.m := rfl
@[simp] theorem State.setThr_cur_ac (t : Thread) : (s.setThr t).cur.ac = s.cur.ac := rfl
@[simp] theorem State.setThr_cur_ts (t : Thread) : (s.setThr t).cur.ts = s.cur.ts := rfl
@[simp] theorem State.setThr_cur_tags (t : Thread) : (s.setThr t).cur.tags = s.cur.tags := rfl
@[simp] theorem State.setThr_cur_viq (t : Thread) : (s.setThr t).cur.viq = s.cur.viq := rfl
@[simp] theorem State.setThr_cur_frozen (t : Thread) : (s.setThr t).cur.frozen = s.cur.frozen := rfl
@[simp] theorem State.setThr_cur_convoy (t : Thread) : (s.setThr t).cur.convoy = s.cur.convoy := rfl
@[simp] theorem State.setThr_cur_u (t : Thread) : (s.setThr t).cur.u = s.cur.u := rfl
@[simp] theorem State.setThr_cur_lp (t : Thread) : (s.setThr t).cur.lp = s.cur.lp := rfl
@[simp] theorem State.setThr_cur_sys (t : Thread) : (s.setThr t).cur.sys = s.cur.sys := rfl
@[simp] theorem State.setThr_cur_ext (t : Thread) : (s.setThr t).cur.ext = s.cur.ext := rfl
@[simp] theorem State.setThr_cur_poison (t : Thread) : (s.setThr t).cur.poison = s.cur.poison := rfl
@[simp] theorem State.setThr_cur_dbg (t : Thread) : (s.setThr t).cur.dbg = s.cur.dbg := rfl
@[simp] theorem State.setThr_cur_thr (t : Thread) : (s.setThr t).cur.thr = t := rfl

/-! `setLp` -/

@[simp] theorem State.setLp_oth (l : Vector LoopLevel 8) : (s.setLp l).oth = s.oth := rfl
@[simp] theorem State.setLp_core (l : Vector LoopLevel 8) : (s.setLp l).core = s.core := rfl
@[simp] theorem State.setLp_dev (l : Vector LoopLevel 8) : (s.setLp l).dev = s.dev := rfl
@[simp] theorem State.setLp_mem (l : Vector LoopLevel 8) : (s.setLp l).mem = s.mem := rfl
@[simp] theorem State.setLp_bad (l : Vector LoopLevel 8) : (s.setLp l).bad = s.bad := rfl
@[simp] theorem State.setLp_cache (l : Vector LoopLevel 8) : (s.setLp l).cache = s.cache := rfl
@[simp] theorem State.setLp_agenda (l : Vector LoopLevel 8) : (s.setLp l).agenda = s.agenda := rfl
@[simp] theorem State.setLp_forced (l : Vector LoopLevel 8) : (s.setLp l).forced = s.forced := rfl
@[simp] theorem State.setLp_free (l : Vector LoopLevel 8) : (s.setLp l).free = s.free := rfl
@[simp] theorem State.setLp_cur_id (l : Vector LoopLevel 8) : (s.setLp l).cur.id = s.cur.id := rfl
@[simp] theorem State.setLp_cur_pc (l : Vector LoopLevel 8) : (s.setLp l).cur.pc = s.cur.pc := rfl
@[simp] theorem State.setLp_cur_half (l : Vector LoopLevel 8) : (s.setLp l).cur.half = s.cur.half := rfl
@[simp] theorem State.setLp_cur_obj (l : Vector LoopLevel 8) : (s.setLp l).cur.obj = s.cur.obj := rfl
@[simp] theorem State.setLp_cur_x (l : Vector LoopLevel 8) : (s.setLp l).cur.x = s.cur.x := rfl
@[simp] theorem State.setLp_cur_fm (l : Vector LoopLevel 8) : (s.setLp l).cur.fm = s.cur.fm := rfl
@[simp] theorem State.setLp_cur_v (l : Vector LoopLevel 8) : (s.setLp l).cur.v = s.cur.v := rfl
@[simp] theorem State.setLp_cur_m (l : Vector LoopLevel 8) : (s.setLp l).cur.m = s.cur.m := rfl
@[simp] theorem State.setLp_cur_ac (l : Vector LoopLevel 8) : (s.setLp l).cur.ac = s.cur.ac := rfl
@[simp] theorem State.setLp_cur_ts (l : Vector LoopLevel 8) : (s.setLp l).cur.ts = s.cur.ts := rfl
@[simp] theorem State.setLp_cur_tags (l : Vector LoopLevel 8) : (s.setLp l).cur.tags = s.cur.tags := rfl
@[simp] theorem State.setLp_cur_viq (l : Vector LoopLevel 8) : (s.setLp l).cur.viq = s.cur.viq := rfl
@[simp] theorem State.setLp_cur_frozen (l : Vector LoopLevel 8) : (s.setLp l).cur.frozen = s.cur.frozen := rfl
@[simp] theorem State.setLp_cur_convoy (l : Vector LoopLevel 8) : (s.setLp l).cur.convoy = s.cur.convoy := rfl
@[simp] theorem State.setLp_cur_u (l : Vector LoopLevel 8) : (s.setLp l).cur.u = s.cur.u := rfl
@[simp] theorem State.setLp_cur_lp (l : Vector LoopLevel 8) : (s.setLp l).cur.lp = l := rfl
@[simp] theorem State.setLp_cur_sys (l : Vector LoopLevel 8) : (s.setLp l).cur.sys = s.cur.sys := rfl
@[simp] theorem State.setLp_cur_ext (l : Vector LoopLevel 8) : (s.setLp l).cur.ext = s.cur.ext := rfl
@[simp] theorem State.setLp_cur_poison (l : Vector LoopLevel 8) : (s.setLp l).cur.poison = s.cur.poison := rfl
@[simp] theorem State.setLp_cur_dbg (l : Vector LoopLevel 8) : (s.setLp l).cur.dbg = s.cur.dbg := rfl
@[simp] theorem State.setLp_cur_thr (l : Vector LoopLevel 8) : (s.setLp l).cur.thr = s.cur.thr := rfl

/-! `setPc` -/

@[simp] theorem State.setPc_oth (a : BitVec 52) : (s.setPc a).oth = s.oth := rfl
@[simp] theorem State.setPc_core (a : BitVec 52) : (s.setPc a).core = s.core := rfl
@[simp] theorem State.setPc_dev (a : BitVec 52) : (s.setPc a).dev = s.dev := rfl
@[simp] theorem State.setPc_mem (a : BitVec 52) : (s.setPc a).mem = s.mem := rfl
@[simp] theorem State.setPc_bad (a : BitVec 52) : (s.setPc a).bad = s.bad := rfl
@[simp] theorem State.setPc_cache (a : BitVec 52) : (s.setPc a).cache = s.cache := rfl
@[simp] theorem State.setPc_agenda (a : BitVec 52) : (s.setPc a).agenda = s.agenda := rfl
@[simp] theorem State.setPc_forced (a : BitVec 52) : (s.setPc a).forced = s.forced := rfl
@[simp] theorem State.setPc_free (a : BitVec 52) : (s.setPc a).free = s.free := rfl
@[simp] theorem State.setPc_cur_id (a : BitVec 52) : (s.setPc a).cur.id = s.cur.id := rfl
@[simp] theorem State.setPc_cur_pc (a : BitVec 52) : (s.setPc a).cur.pc = a := rfl
@[simp] theorem State.setPc_cur_half (a : BitVec 52) : (s.setPc a).cur.half = s.cur.half := rfl
@[simp] theorem State.setPc_cur_obj (a : BitVec 52) : (s.setPc a).cur.obj = s.cur.obj := rfl
@[simp] theorem State.setPc_cur_x (a : BitVec 52) : (s.setPc a).cur.x = s.cur.x := rfl
@[simp] theorem State.setPc_cur_fm (a : BitVec 52) : (s.setPc a).cur.fm = s.cur.fm := rfl
@[simp] theorem State.setPc_cur_v (a : BitVec 52) : (s.setPc a).cur.v = s.cur.v := rfl
@[simp] theorem State.setPc_cur_m (a : BitVec 52) : (s.setPc a).cur.m = s.cur.m := rfl
@[simp] theorem State.setPc_cur_ac (a : BitVec 52) : (s.setPc a).cur.ac = s.cur.ac := rfl
@[simp] theorem State.setPc_cur_ts (a : BitVec 52) : (s.setPc a).cur.ts = s.cur.ts := rfl
@[simp] theorem State.setPc_cur_tags (a : BitVec 52) : (s.setPc a).cur.tags = s.cur.tags := rfl
@[simp] theorem State.setPc_cur_viq (a : BitVec 52) : (s.setPc a).cur.viq = s.cur.viq := rfl
@[simp] theorem State.setPc_cur_frozen (a : BitVec 52) : (s.setPc a).cur.frozen = s.cur.frozen := rfl
@[simp] theorem State.setPc_cur_convoy (a : BitVec 52) : (s.setPc a).cur.convoy = s.cur.convoy := rfl
@[simp] theorem State.setPc_cur_u (a : BitVec 52) : (s.setPc a).cur.u = s.cur.u := rfl
@[simp] theorem State.setPc_cur_lp (a : BitVec 52) : (s.setPc a).cur.lp = s.cur.lp := rfl
@[simp] theorem State.setPc_cur_sys (a : BitVec 52) : (s.setPc a).cur.sys = s.cur.sys := rfl
@[simp] theorem State.setPc_cur_ext (a : BitVec 52) : (s.setPc a).cur.ext = s.cur.ext := rfl
@[simp] theorem State.setPc_cur_poison (a : BitVec 52) : (s.setPc a).cur.poison = s.cur.poison := rfl
@[simp] theorem State.setPc_cur_dbg (a : BitVec 52) : (s.setPc a).cur.dbg = s.cur.dbg := rfl
@[simp] theorem State.setPc_cur_thr (a : BitVec 52) : (s.setPc a).cur.thr = s.cur.thr := rfl

/-! `setHalf` -/

@[simp] theorem State.setHalf_oth (b : Bool) : (s.setHalf b).oth = s.oth := rfl
@[simp] theorem State.setHalf_core (b : Bool) : (s.setHalf b).core = s.core := rfl
@[simp] theorem State.setHalf_dev (b : Bool) : (s.setHalf b).dev = s.dev := rfl
@[simp] theorem State.setHalf_mem (b : Bool) : (s.setHalf b).mem = s.mem := rfl
@[simp] theorem State.setHalf_bad (b : Bool) : (s.setHalf b).bad = s.bad := rfl
@[simp] theorem State.setHalf_cache (b : Bool) : (s.setHalf b).cache = s.cache := rfl
@[simp] theorem State.setHalf_agenda (b : Bool) : (s.setHalf b).agenda = s.agenda := rfl
@[simp] theorem State.setHalf_forced (b : Bool) : (s.setHalf b).forced = s.forced := rfl
@[simp] theorem State.setHalf_free (b : Bool) : (s.setHalf b).free = s.free := rfl
@[simp] theorem State.setHalf_cur_id (b : Bool) : (s.setHalf b).cur.id = s.cur.id := rfl
@[simp] theorem State.setHalf_cur_pc (b : Bool) : (s.setHalf b).cur.pc = s.cur.pc := rfl
@[simp] theorem State.setHalf_cur_half (b : Bool) : (s.setHalf b).cur.half = b := rfl
@[simp] theorem State.setHalf_cur_obj (b : Bool) : (s.setHalf b).cur.obj = s.cur.obj := rfl
@[simp] theorem State.setHalf_cur_x (b : Bool) : (s.setHalf b).cur.x = s.cur.x := rfl
@[simp] theorem State.setHalf_cur_fm (b : Bool) : (s.setHalf b).cur.fm = s.cur.fm := rfl
@[simp] theorem State.setHalf_cur_v (b : Bool) : (s.setHalf b).cur.v = s.cur.v := rfl
@[simp] theorem State.setHalf_cur_m (b : Bool) : (s.setHalf b).cur.m = s.cur.m := rfl
@[simp] theorem State.setHalf_cur_ac (b : Bool) : (s.setHalf b).cur.ac = s.cur.ac := rfl
@[simp] theorem State.setHalf_cur_ts (b : Bool) : (s.setHalf b).cur.ts = s.cur.ts := rfl
@[simp] theorem State.setHalf_cur_tags (b : Bool) : (s.setHalf b).cur.tags = s.cur.tags := rfl
@[simp] theorem State.setHalf_cur_viq (b : Bool) : (s.setHalf b).cur.viq = s.cur.viq := rfl
@[simp] theorem State.setHalf_cur_frozen (b : Bool) : (s.setHalf b).cur.frozen = s.cur.frozen := rfl
@[simp] theorem State.setHalf_cur_convoy (b : Bool) : (s.setHalf b).cur.convoy = s.cur.convoy := rfl
@[simp] theorem State.setHalf_cur_u (b : Bool) : (s.setHalf b).cur.u = s.cur.u := rfl
@[simp] theorem State.setHalf_cur_lp (b : Bool) : (s.setHalf b).cur.lp = s.cur.lp := rfl
@[simp] theorem State.setHalf_cur_sys (b : Bool) : (s.setHalf b).cur.sys = s.cur.sys := rfl
@[simp] theorem State.setHalf_cur_ext (b : Bool) : (s.setHalf b).cur.ext = s.cur.ext := rfl
@[simp] theorem State.setHalf_cur_poison (b : Bool) : (s.setHalf b).cur.poison = s.cur.poison := rfl
@[simp] theorem State.setHalf_cur_dbg (b : Bool) : (s.setHalf b).cur.dbg = s.cur.dbg := rfl
@[simp] theorem State.setHalf_cur_thr (b : Bool) : (s.setHalf b).cur.thr = s.cur.thr := rfl

/-! `setObj` -/

@[simp] theorem State.setObj_oth (o : Option (BitVec 52 × Word × Nat)) : (s.setObj o).oth = s.oth := rfl
@[simp] theorem State.setObj_core (o : Option (BitVec 52 × Word × Nat)) : (s.setObj o).core = s.core := rfl
@[simp] theorem State.setObj_dev (o : Option (BitVec 52 × Word × Nat)) : (s.setObj o).dev = s.dev := rfl
@[simp] theorem State.setObj_mem (o : Option (BitVec 52 × Word × Nat)) : (s.setObj o).mem = s.mem := rfl
@[simp] theorem State.setObj_bad (o : Option (BitVec 52 × Word × Nat)) : (s.setObj o).bad = s.bad := rfl
@[simp] theorem State.setObj_cache (o : Option (BitVec 52 × Word × Nat)) : (s.setObj o).cache = s.cache := rfl
@[simp] theorem State.setObj_agenda (o : Option (BitVec 52 × Word × Nat)) : (s.setObj o).agenda = s.agenda := rfl
@[simp] theorem State.setObj_forced (o : Option (BitVec 52 × Word × Nat)) : (s.setObj o).forced = s.forced := rfl
@[simp] theorem State.setObj_free (o : Option (BitVec 52 × Word × Nat)) : (s.setObj o).free = s.free := rfl
@[simp] theorem State.setObj_cur_id (o : Option (BitVec 52 × Word × Nat)) : (s.setObj o).cur.id = s.cur.id := rfl
@[simp] theorem State.setObj_cur_pc (o : Option (BitVec 52 × Word × Nat)) : (s.setObj o).cur.pc = s.cur.pc := rfl
@[simp] theorem State.setObj_cur_half (o : Option (BitVec 52 × Word × Nat)) : (s.setObj o).cur.half = s.cur.half := rfl
@[simp] theorem State.setObj_cur_obj (o : Option (BitVec 52 × Word × Nat)) : (s.setObj o).cur.obj = o := rfl
@[simp] theorem State.setObj_cur_x (o : Option (BitVec 52 × Word × Nat)) : (s.setObj o).cur.x = s.cur.x := rfl
@[simp] theorem State.setObj_cur_fm (o : Option (BitVec 52 × Word × Nat)) : (s.setObj o).cur.fm = s.cur.fm := rfl
@[simp] theorem State.setObj_cur_v (o : Option (BitVec 52 × Word × Nat)) : (s.setObj o).cur.v = s.cur.v := rfl
@[simp] theorem State.setObj_cur_m (o : Option (BitVec 52 × Word × Nat)) : (s.setObj o).cur.m = s.cur.m := rfl
@[simp] theorem State.setObj_cur_ac (o : Option (BitVec 52 × Word × Nat)) : (s.setObj o).cur.ac = s.cur.ac := rfl
@[simp] theorem State.setObj_cur_ts (o : Option (BitVec 52 × Word × Nat)) : (s.setObj o).cur.ts = s.cur.ts := rfl
@[simp] theorem State.setObj_cur_tags (o : Option (BitVec 52 × Word × Nat)) : (s.setObj o).cur.tags = s.cur.tags := rfl
@[simp] theorem State.setObj_cur_viq (o : Option (BitVec 52 × Word × Nat)) : (s.setObj o).cur.viq = s.cur.viq := rfl
@[simp] theorem State.setObj_cur_frozen (o : Option (BitVec 52 × Word × Nat)) : (s.setObj o).cur.frozen = s.cur.frozen := rfl
@[simp] theorem State.setObj_cur_convoy (o : Option (BitVec 52 × Word × Nat)) : (s.setObj o).cur.convoy = s.cur.convoy := rfl
@[simp] theorem State.setObj_cur_u (o : Option (BitVec 52 × Word × Nat)) : (s.setObj o).cur.u = s.cur.u := rfl
@[simp] theorem State.setObj_cur_lp (o : Option (BitVec 52 × Word × Nat)) : (s.setObj o).cur.lp = s.cur.lp := rfl
@[simp] theorem State.setObj_cur_sys (o : Option (BitVec 52 × Word × Nat)) : (s.setObj o).cur.sys = s.cur.sys := rfl
@[simp] theorem State.setObj_cur_ext (o : Option (BitVec 52 × Word × Nat)) : (s.setObj o).cur.ext = s.cur.ext := rfl
@[simp] theorem State.setObj_cur_poison (o : Option (BitVec 52 × Word × Nat)) : (s.setObj o).cur.poison = s.cur.poison := rfl
@[simp] theorem State.setObj_cur_dbg (o : Option (BitVec 52 × Word × Nat)) : (s.setObj o).cur.dbg = s.cur.dbg := rfl
@[simp] theorem State.setObj_cur_thr (o : Option (BitVec 52 × Word × Nat)) : (s.setObj o).cur.thr = s.cur.thr := rfl

/-! `setDbg` -/

@[simp] theorem State.setDbg_oth (d : DbgRegs) : (s.setDbg d).oth = s.oth := rfl
@[simp] theorem State.setDbg_core (d : DbgRegs) : (s.setDbg d).core = s.core := rfl
@[simp] theorem State.setDbg_dev (d : DbgRegs) : (s.setDbg d).dev = s.dev := rfl
@[simp] theorem State.setDbg_mem (d : DbgRegs) : (s.setDbg d).mem = s.mem := rfl
@[simp] theorem State.setDbg_bad (d : DbgRegs) : (s.setDbg d).bad = s.bad := rfl
@[simp] theorem State.setDbg_cache (d : DbgRegs) : (s.setDbg d).cache = s.cache := rfl
@[simp] theorem State.setDbg_agenda (d : DbgRegs) : (s.setDbg d).agenda = s.agenda := rfl
@[simp] theorem State.setDbg_forced (d : DbgRegs) : (s.setDbg d).forced = s.forced := rfl
@[simp] theorem State.setDbg_free (d : DbgRegs) : (s.setDbg d).free = s.free := rfl
@[simp] theorem State.setDbg_cur_id (d : DbgRegs) : (s.setDbg d).cur.id = s.cur.id := rfl
@[simp] theorem State.setDbg_cur_pc (d : DbgRegs) : (s.setDbg d).cur.pc = s.cur.pc := rfl
@[simp] theorem State.setDbg_cur_half (d : DbgRegs) : (s.setDbg d).cur.half = s.cur.half := rfl
@[simp] theorem State.setDbg_cur_obj (d : DbgRegs) : (s.setDbg d).cur.obj = s.cur.obj := rfl
@[simp] theorem State.setDbg_cur_x (d : DbgRegs) : (s.setDbg d).cur.x = s.cur.x := rfl
@[simp] theorem State.setDbg_cur_fm (d : DbgRegs) : (s.setDbg d).cur.fm = s.cur.fm := rfl
@[simp] theorem State.setDbg_cur_v (d : DbgRegs) : (s.setDbg d).cur.v = s.cur.v := rfl
@[simp] theorem State.setDbg_cur_m (d : DbgRegs) : (s.setDbg d).cur.m = s.cur.m := rfl
@[simp] theorem State.setDbg_cur_ac (d : DbgRegs) : (s.setDbg d).cur.ac = s.cur.ac := rfl
@[simp] theorem State.setDbg_cur_ts (d : DbgRegs) : (s.setDbg d).cur.ts = s.cur.ts := rfl
@[simp] theorem State.setDbg_cur_tags (d : DbgRegs) : (s.setDbg d).cur.tags = s.cur.tags := rfl
@[simp] theorem State.setDbg_cur_viq (d : DbgRegs) : (s.setDbg d).cur.viq = s.cur.viq := rfl
@[simp] theorem State.setDbg_cur_frozen (d : DbgRegs) : (s.setDbg d).cur.frozen = s.cur.frozen := rfl
@[simp] theorem State.setDbg_cur_convoy (d : DbgRegs) : (s.setDbg d).cur.convoy = s.cur.convoy := rfl
@[simp] theorem State.setDbg_cur_u (d : DbgRegs) : (s.setDbg d).cur.u = s.cur.u := rfl
@[simp] theorem State.setDbg_cur_lp (d : DbgRegs) : (s.setDbg d).cur.lp = s.cur.lp := rfl
@[simp] theorem State.setDbg_cur_sys (d : DbgRegs) : (s.setDbg d).cur.sys = s.cur.sys := rfl
@[simp] theorem State.setDbg_cur_ext (d : DbgRegs) : (s.setDbg d).cur.ext = s.cur.ext := rfl
@[simp] theorem State.setDbg_cur_poison (d : DbgRegs) : (s.setDbg d).cur.poison = s.cur.poison := rfl
@[simp] theorem State.setDbg_cur_dbg (d : DbgRegs) : (s.setDbg d).cur.dbg = d := rfl
@[simp] theorem State.setDbg_cur_thr (d : DbgRegs) : (s.setDbg d).cur.thr = s.cur.thr := rfl

/-! `setPoison` -/

@[simp] theorem State.setPoison_oth (p : Poison) : (s.setPoison p).oth = s.oth := rfl
@[simp] theorem State.setPoison_core (p : Poison) : (s.setPoison p).core = s.core := rfl
@[simp] theorem State.setPoison_dev (p : Poison) : (s.setPoison p).dev = s.dev := rfl
@[simp] theorem State.setPoison_mem (p : Poison) : (s.setPoison p).mem = s.mem := rfl
@[simp] theorem State.setPoison_bad (p : Poison) : (s.setPoison p).bad = s.bad := rfl
@[simp] theorem State.setPoison_cache (p : Poison) : (s.setPoison p).cache = s.cache := rfl
@[simp] theorem State.setPoison_agenda (p : Poison) : (s.setPoison p).agenda = s.agenda := rfl
@[simp] theorem State.setPoison_forced (p : Poison) : (s.setPoison p).forced = s.forced := rfl
@[simp] theorem State.setPoison_free (p : Poison) : (s.setPoison p).free = s.free := rfl
@[simp] theorem State.setPoison_cur_id (p : Poison) : (s.setPoison p).cur.id = s.cur.id := rfl
@[simp] theorem State.setPoison_cur_pc (p : Poison) : (s.setPoison p).cur.pc = s.cur.pc := rfl
@[simp] theorem State.setPoison_cur_half (p : Poison) : (s.setPoison p).cur.half = s.cur.half := rfl
@[simp] theorem State.setPoison_cur_obj (p : Poison) : (s.setPoison p).cur.obj = s.cur.obj := rfl
@[simp] theorem State.setPoison_cur_x (p : Poison) : (s.setPoison p).cur.x = s.cur.x := rfl
@[simp] theorem State.setPoison_cur_fm (p : Poison) : (s.setPoison p).cur.fm = s.cur.fm := rfl
@[simp] theorem State.setPoison_cur_v (p : Poison) : (s.setPoison p).cur.v = s.cur.v := rfl
@[simp] theorem State.setPoison_cur_m (p : Poison) : (s.setPoison p).cur.m = s.cur.m := rfl
@[simp] theorem State.setPoison_cur_ac (p : Poison) : (s.setPoison p).cur.ac = s.cur.ac := rfl
@[simp] theorem State.setPoison_cur_ts (p : Poison) : (s.setPoison p).cur.ts = s.cur.ts := rfl
@[simp] theorem State.setPoison_cur_tags (p : Poison) : (s.setPoison p).cur.tags = s.cur.tags := rfl
@[simp] theorem State.setPoison_cur_viq (p : Poison) : (s.setPoison p).cur.viq = s.cur.viq := rfl
@[simp] theorem State.setPoison_cur_frozen (p : Poison) : (s.setPoison p).cur.frozen = s.cur.frozen := rfl
@[simp] theorem State.setPoison_cur_convoy (p : Poison) : (s.setPoison p).cur.convoy = s.cur.convoy := rfl
@[simp] theorem State.setPoison_cur_u (p : Poison) : (s.setPoison p).cur.u = s.cur.u := rfl
@[simp] theorem State.setPoison_cur_lp (p : Poison) : (s.setPoison p).cur.lp = s.cur.lp := rfl
@[simp] theorem State.setPoison_cur_sys (p : Poison) : (s.setPoison p).cur.sys = s.cur.sys := rfl
@[simp] theorem State.setPoison_cur_ext (p : Poison) : (s.setPoison p).cur.ext = s.cur.ext := rfl
@[simp] theorem State.setPoison_cur_poison (p : Poison) : (s.setPoison p).cur.poison = p := rfl
@[simp] theorem State.setPoison_cur_dbg (p : Poison) : (s.setPoison p).cur.dbg = s.cur.dbg := rfl
@[simp] theorem State.setPoison_cur_thr (p : Poison) : (s.setPoison p).cur.thr = s.cur.thr := rfl

/-! `setWait` -/

@[simp] theorem State.setWait_oth (w : Wait) : (s.setWait w).oth = s.oth := rfl
@[simp] theorem State.setWait_core (w : Wait) : (s.setWait w).core = s.core := rfl
@[simp] theorem State.setWait_dev (w : Wait) : (s.setWait w).dev = s.dev := rfl
@[simp] theorem State.setWait_mem (w : Wait) : (s.setWait w).mem = s.mem := rfl
@[simp] theorem State.setWait_bad (w : Wait) : (s.setWait w).bad = s.bad := rfl
@[simp] theorem State.setWait_cache (w : Wait) : (s.setWait w).cache = s.cache := rfl
@[simp] theorem State.setWait_agenda (w : Wait) : (s.setWait w).agenda = s.agenda := rfl
@[simp] theorem State.setWait_forced (w : Wait) : (s.setWait w).forced = s.forced := rfl
@[simp] theorem State.setWait_free (w : Wait) : (s.setWait w).free = s.free := rfl
@[simp] theorem State.setWait_cur_id (w : Wait) : (s.setWait w).cur.id = s.cur.id := rfl
@[simp] theorem State.setWait_cur_pc (w : Wait) : (s.setWait w).cur.pc = s.cur.pc := rfl
@[simp] theorem State.setWait_cur_half (w : Wait) : (s.setWait w).cur.half = s.cur.half := rfl
@[simp] theorem State.setWait_cur_obj (w : Wait) : (s.setWait w).cur.obj = s.cur.obj := rfl
@[simp] theorem State.setWait_cur_x (w : Wait) : (s.setWait w).cur.x = s.cur.x := rfl
@[simp] theorem State.setWait_cur_fm (w : Wait) : (s.setWait w).cur.fm = s.cur.fm := rfl
@[simp] theorem State.setWait_cur_v (w : Wait) : (s.setWait w).cur.v = s.cur.v := rfl
@[simp] theorem State.setWait_cur_m (w : Wait) : (s.setWait w).cur.m = s.cur.m := rfl
@[simp] theorem State.setWait_cur_ac (w : Wait) : (s.setWait w).cur.ac = s.cur.ac := rfl
@[simp] theorem State.setWait_cur_ts (w : Wait) : (s.setWait w).cur.ts = s.cur.ts := rfl
@[simp] theorem State.setWait_cur_tags (w : Wait) : (s.setWait w).cur.tags = s.cur.tags := rfl
@[simp] theorem State.setWait_cur_viq (w : Wait) : (s.setWait w).cur.viq = s.cur.viq := rfl
@[simp] theorem State.setWait_cur_frozen (w : Wait) : (s.setWait w).cur.frozen = s.cur.frozen := rfl
@[simp] theorem State.setWait_cur_convoy (w : Wait) : (s.setWait w).cur.convoy = s.cur.convoy := rfl
@[simp] theorem State.setWait_cur_u (w : Wait) : (s.setWait w).cur.u = s.cur.u := rfl
@[simp] theorem State.setWait_cur_lp (w : Wait) : (s.setWait w).cur.lp = s.cur.lp := rfl
@[simp] theorem State.setWait_cur_sys (w : Wait) : (s.setWait w).cur.sys = s.cur.sys := rfl
@[simp] theorem State.setWait_cur_ext (w : Wait) : (s.setWait w).cur.ext = s.cur.ext := rfl
@[simp] theorem State.setWait_cur_poison (w : Wait) : (s.setWait w).cur.poison = s.cur.poison := rfl
@[simp] theorem State.setWait_cur_dbg (w : Wait) : (s.setWait w).cur.dbg = s.cur.dbg := rfl
@[simp] theorem State.setWait_cur_thr (w : Wait) : (s.setWait w).cur.thr = { s.cur.thr with wait := w } := rfl

/-! `putMem` -/

@[simp] theorem State.putMem_core (a : Nat) (bs : List Byte) : (s.putMem a bs).core = s.core := rfl
@[simp] theorem State.putMem_dev (a : Nat) (bs : List Byte) : (s.putMem a bs).dev = s.dev := rfl
@[simp] theorem State.putMem_agenda (a : Nat) (bs : List Byte) : (s.putMem a bs).agenda = s.agenda := rfl
@[simp] theorem State.putMem_forced (a : Nat) (bs : List Byte) : (s.putMem a bs).forced = s.forced := rfl
@[simp] theorem State.putMem_free (a : Nat) (bs : List Byte) : (s.putMem a bs).free = s.free := rfl
@[simp] theorem State.putMem_mem (a : Nat) (bs : List Byte) : (s.putMem a bs).mem = s.mem.write a bs := rfl
@[simp] theorem State.putMem_cur_id (a : Nat) (bs : List Byte) : (s.putMem a bs).cur.id = s.cur.id := rfl
@[simp] theorem State.putMem_cur_pc (a : Nat) (bs : List Byte) : (s.putMem a bs).cur.pc = s.cur.pc := rfl
@[simp] theorem State.putMem_cur_half (a : Nat) (bs : List Byte) : (s.putMem a bs).cur.half = s.cur.half := rfl
@[simp] theorem State.putMem_cur_obj (a : Nat) (bs : List Byte) : (s.putMem a bs).cur.obj = s.cur.obj := rfl
@[simp] theorem State.putMem_cur_x (a : Nat) (bs : List Byte) : (s.putMem a bs).cur.x = s.cur.x := rfl
@[simp] theorem State.putMem_cur_fm (a : Nat) (bs : List Byte) : (s.putMem a bs).cur.fm = s.cur.fm := rfl
@[simp] theorem State.putMem_cur_v (a : Nat) (bs : List Byte) : (s.putMem a bs).cur.v = s.cur.v := rfl
@[simp] theorem State.putMem_cur_m (a : Nat) (bs : List Byte) : (s.putMem a bs).cur.m = s.cur.m := rfl
@[simp] theorem State.putMem_cur_ac (a : Nat) (bs : List Byte) : (s.putMem a bs).cur.ac = s.cur.ac := rfl
@[simp] theorem State.putMem_cur_ts (a : Nat) (bs : List Byte) : (s.putMem a bs).cur.ts = s.cur.ts := rfl
@[simp] theorem State.putMem_cur_tags (a : Nat) (bs : List Byte) : (s.putMem a bs).cur.tags = s.cur.tags := rfl
@[simp] theorem State.putMem_cur_viq (a : Nat) (bs : List Byte) : (s.putMem a bs).cur.viq = s.cur.viq := rfl
@[simp] theorem State.putMem_cur_frozen (a : Nat) (bs : List Byte) : (s.putMem a bs).cur.frozen = s.cur.frozen := rfl
@[simp] theorem State.putMem_cur_convoy (a : Nat) (bs : List Byte) : (s.putMem a bs).cur.convoy = s.cur.convoy := rfl
@[simp] theorem State.putMem_cur_u (a : Nat) (bs : List Byte) : (s.putMem a bs).cur.u = s.cur.u := rfl
@[simp] theorem State.putMem_cur_lp (a : Nat) (bs : List Byte) : (s.putMem a bs).cur.lp = s.cur.lp := rfl
@[simp] theorem State.putMem_cur_sys (a : Nat) (bs : List Byte) : (s.putMem a bs).cur.sys = s.cur.sys := rfl
@[simp] theorem State.putMem_cur_ext (a : Nat) (bs : List Byte) : (s.putMem a bs).cur.ext = s.cur.ext := rfl
@[simp] theorem State.putMem_cur_poison (a : Nat) (bs : List Byte) : (s.putMem a bs).cur.poison = s.cur.poison := rfl
@[simp] theorem State.putMem_cur_dbg (a : Nat) (bs : List Byte) : (s.putMem a bs).cur.dbg = s.cur.dbg := rfl
@[simp] theorem State.putMem_oth_id (a : Nat) (bs : List Byte) : (s.putMem a bs).oth.id = s.oth.id := rfl
@[simp] theorem State.putMem_oth_pc (a : Nat) (bs : List Byte) : (s.putMem a bs).oth.pc = s.oth.pc := rfl
@[simp] theorem State.putMem_oth_half (a : Nat) (bs : List Byte) : (s.putMem a bs).oth.half = s.oth.half := rfl
@[simp] theorem State.putMem_oth_obj (a : Nat) (bs : List Byte) : (s.putMem a bs).oth.obj = s.oth.obj := rfl
@[simp] theorem State.putMem_oth_x (a : Nat) (bs : List Byte) : (s.putMem a bs).oth.x = s.oth.x := rfl
@[simp] theorem State.putMem_oth_fm (a : Nat) (bs : List Byte) : (s.putMem a bs).oth.fm = s.oth.fm := rfl
@[simp] theorem State.putMem_oth_v (a : Nat) (bs : List Byte) : (s.putMem a bs).oth.v = s.oth.v := rfl
@[simp] theorem State.putMem_oth_m (a : Nat) (bs : List Byte) : (s.putMem a bs).oth.m = s.oth.m := rfl
@[simp] theorem State.putMem_oth_ac (a : Nat) (bs : List Byte) : (s.putMem a bs).oth.ac = s.oth.ac := rfl
@[simp] theorem State.putMem_oth_ts (a : Nat) (bs : List Byte) : (s.putMem a bs).oth.ts = s.oth.ts := rfl
@[simp] theorem State.putMem_oth_tags (a : Nat) (bs : List Byte) : (s.putMem a bs).oth.tags = s.oth.tags := rfl
@[simp] theorem State.putMem_oth_viq (a : Nat) (bs : List Byte) : (s.putMem a bs).oth.viq = s.oth.viq := rfl
@[simp] theorem State.putMem_oth_frozen (a : Nat) (bs : List Byte) : (s.putMem a bs).oth.frozen = s.oth.frozen := rfl
@[simp] theorem State.putMem_oth_convoy (a : Nat) (bs : List Byte) : (s.putMem a bs).oth.convoy = s.oth.convoy := rfl
@[simp] theorem State.putMem_oth_u (a : Nat) (bs : List Byte) : (s.putMem a bs).oth.u = s.oth.u := rfl
@[simp] theorem State.putMem_oth_lp (a : Nat) (bs : List Byte) : (s.putMem a bs).oth.lp = s.oth.lp := rfl
@[simp] theorem State.putMem_oth_sys (a : Nat) (bs : List Byte) : (s.putMem a bs).oth.sys = s.oth.sys := rfl
@[simp] theorem State.putMem_oth_ext (a : Nat) (bs : List Byte) : (s.putMem a bs).oth.ext = s.oth.ext := rfl
@[simp] theorem State.putMem_oth_poison (a : Nat) (bs : List Byte) : (s.putMem a bs).oth.poison = s.oth.poison := rfl
@[simp] theorem State.putMem_oth_dbg (a : Nat) (bs : List Byte) : (s.putMem a bs).oth.dbg = s.oth.dbg := rfl

end

end Sys2Proof.Machine
end

