-- ==== Sys2Proof/Laws/Ops.lean ====
section
/-! SUPPORT. What the shared operations do: registers, free values, retirement, traps. -/

namespace Sys2Proof.Machine

/-! Registers. -/

@[simp] theorem State.x_zero (s : State) : s.x 0 = 0 := rfl

@[simp] theorem State.writeX_zero (s : State) (v : Word) : s.writeX 0 v = s := rfl

/-- `x` depends on the registers of the current context alone. -/
theorem State.x_congr {s t : State} (h : t.cur.x = s.cur.x) (r : BitVec 5) : t.x r = s.x r := by
  unfold State.x; rw [h]

@[simp] theorem xPoisoned_nil (s : State) : s.xPoisoned [] = false := rfl

theorem xPoisoned_cons (s : State) (r : BitVec 5) (rs : List (BitVec 5)) :
    s.xPoisoned (r :: rs) = (s.xPoisoned [r] || s.xPoisoned rs) := by simp [State.xPoisoned]

/-- Without a poisoned source the instruction goes on. -/
theorem withX_clean {rs : List (BitVec 5)} {s : State} (h : s.xPoisoned rs = false) (k : State) : withX rs s k = k := by
  simp [withX, h]

/-- With one it traps. -/
theorem withX_poisoned {rs : List (BitVec 5)} {s : State} (h : s.xPoisoned rs = true) (k : State) :
    withX rs s k = s.trap cPoison 0 := by
  simp [withX, h]

theorem vget_vset {α : Type} {n : Nat} (v : Vector α (2 ^ n)) (i j : BitVec n) (a : α) :
    vget (vset v i a) j = if i = j then a else vget v j := by
  simp only [vget, vset, Vector.getElem_set, BitVec.toNat_inj]

/-! Free values. -/

theorem State.pick_lt (s : State) {n : Nat} (h : 0 < n) : (s.pick n).1 < n := Nat.mod_lt _ h

@[simp] theorem State.pick_state (s : State) (n : Nat) : (s.pick n).2 = { s with free := s.free + 1 } := rfl

/-! Retirement. -/

/-- HASH and the pc are all that the end of the loop check changes. -/
theorem continueAt_frame (s : State) (a : BitVec 52) (n : Nat) :
    ∃ h, s.continueAt a n = { s with cur := { s.cur with pc := a, thr := { s.cur.thr with hash := h } } } := by
  induction n generalizing s with
  | zero => exact ⟨_, rfl⟩
  | succ n ih => obtain ⟨h, e⟩ := ih (s.mixHash a); exact ⟨h, by rw [State.continueAt, e]; rfl⟩

/-- What a closed loop may change. -/
theorem closeLoops_frame (pc a : BitVec 52) (fuel n : Nat) (s : State) :
    ∃ q lp x p l h, closeLoops pc a fuel n s = { s with cur := { s.cur with
      pc := q, lp := lp, x := x, poison := { s.cur.poison with x := p }, u := { s.cur.u with lastd := l },
      thr := { s.cur.thr with hash := h } } } := by
  have stop : ∀ (t : State) (lp : Vector LoopLevel 8) (b : BitVec 52) (k : Nat),
      ∃ q lp' x p l h, (t.setLp lp).continueAt b k = { t with cur := { t.cur with
        pc := q, lp := lp', x := x, poison := { t.cur.poison with x := p }, u := { t.cur.u with lastd := l },
        thr := { t.cur.thr with hash := h } } } := by
    intro t lp b k
    obtain ⟨h, e⟩ := continueAt_frame (t.setLp lp) b k
    exact ⟨b, lp, _, _, _, h, e⟩
  induction fuel generalizing s n with
  | zero => exact stop s s.cur.lp a n
  | succ fuel ih =>
    unfold closeLoops
    split
    · exact stop s s.cur.lp a n
    · dsimp only
      split
      · split
        · generalize hw : State.writeX _ _ _ = w
          obtain ⟨h, e⟩ := continueAt_frame w _ (n + 1)
          rw [e]
          subst hw
          unfold State.writeX State.putX State.setXlast
          split <;> exact ⟨_, _, _, _, _, _, rfl⟩
        · obtain ⟨q, lp, x, p, l, h, e⟩ := ih (n + 1) (s.setLp _)
          rw [e]; exact ⟨q, lp, x, p, l, h, rfl⟩
      · split
        · exact stop s _ a n
        · exact stop s s.cur.lp a n

/-- What the retirement of an instruction changes: the pc, one more retired instruction, which counters may count, and what a closing loop
writes. -/
theorem State.retire_frame (s : State) (len : Nat) :
    ∃ q lp x p l h, s.retire len = { s with cur := { s.cur with
      pc := q, half := false, lp := lp, x := x, poison := { s.cur.poison with x := p }, dbg := s.cur.counted s.cur.sys.mode 0x51 1,
      u := { s.cur.u with instret := s.cur.u.instret + 1, lastd := l }, thr := { s.cur.thr with hash := h } } } := by
  unfold State.retire State.retireTo
  dsimp only
  split
  · obtain ⟨q, lp, x, p, l, h, e⟩ := closeLoops_frame (s.countRetired.setHalf false).cur.pc
      (s.cur.pc + BitVec.ofNat 52 len) 8 0 (s.countRetired.setHalf false)
    rw [e]; exact ⟨q, lp, x, p, l, h, rfl⟩
  · exact ⟨_, _, _, _, _, _, rfl⟩

/-- Outside user mode a retirement only moves the pc and counts. -/
theorem State.retire_system {s : State} (h : s.user = false) (len : Nat) :
    s.retire len = { s with cur := { s.cur with
      pc := s.cur.pc + BitVec.ofNat 52 len, half := false, dbg := s.cur.counted s.cur.sys.mode 0x51 1,
      u := { s.cur.u with instret := s.cur.u.instret + 1 } } } := by
  have h' : (s.countRetired.setHalf false).user = false := h
  simp only [State.retire, State.retireTo, h']
  rfl

/-! Traps. -/

/-- A freeze leaves every register but `m15`, and the entries of the queue keep their places (R324). -/
theorem Ctx.freeze_frame (c : Ctx) :
    ∃ m, c.freeze = { c with frozen := true, convoy := none, viq := c.viq.map (·.freeze (vget (n := 4) c.m 15)), m := m } :=
  ⟨_, rfl⟩

/-- A trap in user mode (R307). -/
theorem State.trap_user {s : State} (h : s.user = true) (code : BitVec 8) (tval : Word) :
    s.trap code tval = { s with cur := { s.cur.freeze with
      half := false, pc := s.cur.sys.tvec.setWidth 52 &&& ~~~3#52
      thr := { s.cur.thr with wait := .none }
      sys := { s.cur.sys with mode := .system, epc := s.epcNow, cause := causeWord false none code, tval := tval } } } := by
  simp [State.trap, State.takeTrap, h, State.setCur]

/-- A trap in system mode is a monitor fault (R309). -/
theorem State.trap_system {s : State} (h : s.user = false) (code : BitVec 8) (tval : Word) :
    s.trap code tval = s.monitorFault := by
  simp [State.trap, State.takeTrap, h]

/-- The end of a thread (R23, R323). -/
theorem State.endThread_thr (s : State) (failed : Bool) :
    (s.endThread failed).cur.thr.live = false ∧ (s.endThread failed).cur.thr.ended = some failed ∧
    (s.endThread failed).cur.viq = [] ∧ (s.endThread failed).user = true := ⟨rfl, rfl, rfl, rfl⟩

end Sys2Proof.Machine
end

