-- ==== Sys2Proof/Laws/PerInstr.lean ====
section
/-! SUPPORT. Facts about every instruction as syntax, one lemma per constructor. -/

namespace Sys2Proof.Laws

/-- The words of an encoded instruction carry the length bits of their form (R24), so a byte string that begins with them is cut at
their end. -/
def LengthBits.Statement (i : Instr) : Prop := ∀ c, encode i = some c → c.lengthOk = true

theorem LengthBits.add (o : OpR) : LengthBits.Statement (.add o) := fun _ h => Option.some.inj h ▸ std_lengthOk _ _ _
theorem LengthBits.sub (o : OpR) : LengthBits.Statement (.sub o) := fun _ h => Option.some.inj h ▸ std_lengthOk _ _ _
theorem LengthBits.and (o : OpR) : LengthBits.Statement (.and o) := fun _ h => Option.some.inj h ▸ std_lengthOk _ _ _
theorem LengthBits.or (o : OpR) : LengthBits.Statement (.or o) := fun _ h => Option.some.inj h ▸ std_lengthOk _ _ _
theorem LengthBits.xor (o : OpR) : LengthBits.Statement (.xor o) := fun _ h => Option.some.inj h ▸ std_lengthOk _ _ _
theorem LengthBits.andn (o : OpR) : LengthBits.Statement (.andn o) := fun _ h => Option.some.inj h ▸ std_lengthOk _ _ _
theorem LengthBits.sll (o : OpR) : LengthBits.Statement (.sll o) := fun _ h => Option.some.inj h ▸ std_lengthOk _ _ _
theorem LengthBits.srl (o : OpR) : LengthBits.Statement (.srl o) := fun _ h => Option.some.inj h ▸ std_lengthOk _ _ _
theorem LengthBits.sra (o : OpR) : LengthBits.Statement (.sra o) := fun _ h => Option.some.inj h ▸ std_lengthOk _ _ _
theorem LengthBits.slt (o : OpR) : LengthBits.Statement (.slt o) := fun _ h => Option.some.inj h ▸ std_lengthOk _ _ _
theorem LengthBits.sltu (o : OpR) : LengthBits.Statement (.sltu o) := fun _ h => Option.some.inj h ▸ std_lengthOk _ _ _
theorem LengthBits.min (o : OpR) : LengthBits.Statement (.min o) := fun _ h => Option.some.inj h ▸ std_lengthOk _ _ _
theorem LengthBits.max (o : OpR) : LengthBits.Statement (.max o) := fun _ h => Option.some.inj h ▸ std_lengthOk _ _ _
theorem LengthBits.minu (o : OpR) : LengthBits.Statement (.minu o) := fun _ h => Option.some.inj h ▸ std_lengthOk _ _ _
theorem LengthBits.maxu (o : OpR) : LengthBits.Statement (.maxu o) := fun _ h => Option.some.inj h ▸ std_lengthOk _ _ _
theorem LengthBits.mul (o : OpR) : LengthBits.Statement (.mul o) := fun _ h => Option.some.inj h ▸ std_lengthOk _ _ _
theorem LengthBits.mulh (o : OpR) : LengthBits.Statement (.mulh o) := fun _ h => Option.some.inj h ▸ std_lengthOk _ _ _
theorem LengthBits.mulhu (o : OpR) : LengthBits.Statement (.mulhu o) := fun _ h => Option.some.inj h ▸ std_lengthOk _ _ _
theorem LengthBits.div (o : OpR) : LengthBits.Statement (.div o) := fun _ h => Option.some.inj h ▸ std_lengthOk _ _ _
theorem LengthBits.divu (o : OpR) : LengthBits.Statement (.divu o) := fun _ h => Option.some.inj h ▸ std_lengthOk _ _ _
theorem LengthBits.rem (o : OpR) : LengthBits.Statement (.rem o) := fun _ h => Option.some.inj h ▸ std_lengthOk _ _ _
theorem LengthBits.remu (o : OpR) : LengthBits.Statement (.remu o) := fun _ h => Option.some.inj h ▸ std_lengthOk _ _ _
theorem LengthBits.clz (o : OpR) : LengthBits.Statement (.clz o) := fun _ h => Option.some.inj h ▸ std_lengthOk _ _ _
theorem LengthBits.ctz (o : OpR) : LengthBits.Statement (.ctz o) := fun _ h => Option.some.inj h ▸ std_lengthOk _ _ _
theorem LengthBits.popc (o : OpR) : LengthBits.Statement (.popc o) := fun _ h => Option.some.inj h ▸ std_lengthOk _ _ _
theorem LengthBits.fadd (o : OpF) : LengthBits.Statement (.fadd o) := fun _ h => Option.some.inj h ▸ std_lengthOk _ _ _
theorem LengthBits.fsub (o : OpF) : LengthBits.Statement (.fsub o) := fun _ h => Option.some.inj h ▸ std_lengthOk _ _ _
theorem LengthBits.fmul (o : OpF) : LengthBits.Statement (.fmul o) := fun _ h => Option.some.inj h ▸ std_lengthOk _ _ _
theorem LengthBits.fdiv (o : OpF) : LengthBits.Statement (.fdiv o) := fun _ h => Option.some.inj h ▸ std_lengthOk _ _ _
theorem LengthBits.fmin (o : OpF) : LengthBits.Statement (.fmin o) := fun _ h => Option.some.inj h ▸ std_lengthOk _ _ _
theorem LengthBits.fmax (o : OpF) : LengthBits.Statement (.fmax o) := fun _ h => Option.some.inj h ▸ std_lengthOk _ _ _
theorem LengthBits.feq (o : OpF) : LengthBits.Statement (.feq o) := fun _ h => Option.some.inj h ▸ std_lengthOk _ _ _
theorem LengthBits.flt (o : OpF) : LengthBits.Statement (.flt o) := fun _ h => Option.some.inj h ▸ std_lengthOk _ _ _
theorem LengthBits.fle (o : OpF) : LengthBits.Statement (.fle o) := fun _ h => Option.some.inj h ▸ std_lengthOk _ _ _
theorem LengthBits.fsqrt (o : OpF) : LengthBits.Statement (.fsqrt o) := fun _ h => Option.some.inj h ▸ std_lengthOk _ _ _
theorem LengthBits.fcvti (o : OpF) : LengthBits.Statement (.fcvti o) := fun _ h => Option.some.inj h ▸ std_lengthOk _ _ _
theorem LengthBits.fcvtf (o : OpF) : LengthBits.Statement (.fcvtf o) := fun _ h => Option.some.inj h ▸ std_lengthOk _ _ _
theorem LengthBits.fcvtw (o : OpF) : LengthBits.Statement (.fcvtw o) := fun _ h => Option.some.inj h ▸ std_lengthOk _ _ _
theorem LengthBits.addi (o : OpI) : LengthBits.Statement (.addi o) := fun _ h => Option.some.inj h ▸ std_lengthOk _ _ _
theorem LengthBits.andi (o : OpI) : LengthBits.Statement (.andi o) := fun _ h => Option.some.inj h ▸ std_lengthOk _ _ _
theorem LengthBits.ori (o : OpI) : LengthBits.Statement (.ori o) := fun _ h => Option.some.inj h ▸ std_lengthOk _ _ _
theorem LengthBits.xori (o : OpI) : LengthBits.Statement (.xori o) := fun _ h => Option.some.inj h ▸ std_lengthOk _ _ _
theorem LengthBits.slti (o : OpI) : LengthBits.Statement (.slti o) := fun _ h => Option.some.inj h ▸ std_lengthOk _ _ _
theorem LengthBits.sltiu (o : OpI) : LengthBits.Statement (.sltiu o) := fun _ h => Option.some.inj h ▸ std_lengthOk _ _ _
theorem LengthBits.slli (o : OpSh) : LengthBits.Statement (.slli o) := fun _ h => Option.some.inj h ▸ std_lengthOk _ _ _
theorem LengthBits.srli (o : OpSh) : LengthBits.Statement (.srli o) := fun _ h => Option.some.inj h ▸ std_lengthOk _ _ _
theorem LengthBits.srai (o : OpSh) : LengthBits.Statement (.srai o) := fun _ h => Option.some.inj h ▸ std_lengthOk _ _ _
theorem LengthBits.muli (o : OpI) : LengthBits.Statement (.muli o) := fun _ h => Option.some.inj h ▸ std_lengthOk _ _ _
theorem LengthBits.addiWide (o : OpIW) : LengthBits.Statement (.addiWide o) := fun _ h => Option.some.inj h ▸ wid_lengthOk _ _ _ _
theorem LengthBits.andiWide (o : OpIW) : LengthBits.Statement (.andiWide o) := fun _ h => Option.some.inj h ▸ wid_lengthOk _ _ _ _
theorem LengthBits.oriWide (o : OpIW) : LengthBits.Statement (.oriWide o) := fun _ h => Option.some.inj h ▸ wid_lengthOk _ _ _ _
theorem LengthBits.xoriWide (o : OpIW) : LengthBits.Statement (.xoriWide o) := fun _ h => Option.some.inj h ▸ wid_lengthOk _ _ _ _
theorem LengthBits.sltiWide (o : OpIW) : LengthBits.Statement (.sltiWide o) := fun _ h => Option.some.inj h ▸ wid_lengthOk _ _ _ _
theorem LengthBits.sltiuWide (o : OpIW) : LengthBits.Statement (.sltiuWide o) := fun _ h => Option.some.inj h ▸ wid_lengthOk _ _ _ _
theorem LengthBits.muliWide (o : OpIW) : LengthBits.Statement (.muliWide o) := fun _ h => Option.some.inj h ▸ wid_lengthOk _ _ _ _
theorem LengthBits.lup (o : OpU) : LengthBits.Statement (.lup o) := fun _ h => Option.some.inj h ▸ std_lengthOk _ _ _
theorem LengthBits.lupWide (o : OpUW) : LengthBits.Statement (.lupWide o) := fun _ h => Option.some.inj h ▸ wid_lengthOk _ _ _ _
theorem LengthBits.lb (o : OpI) : LengthBits.Statement (.lb o) := fun _ h => Option.some.inj h ▸ std_lengthOk _ _ _
theorem LengthBits.lh (o : OpI) : LengthBits.Statement (.lh o) := fun _ h => Option.some.inj h ▸ std_lengthOk _ _ _
theorem LengthBits.lw (o : OpI) : LengthBits.Statement (.lw o) := fun _ h => Option.some.inj h ▸ std_lengthOk _ _ _
theorem LengthBits.ld (o : OpI) : LengthBits.Statement (.ld o) := fun _ h => Option.some.inj h ▸ std_lengthOk _ _ _
theorem LengthBits.lbu (o : OpI) : LengthBits.Statement (.lbu o) := fun _ h => Option.some.inj h ▸ std_lengthOk _ _ _
theorem LengthBits.lhu (o : OpI) : LengthBits.Statement (.lhu o) := fun _ h => Option.some.inj h ▸ std_lengthOk _ _ _
theorem LengthBits.lwu (o : OpI) : LengthBits.Statement (.lwu o) := fun _ h => Option.some.inj h ▸ std_lengthOk _ _ _
theorem LengthBits.lbWide (o : OpIW) : LengthBits.Statement (.lbWide o) := fun _ h => Option.some.inj h ▸ wid_lengthOk _ _ _ _
theorem LengthBits.lhWide (o : OpIW) : LengthBits.Statement (.lhWide o) := fun _ h => Option.some.inj h ▸ wid_lengthOk _ _ _ _
theorem LengthBits.lwWide (o : OpIW) : LengthBits.Statement (.lwWide o) := fun _ h => Option.some.inj h ▸ wid_lengthOk _ _ _ _
theorem LengthBits.ldWide (o : OpIW) : LengthBits.Statement (.ldWide o) := fun _ h => Option.some.inj h ▸ wid_lengthOk _ _ _ _
theorem LengthBits.lbuWide (o : OpIW) : LengthBits.Statement (.lbuWide o) := fun _ h => Option.some.inj h ▸ wid_lengthOk _ _ _ _
theorem LengthBits.lhuWide (o : OpIW) : LengthBits.Statement (.lhuWide o) := fun _ h => Option.some.inj h ▸ wid_lengthOk _ _ _ _
theorem LengthBits.lwuWide (o : OpIW) : LengthBits.Statement (.lwuWide o) := fun _ h => Option.some.inj h ▸ wid_lengthOk _ _ _ _
theorem LengthBits.sb (o : OpI) : LengthBits.Statement (.sb o) := fun _ h => Option.some.inj h ▸ std_lengthOk _ _ _
theorem LengthBits.sh (o : OpI) : LengthBits.Statement (.sh o) := fun _ h => Option.some.inj h ▸ std_lengthOk _ _ _
theorem LengthBits.sw (o : OpI) : LengthBits.Statement (.sw o) := fun _ h => Option.some.inj h ▸ std_lengthOk _ _ _
theorem LengthBits.sd (o : OpI) : LengthBits.Statement (.sd o) := fun _ h => Option.some.inj h ▸ std_lengthOk _ _ _
theorem LengthBits.sbWide (o : OpIW) : LengthBits.Statement (.sbWide o) := fun _ h => Option.some.inj h ▸ wid_lengthOk _ _ _ _
theorem LengthBits.shWide (o : OpIW) : LengthBits.Statement (.shWide o) := fun _ h => Option.some.inj h ▸ wid_lengthOk _ _ _ _
theorem LengthBits.swWide (o : OpIW) : LengthBits.Statement (.swWide o) := fun _ h => Option.some.inj h ▸ wid_lengthOk _ _ _ _
theorem LengthBits.sdWide (o : OpIW) : LengthBits.Statement (.sdWide o) := fun _ h => Option.some.inj h ▸ wid_lengthOk _ _ _ _
theorem LengthBits.beqz (o : OpB) : LengthBits.Statement (.beqz o) := fun _ h => Option.some.inj h ▸ std_lengthOk _ _ _
theorem LengthBits.bnez (o : OpB) : LengthBits.Statement (.bnez o) := fun _ h => Option.some.inj h ▸ std_lengthOk _ _ _
theorem LengthBits.bltz (o : OpB) : LengthBits.Statement (.bltz o) := fun _ h => Option.some.inj h ▸ std_lengthOk _ _ _
theorem LengthBits.bgez (o : OpB) : LengthBits.Statement (.bgez o) := fun _ h => Option.some.inj h ▸ std_lengthOk _ _ _
theorem LengthBits.bgtz (o : OpB) : LengthBits.Statement (.bgtz o) := fun _ h => Option.some.inj h ▸ std_lengthOk _ _ _
theorem LengthBits.blez (o : OpB) : LengthBits.Statement (.blez o) := fun _ h => Option.some.inj h ▸ std_lengthOk _ _ _
theorem LengthBits.bdnz (o : OpB) : LengthBits.Statement (.bdnz o) := fun _ h => Option.some.inj h ▸ std_lengthOk _ _ _
theorem LengthBits.beqzWide (o : OpBW) : LengthBits.Statement (.beqzWide o) := fun _ h => Option.some.inj h ▸ wid_lengthOk _ _ _ _
theorem LengthBits.bnezWide (o : OpBW) : LengthBits.Statement (.bnezWide o) := fun _ h => Option.some.inj h ▸ wid_lengthOk _ _ _ _
theorem LengthBits.bltzWide (o : OpBW) : LengthBits.Statement (.bltzWide o) := fun _ h => Option.some.inj h ▸ wid_lengthOk _ _ _ _
theorem LengthBits.bgezWide (o : OpBW) : LengthBits.Statement (.bgezWide o) := fun _ h => Option.some.inj h ▸ wid_lengthOk _ _ _ _
theorem LengthBits.bgtzWide (o : OpBW) : LengthBits.Statement (.bgtzWide o) := fun _ h => Option.some.inj h ▸ wid_lengthOk _ _ _ _
theorem LengthBits.blezWide (o : OpBW) : LengthBits.Statement (.blezWide o) := fun _ h => Option.some.inj h ▸ wid_lengthOk _ _ _ _
theorem LengthBits.bdnzWide (o : OpBW) : LengthBits.Statement (.bdnzWide o) := fun _ h => Option.some.inj h ▸ wid_lengthOk _ _ _ _
theorem LengthBits.bany (o : OpM) : LengthBits.Statement (.bany o) := fun _ h => Option.some.inj h ▸ std_lengthOk _ _ _
theorem LengthBits.ball (o : OpM) : LengthBits.Statement (.ball o) := fun _ h => Option.some.inj h ▸ std_lengthOk _ _ _
theorem LengthBits.bnone (o : OpM) : LengthBits.Statement (.bnone o) := fun _ h => Option.some.inj h ▸ std_lengthOk _ _ _
theorem LengthBits.bnall (o : OpM) : LengthBits.Statement (.bnall o) := fun _ h => Option.some.inj h ▸ std_lengthOk _ _ _
theorem LengthBits.banyWide (o : OpMW) : LengthBits.Statement (.banyWide o) := fun _ h => Option.some.inj h ▸ wid_lengthOk _ _ _ _
theorem LengthBits.ballWide (o : OpMW) : LengthBits.Statement (.ballWide o) := fun _ h => Option.some.inj h ▸ wid_lengthOk _ _ _ _
theorem LengthBits.bnoneWide (o : OpMW) : LengthBits.Statement (.bnoneWide o) := fun _ h => Option.some.inj h ▸ wid_lengthOk _ _ _ _
theorem LengthBits.bnallWide (o : OpMW) : LengthBits.Statement (.bnallWide o) := fun _ h => Option.some.inj h ▸ wid_lengthOk _ _ _ _
theorem LengthBits.jal (o : OpU) : LengthBits.Statement (.jal o) := fun _ h => Option.some.inj h ▸ std_lengthOk _ _ _
theorem LengthBits.jalWide (o : OpUW) : LengthBits.Statement (.jalWide o) := fun _ h => Option.some.inj h ▸ wid_lengthOk _ _ _ _
theorem LengthBits.jalr (o : OpI) : LengthBits.Statement (.jalr o) := fun _ h => Option.some.inj h ▸ std_lengthOk _ _ _
theorem LengthBits.jalrWide (o : OpIW) : LengthBits.Statement (.jalrWide o) := fun _ h => Option.some.inj h ▸ wid_lengthOk _ _ _ _
theorem LengthBits.srd (o : OpI) : LengthBits.Statement (.srd o) := fun _ h => Option.some.inj h ▸ std_lengthOk _ _ _
theorem LengthBits.swr (o : OpI) : LengthBits.Statement (.swr o) := fun _ h => Option.some.inj h ▸ std_lengthOk _ _ _
theorem LengthBits.sset (o : OpI) : LengthBits.Statement (.sset o) := fun _ h => Option.some.inj h ▸ std_lengthOk _ _ _
theorem LengthBits.sclr (o : OpI) : LengthBits.Statement (.sclr o) := fun _ h => Option.some.inj h ▸ std_lengthOk _ _ _
theorem LengthBits.ecall (o : OpCtl) : LengthBits.Statement (.ecall o) := fun _ h => Option.some.inj h ▸ std_lengthOk _ _ _
theorem LengthBits.ebreak (o : OpCtl) : LengthBits.Statement (.ebreak o) := fun _ h => Option.some.inj h ▸ std_lengthOk _ _ _
theorem LengthBits.eret (o : OpCtl) : LengthBits.Statement (.eret o) := fun _ h => Option.some.inj h ▸ std_lengthOk _ _ _
theorem LengthBits.wfi (o : OpCtl) : LengthBits.Statement (.wfi o) := fun _ h => Option.some.inj h ▸ std_lengthOk _ _ _
theorem LengthBits.ifence (o : OpCtl) : LengthBits.Statement (.ifence o) := fun _ h => Option.some.inj h ▸ std_lengthOk _ _ _
theorem LengthBits.tlbinv (o : OpCtl) : LengthBits.Statement (.tlbinv o) := fun _ h => Option.some.inj h ▸ std_lengthOk _ _ _
theorem LengthBits.tlbinva (o : OpCtl) : LengthBits.Statement (.tlbinva o) := fun _ h => Option.some.inj h ▸ std_lengthOk _ _ _
theorem LengthBits.exit (o : OpCtl) : LengthBits.Statement (.exit o) := fun _ h => Option.some.inj h ▸ std_lengthOk _ _ _
theorem LengthBits.pgsplice (o : OpI) : LengthBits.Statement (.pgsplice o) := fun _ h => Option.some.inj h ▸ std_lengthOk _ _ _
theorem LengthBits.loop (o : OpL) : LengthBits.Statement (.loop o) := fun _ h => Option.some.inj h ▸ std_lengthOk _ _ _
theorem LengthBits.loopWide (o : OpLW) : LengthBits.Statement (.loopWide o) := fun _ h => Option.some.inj h ▸ wid_lengthOk _ _ _ _
theorem LengthBits.vcfg (o : OpVc) : LengthBits.Statement (.vcfg o) := fun _ h => Option.some.inj h ▸ std_lengthOk _ _ _
theorem LengthBits.vcfgr (o : OpR) : LengthBits.Statement (.vcfgr o) := fun _ h => Option.some.inj h ▸ std_lengthOk _ _ _
theorem LengthBits.vaddVv (o : OpVa) : LengthBits.Statement (.vaddVv o) := fun _ h => Option.some.inj h ▸ std_lengthOk _ _ _
theorem LengthBits.vsubVv (o : OpVa) : LengthBits.Statement (.vsubVv o) := fun _ h => Option.some.inj h ▸ std_lengthOk _ _ _
theorem LengthBits.vrsubVv (o : OpVa) : LengthBits.Statement (.vrsubVv o) := fun _ h => Option.some.inj h ▸ std_lengthOk _ _ _
theorem LengthBits.vminVv (o : OpVa) : LengthBits.Statement (.vminVv o) := fun _ h => Option.some.inj h ▸ std_lengthOk _ _ _
theorem LengthBits.vmaxVv (o : OpVa) : LengthBits.Statement (.vmaxVv o) := fun _ h => Option.some.inj h ▸ std_lengthOk _ _ _
theorem LengthBits.vandVv (o : OpVa) : LengthBits.Statement (.vandVv o) := fun _ h => Option.some.inj h ▸ std_lengthOk _ _ _
theorem LengthBits.vorVv (o : OpVa) : LengthBits.Statement (.vorVv o) := fun _ h => Option.some.inj h ▸ std_lengthOk _ _ _
theorem LengthBits.vxorVv (o : OpVa) : LengthBits.Statement (.vxorVv o) := fun _ h => Option.some.inj h ▸ std_lengthOk _ _ _
theorem LengthBits.vandnVv (o : OpVa) : LengthBits.Statement (.vandnVv o) := fun _ h => Option.some.inj h ▸ std_lengthOk _ _ _
theorem LengthBits.vsllVv (o : OpVa) : LengthBits.Statement (.vsllVv o) := fun _ h => Option.some.inj h ▸ std_lengthOk _ _ _
theorem LengthBits.vsrlVv (o : OpVa) : LengthBits.Statement (.vsrlVv o) := fun _ h => Option.some.inj h ▸ std_lengthOk _ _ _
theorem LengthBits.vsraVv (o : OpVa) : LengthBits.Statement (.vsraVv o) := fun _ h => Option.some.inj h ▸ std_lengthOk _ _ _
theorem LengthBits.vsaddVv (o : OpVa) : LengthBits.Statement (.vsaddVv o) := fun _ h => Option.some.inj h ▸ std_lengthOk _ _ _
theorem LengthBits.vssubVv (o : OpVa) : LengthBits.Statement (.vssubVv o) := fun _ h => Option.some.inj h ▸ std_lengthOk _ _ _
theorem LengthBits.vabsdVv (o : OpVa) : LengthBits.Statement (.vabsdVv o) := fun _ h => Option.some.inj h ▸ std_lengthOk _ _ _
theorem LengthBits.vavgVv (o : OpVa) : LengthBits.Statement (.vavgVv o) := fun _ h => Option.some.inj h ▸ std_lengthOk _ _ _
theorem LengthBits.vmulhVv (o : OpVa) : LengthBits.Statement (.vmulhVv o) := fun _ h => Option.some.inj h ▸ std_lengthOk _ _ _
theorem LengthBits.vdivVv (o : OpVa) : LengthBits.Statement (.vdivVv o) := fun _ h => Option.some.inj h ▸ std_lengthOk _ _ _
theorem LengthBits.vremVv (o : OpVa) : LengthBits.Statement (.vremVv o) := fun _ h => Option.some.inj h ▸ std_lengthOk _ _ _
theorem LengthBits.vceqVv (o : OpVa) : LengthBits.Statement (.vceqVv o) := fun _ h => Option.some.inj h ▸ std_lengthOk _ _ _
theorem LengthBits.vcneVv (o : OpVa) : LengthBits.Statement (.vcneVv o) := fun _ h => Option.some.inj h ▸ std_lengthOk _ _ _
theorem LengthBits.vcltVv (o : OpVa) : LengthBits.Statement (.vcltVv o) := fun _ h => Option.some.inj h ▸ std_lengthOk _ _ _
theorem LengthBits.vcleVv (o : OpVa) : LengthBits.Statement (.vcleVv o) := fun _ h => Option.some.inj h ▸ std_lengthOk _ _ _
theorem LengthBits.vcgtVv (o : OpVa) : LengthBits.Statement (.vcgtVv o) := fun _ h => Option.some.inj h ▸ std_lengthOk _ _ _
theorem LengthBits.vcgeVv (o : OpVa) : LengthBits.Statement (.vcgeVv o) := fun _ h => Option.some.inj h ▸ std_lengthOk _ _ _
theorem LengthBits.vmergeVv (o : OpVa) : LengthBits.Statement (.vmergeVv o) := fun _ h => Option.some.inj h ▸ std_lengthOk _ _ _
theorem LengthBits.vmvVv (o : OpVa) : LengthBits.Statement (.vmvVv o) := fun _ h => Option.some.inj h ▸ std_lengthOk _ _ _
theorem LengthBits.vsgnjVv (o : OpVa) : LengthBits.Statement (.vsgnjVv o) := fun _ h => Option.some.inj h ▸ std_lengthOk _ _ _
theorem LengthBits.vaddVx (o : OpVa) : LengthBits.Statement (.vaddVx o) := fun _ h => Option.some.inj h ▸ std_lengthOk _ _ _
theorem LengthBits.vsubVx (o : OpVa) : LengthBits.Statement (.vsubVx o) := fun _ h => Option.some.inj h ▸ std_lengthOk _ _ _
theorem LengthBits.vrsubVx (o : OpVa) : LengthBits.Statement (.vrsubVx o) := fun _ h => Option.some.inj h ▸ std_lengthOk _ _ _
theorem LengthBits.vminVx (o : OpVa) : LengthBits.Statement (.vminVx o) := fun _ h => Option.some.inj h ▸ std_lengthOk _ _ _
theorem LengthBits.vmaxVx (o : OpVa) : LengthBits.Statement (.vmaxVx o) := fun _ h => Option.some.inj h ▸ std_lengthOk _ _ _
theorem LengthBits.vandVx (o : OpVa) : LengthBits.Statement (.vandVx o) := fun _ h => Option.some.inj h ▸ std_lengthOk _ _ _
theorem LengthBits.vorVx (o : OpVa) : LengthBits.Statement (.vorVx o) := fun _ h => Option.some.inj h ▸ std_lengthOk _ _ _
theorem LengthBits.vxorVx (o : OpVa) : LengthBits.Statement (.vxorVx o) := fun _ h => Option.some.inj h ▸ std_lengthOk _ _ _
theorem LengthBits.vandnVx (o : OpVa) : LengthBits.Statement (.vandnVx o) := fun _ h => Option.some.inj h ▸ std_lengthOk _ _ _
theorem LengthBits.vsllVx (o : OpVa) : LengthBits.Statement (.vsllVx o) := fun _ h => Option.some.inj h ▸ std_lengthOk _ _ _
theorem LengthBits.vsrlVx (o : OpVa) : LengthBits.Statement (.vsrlVx o) := fun _ h => Option.some.inj h ▸ std_lengthOk _ _ _
theorem LengthBits.vsraVx (o : OpVa) : LengthBits.Statement (.vsraVx o) := fun _ h => Option.some.inj h ▸ std_lengthOk _ _ _
theorem LengthBits.vsaddVx (o : OpVa) : LengthBits.Statement (.vsaddVx o) := fun _ h => Option.some.inj h ▸ std_lengthOk _ _ _
theorem LengthBits.vssubVx (o : OpVa) : LengthBits.Statement (.vssubVx o) := fun _ h => Option.some.inj h ▸ std_lengthOk _ _ _
theorem LengthBits.vabsdVx (o : OpVa) : LengthBits.Statement (.vabsdVx o) := fun _ h => Option.some.inj h ▸ std_lengthOk _ _ _
theorem LengthBits.vavgVx (o : OpVa) : LengthBits.Statement (.vavgVx o) := fun _ h => Option.some.inj h ▸ std_lengthOk _ _ _
theorem LengthBits.vmulhVx (o : OpVa) : LengthBits.Statement (.vmulhVx o) := fun _ h => Option.some.inj h ▸ std_lengthOk _ _ _
theorem LengthBits.vdivVx (o : OpVa) : LengthBits.Statement (.vdivVx o) := fun _ h => Option.some.inj h ▸ std_lengthOk _ _ _
theorem LengthBits.vremVx (o : OpVa) : LengthBits.Statement (.vremVx o) := fun _ h => Option.some.inj h ▸ std_lengthOk _ _ _
theorem LengthBits.vceqVx (o : OpVa) : LengthBits.Statement (.vceqVx o) := fun _ h => Option.some.inj h ▸ std_lengthOk _ _ _
theorem LengthBits.vcneVx (o : OpVa) : LengthBits.Statement (.vcneVx o) := fun _ h => Option.some.inj h ▸ std_lengthOk _ _ _
theorem LengthBits.vcltVx (o : OpVa) : LengthBits.Statement (.vcltVx o) := fun _ h => Option.some.inj h ▸ std_lengthOk _ _ _
theorem LengthBits.vcleVx (o : OpVa) : LengthBits.Statement (.vcleVx o) := fun _ h => Option.some.inj h ▸ std_lengthOk _ _ _
theorem LengthBits.vcgtVx (o : OpVa) : LengthBits.Statement (.vcgtVx o) := fun _ h => Option.some.inj h ▸ std_lengthOk _ _ _
theorem LengthBits.vcgeVx (o : OpVa) : LengthBits.Statement (.vcgeVx o) := fun _ h => Option.some.inj h ▸ std_lengthOk _ _ _
theorem LengthBits.vmergeVx (o : OpVa) : LengthBits.Statement (.vmergeVx o) := fun _ h => Option.some.inj h ▸ std_lengthOk _ _ _
theorem LengthBits.vmvVx (o : OpVa) : LengthBits.Statement (.vmvVx o) := fun _ h => Option.some.inj h ▸ std_lengthOk _ _ _
theorem LengthBits.vsgnjVx (o : OpVa) : LengthBits.Statement (.vsgnjVx o) := fun _ h => Option.some.inj h ▸ std_lengthOk _ _ _
theorem LengthBits.vaddVxWide (o : OpVaW) : LengthBits.Statement (.vaddVxWide o) := fun _ h => Option.some.inj h ▸ wid_lengthOk _ _ _ _
theorem LengthBits.vsubVxWide (o : OpVaW) : LengthBits.Statement (.vsubVxWide o) := fun _ h => Option.some.inj h ▸ wid_lengthOk _ _ _ _
theorem LengthBits.vrsubVxWide (o : OpVaW) : LengthBits.Statement (.vrsubVxWide o) := fun _ h => Option.some.inj h ▸ wid_lengthOk _ _ _ _
theorem LengthBits.vminVxWide (o : OpVaW) : LengthBits.Statement (.vminVxWide o) := fun _ h => Option.some.inj h ▸ wid_lengthOk _ _ _ _
theorem LengthBits.vmaxVxWide (o : OpVaW) : LengthBits.Statement (.vmaxVxWide o) := fun _ h => Option.some.inj h ▸ wid_lengthOk _ _ _ _
theorem LengthBits.vandVxWide (o : OpVaW) : LengthBits.Statement (.vandVxWide o) := fun _ h => Option.some.inj h ▸ wid_lengthOk _ _ _ _
theorem LengthBits.vorVxWide (o : OpVaW) : LengthBits.Statement (.vorVxWide o) := fun _ h => Option.some.inj h ▸ wid_lengthOk _ _ _ _
theorem LengthBits.vxorVxWide (o : OpVaW) : LengthBits.Statement (.vxorVxWide o) := fun _ h => Option.some.inj h ▸ wid_lengthOk _ _ _ _
theorem LengthBits.vandnVxWide (o : OpVaW) : LengthBits.Statement (.vandnVxWide o) := fun _ h => Option.some.inj h ▸ wid_lengthOk _ _ _ _
theorem LengthBits.vsllVxWide (o : OpVaW) : LengthBits.Statement (.vsllVxWide o) := fun _ h => Option.some.inj h ▸ wid_lengthOk _ _ _ _
theorem LengthBits.vsrlVxWide (o : OpVaW) : LengthBits.Statement (.vsrlVxWide o) := fun _ h => Option.some.inj h ▸ wid_lengthOk _ _ _ _
theorem LengthBits.vsraVxWide (o : OpVaW) : LengthBits.Statement (.vsraVxWide o) := fun _ h => Option.some.inj h ▸ wid_lengthOk _ _ _ _
theorem LengthBits.vsaddVxWide (o : OpVaW) : LengthBits.Statement (.vsaddVxWide o) := fun _ h => Option.some.inj h ▸ wid_lengthOk _ _ _ _
theorem LengthBits.vssubVxWide (o : OpVaW) : LengthBits.Statement (.vssubVxWide o) := fun _ h => Option.some.inj h ▸ wid_lengthOk _ _ _ _
theorem LengthBits.vabsdVxWide (o : OpVaW) : LengthBits.Statement (.vabsdVxWide o) := fun _ h => Option.some.inj h ▸ wid_lengthOk _ _ _ _
theorem LengthBits.vavgVxWide (o : OpVaW) : LengthBits.Statement (.vavgVxWide o) := fun _ h => Option.some.inj h ▸ wid_lengthOk _ _ _ _
theorem LengthBits.vmulhVxWide (o : OpVaW) : LengthBits.Statement (.vmulhVxWide o) := fun _ h => Option.some.inj h ▸ wid_lengthOk _ _ _ _
theorem LengthBits.vdivVxWide (o : OpVaW) : LengthBits.Statement (.vdivVxWide o) := fun _ h => Option.some.inj h ▸ wid_lengthOk _ _ _ _
theorem LengthBits.vremVxWide (o : OpVaW) : LengthBits.Statement (.vremVxWide o) := fun _ h => Option.some.inj h ▸ wid_lengthOk _ _ _ _
theorem LengthBits.vceqVxWide (o : OpVaW) : LengthBits.Statement (.vceqVxWide o) := fun _ h => Option.some.inj h ▸ wid_lengthOk _ _ _ _
theorem LengthBits.vcneVxWide (o : OpVaW) : LengthBits.Statement (.vcneVxWide o) := fun _ h => Option.some.inj h ▸ wid_lengthOk _ _ _ _
theorem LengthBits.vcltVxWide (o : OpVaW) : LengthBits.Statement (.vcltVxWide o) := fun _ h => Option.some.inj h ▸ wid_lengthOk _ _ _ _
theorem LengthBits.vcleVxWide (o : OpVaW) : LengthBits.Statement (.vcleVxWide o) := fun _ h => Option.some.inj h ▸ wid_lengthOk _ _ _ _
theorem LengthBits.vcgtVxWide (o : OpVaW) : LengthBits.Statement (.vcgtVxWide o) := fun _ h => Option.some.inj h ▸ wid_lengthOk _ _ _ _
theorem LengthBits.vcgeVxWide (o : OpVaW) : LengthBits.Statement (.vcgeVxWide o) := fun _ h => Option.some.inj h ▸ wid_lengthOk _ _ _ _
theorem LengthBits.vmergeVxWide (o : OpVaW) : LengthBits.Statement (.vmergeVxWide o) := fun _ h => Option.some.inj h ▸ wid_lengthOk _ _ _ _
theorem LengthBits.vmvVxWide (o : OpVaW) : LengthBits.Statement (.vmvVxWide o) := fun _ h => Option.some.inj h ▸ wid_lengthOk _ _ _ _
theorem LengthBits.vsgnjVxWide (o : OpVaW) : LengthBits.Statement (.vsgnjVxWide o) := fun _ h => Option.some.inj h ▸ wid_lengthOk _ _ _ _
theorem LengthBits.vfmaVfv (o : OpVf) : LengthBits.Statement (.vfmaVfv o) := fun _ h => Option.some.inj h ▸ std_lengthOk _ _ _
theorem LengthBits.vfmsVfv (o : OpVf) : LengthBits.Statement (.vfmsVfv o) := fun _ h => Option.some.inj h ▸ std_lengthOk _ _ _
theorem LengthBits.vfnmaVfv (o : OpVf) : LengthBits.Statement (.vfnmaVfv o) := fun _ h => Option.some.inj h ▸ std_lengthOk _ _ _
theorem LengthBits.vmulVfv (o : OpVf) : LengthBits.Statement (.vmulVfv o) := fun _ h => Option.some.inj h ▸ std_lengthOk _ _ _
theorem LengthBits.vfmaVfx (o : OpVf) : LengthBits.Statement (.vfmaVfx o) := fun _ h => Option.some.inj h ▸ std_lengthOk _ _ _
theorem LengthBits.vfmsVfx (o : OpVf) : LengthBits.Statement (.vfmsVfx o) := fun _ h => Option.some.inj h ▸ std_lengthOk _ _ _
theorem LengthBits.vfnmaVfx (o : OpVf) : LengthBits.Statement (.vfnmaVfx o) := fun _ h => Option.some.inj h ▸ std_lengthOk _ _ _
theorem LengthBits.vmulVfx (o : OpVf) : LengthBits.Statement (.vmulVfx o) := fun _ h => Option.some.inj h ▸ std_lengthOk _ _ _
theorem LengthBits.vdot (o : OpVf) : LengthBits.Statement (.vdot o) := fun _ h => Option.some.inj h ▸ std_lengthOk _ _ _
theorem LengthBits.vssmx (o : OpVf) : LengthBits.Statement (.vssmx o) := fun _ h => Option.some.inj h ▸ std_lengthOk _ _ _
theorem LengthBits.vcvt (o : OpVu) : LengthBits.Statement (.vcvt o) := fun _ h => Option.some.inj h ▸ std_lengthOk _ _ _
theorem LengthBits.vneg (o : OpVu) : LengthBits.Statement (.vneg o) := fun _ h => Option.some.inj h ▸ std_lengthOk _ _ _
theorem LengthBits.vabs (o : OpVu) : LengthBits.Statement (.vabs o) := fun _ h => Option.some.inj h ▸ std_lengthOk _ _ _
theorem LengthBits.vsqrt (o : OpVu) : LengthBits.Statement (.vsqrt o) := fun _ h => Option.some.inj h ▸ std_lengthOk _ _ _
theorem LengthBits.vrcp (o : OpVu) : LengthBits.Statement (.vrcp o) := fun _ h => Option.some.inj h ▸ std_lengthOk _ _ _
theorem LengthBits.vrsqrt (o : OpVu) : LengthBits.Statement (.vrsqrt o) := fun _ h => Option.some.inj h ▸ std_lengthOk _ _ _
theorem LengthBits.vexp2 (o : OpVu) : LengthBits.Statement (.vexp2 o) := fun _ h => Option.some.inj h ▸ std_lengthOk _ _ _
theorem LengthBits.vlog2 (o : OpVu) : LengthBits.Statement (.vlog2 o) := fun _ h => Option.some.inj h ▸ std_lengthOk _ _ _
theorem LengthBits.vtanh (o : OpVu) : LengthBits.Statement (.vtanh o) := fun _ h => Option.some.inj h ▸ std_lengthOk _ _ _
theorem LengthBits.vsigm (o : OpVu) : LengthBits.Statement (.vsigm o) := fun _ h => Option.some.inj h ▸ std_lengthOk _ _ _
theorem LengthBits.verf (o : OpVu) : LengthBits.Statement (.verf o) := fun _ h => Option.some.inj h ▸ std_lengthOk _ _ _
theorem LengthBits.vround (o : OpVu) : LengthBits.Statement (.vround o) := fun _ h => Option.some.inj h ▸ std_lengthOk _ _ _
theorem LengthBits.vpopc (o : OpVu) : LengthBits.Statement (.vpopc o) := fun _ h => Option.some.inj h ▸ std_lengthOk _ _ _
theorem LengthBits.vclz (o : OpVu) : LengthBits.Statement (.vclz o) := fun _ h => Option.some.inj h ▸ std_lengthOk _ _ _
theorem LengthBits.vid (o : OpVu) : LengthBits.Statement (.vid o) := fun _ h => Option.some.inj h ▸ std_lengthOk _ _ _
theorem LengthBits.vclass (o : OpVu) : LengthBits.Statement (.vclass o) := fun _ h => Option.some.inj h ▸ std_lengthOk _ _ _
theorem LengthBits.vld (o : OpVm) : LengthBits.Statement (.vld o) := fun _ h => Option.some.inj h ▸ std_lengthOk _ _ _
theorem LengthBits.vlds (o : OpVm) : LengthBits.Statement (.vlds o) := fun _ h => Option.some.inj h ▸ std_lengthOk _ _ _
theorem LengthBits.vldx (o : OpVm) : LengthBits.Statement (.vldx o) := fun _ h => Option.some.inj h ▸ std_lengthOk _ _ _
theorem LengthBits.vldff (o : OpVm) : LengthBits.Statement (.vldff o) := fun _ h => Option.some.inj h ▸ std_lengthOk _ _ _
theorem LengthBits.vldWide (o : OpVmW) : LengthBits.Statement (.vldWide o) := fun _ h => Option.some.inj h ▸ wid_lengthOk _ _ _ _
theorem LengthBits.vldsWide (o : OpVmW) : LengthBits.Statement (.vldsWide o) := fun _ h => Option.some.inj h ▸ wid_lengthOk _ _ _ _
theorem LengthBits.vldxWide (o : OpVmW) : LengthBits.Statement (.vldxWide o) := fun _ h => Option.some.inj h ▸ wid_lengthOk _ _ _ _
theorem LengthBits.vldffWide (o : OpVmW) : LengthBits.Statement (.vldffWide o) := fun _ h => Option.some.inj h ▸ wid_lengthOk _ _ _ _
theorem LengthBits.vst (o : OpVm) : LengthBits.Statement (.vst o) := fun _ h => Option.some.inj h ▸ std_lengthOk _ _ _
theorem LengthBits.vsts (o : OpVm) : LengthBits.Statement (.vsts o) := fun _ h => Option.some.inj h ▸ std_lengthOk _ _ _
theorem LengthBits.vstx (o : OpVm) : LengthBits.Statement (.vstx o) := fun _ h => Option.some.inj h ▸ std_lengthOk _ _ _
theorem LengthBits.vstu (o : OpVm) : LengthBits.Statement (.vstu o) := fun _ h => Option.some.inj h ▸ std_lengthOk _ _ _
theorem LengthBits.vstsu (o : OpVm) : LengthBits.Statement (.vstsu o) := fun _ h => Option.some.inj h ▸ std_lengthOk _ _ _
theorem LengthBits.vstxu (o : OpVm) : LengthBits.Statement (.vstxu o) := fun _ h => Option.some.inj h ▸ std_lengthOk _ _ _
theorem LengthBits.vstWide (o : OpVmW) : LengthBits.Statement (.vstWide o) := fun _ h => Option.some.inj h ▸ wid_lengthOk _ _ _ _
theorem LengthBits.vstsWide (o : OpVmW) : LengthBits.Statement (.vstsWide o) := fun _ h => Option.some.inj h ▸ wid_lengthOk _ _ _ _
theorem LengthBits.vstxWide (o : OpVmW) : LengthBits.Statement (.vstxWide o) := fun _ h => Option.some.inj h ▸ wid_lengthOk _ _ _ _
theorem LengthBits.vstuWide (o : OpVmW) : LengthBits.Statement (.vstuWide o) := fun _ h => Option.some.inj h ▸ wid_lengthOk _ _ _ _
theorem LengthBits.vstsuWide (o : OpVmW) : LengthBits.Statement (.vstsuWide o) := fun _ h => Option.some.inj h ▸ wid_lengthOk _ _ _ _
theorem LengthBits.vstxuWide (o : OpVmW) : LengthBits.Statement (.vstxuWide o) := fun _ h => Option.some.inj h ▸ wid_lengthOk _ _ _ _
theorem LengthBits.vamoadd (o : OpVm) : LengthBits.Statement (.vamoadd o) := fun _ h => Option.some.inj h ▸ std_lengthOk _ _ _
theorem LengthBits.vamobinc (o : OpVm) : LengthBits.Statement (.vamobinc o) := fun _ h => Option.some.inj h ▸ std_lengthOk _ _ _
theorem LengthBits.vamomin (o : OpVm) : LengthBits.Statement (.vamomin o) := fun _ h => Option.some.inj h ▸ std_lengthOk _ _ _
theorem LengthBits.vamomax (o : OpVm) : LengthBits.Statement (.vamomax o) := fun _ h => Option.some.inj h ▸ std_lengthOk _ _ _
theorem LengthBits.vamoswap (o : OpVm) : LengthBits.Statement (.vamoswap o) := fun _ h => Option.some.inj h ▸ std_lengthOk _ _ _
theorem LengthBits.vamoaddWide (o : OpVmW) : LengthBits.Statement (.vamoaddWide o) := fun _ h => Option.some.inj h ▸ wid_lengthOk _ _ _ _
theorem LengthBits.vamobincWide (o : OpVmW) : LengthBits.Statement (.vamobincWide o) := fun _ h => Option.some.inj h ▸ wid_lengthOk _ _ _ _
theorem LengthBits.vamominWide (o : OpVmW) : LengthBits.Statement (.vamominWide o) := fun _ h => Option.some.inj h ▸ wid_lengthOk _ _ _ _
theorem LengthBits.vamomaxWide (o : OpVmW) : LengthBits.Statement (.vamomaxWide o) := fun _ h => Option.some.inj h ▸ wid_lengthOk _ _ _ _
theorem LengthBits.vamoswapWide (o : OpVmW) : LengthBits.Statement (.vamoswapWide o) := fun _ h => Option.some.inj h ▸ wid_lengthOk _ _ _ _
theorem LengthBits.mand (o : OpVa) : LengthBits.Statement (.mand o) := fun _ h => Option.some.inj h ▸ std_lengthOk _ _ _
theorem LengthBits.mor (o : OpVa) : LengthBits.Statement (.mor o) := fun _ h => Option.some.inj h ▸ std_lengthOk _ _ _
theorem LengthBits.mxor (o : OpVa) : LengthBits.Statement (.mxor o) := fun _ h => Option.some.inj h ▸ std_lengthOk _ _ _
theorem LengthBits.mandn (o : OpVa) : LengthBits.Statement (.mandn o) := fun _ h => Option.some.inj h ▸ std_lengthOk _ _ _
theorem LengthBits.mnot (o : OpVa) : LengthBits.Statement (.mnot o) := fun _ h => Option.some.inj h ▸ std_lengthOk _ _ _
theorem LengthBits.mcnt (o : OpVa) : LengthBits.Statement (.mcnt o) := fun _ h => Option.some.inj h ▸ std_lengthOk _ _ _
theorem LengthBits.many (o : OpVa) : LengthBits.Statement (.many o) := fun _ h => Option.some.inj h ▸ std_lengthOk _ _ _
theorem LengthBits.mfirst (o : OpVa) : LengthBits.Statement (.mfirst o) := fun _ h => Option.some.inj h ▸ std_lengthOk _ _ _
theorem LengthBits.msbf (o : OpVa) : LengthBits.Statement (.msbf o) := fun _ h => Option.some.inj h ▸ std_lengthOk _ _ _
theorem LengthBits.msif (o : OpVa) : LengthBits.Statement (.msif o) := fun _ h => Option.some.inj h ▸ std_lengthOk _ _ _
theorem LengthBits.mwhile (o : OpVa) : LengthBits.Statement (.mwhile o) := fun _ h => Option.some.inj h ▸ std_lengthOk _ _ _
theorem LengthBits.mfromv (o : OpVa) : LengthBits.Statement (.mfromv o) := fun _ h => Option.some.inj h ▸ std_lengthOk _ _ _
theorem LengthBits.mtov (o : OpVa) : LengthBits.Statement (.mtov o) := fun _ h => Option.some.inj h ▸ std_lengthOk _ _ _
theorem LengthBits.vconf (o : OpVa) : LengthBits.Statement (.vconf o) := fun _ h => Option.some.inj h ▸ std_lengthOk _ _ _
theorem LengthBits.vpart (o : OpVa) : LengthBits.Statement (.vpart o) := fun _ h => Option.some.inj h ▸ std_lengthOk _ _ _
theorem LengthBits.vpartb (o : OpVa) : LengthBits.Statement (.vpartb o) := fun _ h => Option.some.inj h ▸ std_lengthOk _ _ _
theorem LengthBits.rsum (o : OpVa) : LengthBits.Statement (.rsum o) := fun _ h => Option.some.inj h ▸ std_lengthOk _ _ _
theorem LengthBits.rsumu (o : OpVa) : LengthBits.Statement (.rsumu o) := fun _ h => Option.some.inj h ▸ std_lengthOk _ _ _
theorem LengthBits.rmax (o : OpVa) : LengthBits.Statement (.rmax o) := fun _ h => Option.some.inj h ▸ std_lengthOk _ _ _
theorem LengthBits.rmin (o : OpVa) : LengthBits.Statement (.rmin o) := fun _ h => Option.some.inj h ▸ std_lengthOk _ _ _
theorem LengthBits.rmaxi (o : OpVa) : LengthBits.Statement (.rmaxi o) := fun _ h => Option.some.inj h ▸ std_lengthOk _ _ _
theorem LengthBits.rmini (o : OpVa) : LengthBits.Statement (.rmini o) := fun _ h => Option.some.inj h ▸ std_lengthOk _ _ _
theorem LengthBits.rand (o : OpVa) : LengthBits.Statement (.rand o) := fun _ h => Option.some.inj h ▸ std_lengthOk _ _ _
theorem LengthBits.ror (o : OpVa) : LengthBits.Statement (.ror o) := fun _ h => Option.some.inj h ▸ std_lengthOk _ _ _
theorem LengthBits.rxor (o : OpVa) : LengthBits.Statement (.rxor o) := fun _ h => Option.some.inj h ▸ std_lengthOk _ _ _
theorem LengthBits.vscan (o : OpVa) : LengthBits.Statement (.vscan o) := fun _ h => Option.some.inj h ▸ std_lengthOk _ _ _
theorem LengthBits.vcmpr (o : OpVa) : LengthBits.Statement (.vcmpr o) := fun _ h => Option.some.inj h ▸ std_lengthOk _ _ _
theorem LengthBits.vexpd (o : OpVa) : LengthBits.Statement (.vexpd o) := fun _ h => Option.some.inj h ▸ std_lengthOk _ _ _
theorem LengthBits.vslup (o : OpVa) : LengthBits.Statement (.vslup o) := fun _ h => Option.some.inj h ▸ std_lengthOk _ _ _
theorem LengthBits.vsldn (o : OpVa) : LengthBits.Statement (.vsldn o) := fun _ h => Option.some.inj h ▸ std_lengthOk _ _ _
theorem LengthBits.vperm (o : OpVa) : LengthBits.Statement (.vperm o) := fun _ h => Option.some.inj h ▸ std_lengthOk _ _ _
theorem LengthBits.vpush (o : OpVa) : LengthBits.Statement (.vpush o) := fun _ h => Option.some.inj h ▸ std_lengthOk _ _ _
theorem LengthBits.vlast (o : OpVa) : LengthBits.Statement (.vlast o) := fun _ h => Option.some.inj h ▸ std_lengthOk _ _ _
theorem LengthBits.vget (o : OpVa) : LengthBits.Statement (.vget o) := fun _ h => Option.some.inj h ▸ std_lengthOk _ _ _
theorem LengthBits.vput (o : OpVa) : LengthBits.Statement (.vput o) := fun _ h => Option.some.inj h ▸ std_lengthOk _ _ _
theorem LengthBits.vtag (o : OpVa) : LengthBits.Statement (.vtag o) := fun _ h => Option.some.inj h ▸ std_lengthOk _ _ _
theorem LengthBits.vtagx (o : OpVa) : LengthBits.Statement (.vtagx o) := fun _ h => Option.some.inj h ▸ std_lengthOk _ _ _
theorem LengthBits.vtagr (o : OpVa) : LengthBits.Statement (.vtagr o) := fun _ h => Option.some.inj h ▸ std_lengthOk _ _ _
theorem LengthBits.tkinit (o : OpVa) : LengthBits.Statement (.tkinit o) := fun _ h => Option.some.inj h ▸ std_lengthOk _ _ _
theorem LengthBits.tkpush (o : OpVa) : LengthBits.Statement (.tkpush o) := fun _ h => Option.some.inj h ▸ std_lengthOk _ _ _
theorem LengthBits.tkpop (o : OpVa) : LengthBits.Statement (.tkpop o) := fun _ h => Option.some.inj h ▸ std_lengthOk _ _ _
theorem LengthBits.tksal (o : OpVa) : LengthBits.Statement (.tksal o) := fun _ h => Option.some.inj h ▸ std_lengthOk _ _ _
theorem LengthBits.mzero (o : OpMx) : LengthBits.Statement (.mzero o) := fun _ h => Option.some.inj h ▸ std_lengthOk _ _ _
theorem LengthBits.xacc (o : OpMx) : LengthBits.Statement (.xacc o) := fun _ h => Option.some.inj h ▸ std_lengthOk _ _ _
theorem LengthBits.xacct (o : OpMx) : LengthBits.Statement (.xacct o) := fun _ h => Option.some.inj h ▸ std_lengthOk _ _ _
theorem LengthBits.mext (o : OpMx) : LengthBits.Statement (.mext o) := fun _ h => Option.some.inj h ▸ std_lengthOk _ _ _
theorem LengthBits.gxacct (o : OpMx) : LengthBits.Statement (.gxacct o) := fun _ h => Option.some.inj h ▸ std_lengthOk _ _ _
theorem LengthBits.tset (o : OpMx) : LengthBits.Statement (.tset o) := fun _ h => Option.some.inj h ▸ std_lengthOk _ _ _
theorem LengthBits.cpy (o : OpR) : LengthBits.Statement (.cpy o) := fun _ h => Option.some.inj h ▸ std_lengthOk _ _ _
theorem LengthBits.cpyred (o : OpR) : LengthBits.Statement (.cpyred o) := fun _ h => Option.some.inj h ▸ std_lengthOk _ _ _
theorem LengthBits.pfs (o : OpR) : LengthBits.Statement (.pfs o) := fun _ h => Option.some.inj h ▸ std_lengthOk _ _ _
theorem LengthBits.pfstop (o : OpR) : LengthBits.Statement (.pfstop o) := fun _ h => Option.some.inj h ▸ std_lengthOk _ _ _
theorem LengthBits.twany (o : OpR) : LengthBits.Statement (.twany o) := fun _ h => Option.some.inj h ▸ std_lengthOk _ _ _
theorem LengthBits.twall (o : OpR) : LengthBits.Statement (.twall o) := fun _ h => Option.some.inj h ▸ std_lengthOk _ _ _
theorem LengthBits.tfirst (o : OpR) : LengthBits.Statement (.tfirst o) := fun _ h => Option.some.inj h ▸ std_lengthOk _ _ _
theorem LengthBits.tclr (o : OpR) : LengthBits.Statement (.tclr o) := fun _ h => Option.some.inj h ▸ std_lengthOk _ _ _
theorem LengthBits.tstat (o : OpR) : LengthBits.Statement (.tstat o) := fun _ h => Option.some.inj h ▸ std_lengthOk _ _ _
theorem LengthBits.bankset (o : OpR) : LengthBits.Statement (.bankset o) := fun _ h => Option.some.inj h ▸ std_lengthOk _ _ _
theorem LengthBits.cflush (o : OpR) : LengthBits.Statement (.cflush o) := fun _ h => Option.some.inj h ▸ std_lengthOk _ _ _
theorem LengthBits.cinval (o : OpR) : LengthBits.Statement (.cinval o) := fun _ h => Option.some.inj h ▸ std_lengthOk _ _ _
theorem LengthBits.pgmig (o : OpR) : LengthBits.Statement (.pgmig o) := fun _ h => Option.some.inj h ▸ std_lengthOk _ _ _
theorem LengthBits.ksins (o : OpVa) : LengthBits.Statement (.ksins o) := fun _ h => Option.some.inj h ▸ std_lengthOk _ _ _
theorem LengthBits.kslkp (o : OpVa) : LengthBits.Statement (.kslkp o) := fun _ h => Option.some.inj h ▸ std_lengthOk _ _ _
theorem LengthBits.ksacc (o : OpVa) : LengthBits.Statement (.ksacc o) := fun _ h => Option.some.inj h ▸ std_lengthOk _ _ _
theorem LengthBits.ksdrain (o : OpVa) : LengthBits.Statement (.ksdrain o) := fun _ h => Option.some.inj h ▸ std_lengthOk _ _ _
theorem LengthBits.ksclr (o : OpVa) : LengthBits.Statement (.ksclr o) := fun _ h => Option.some.inj h ▸ std_lengthOk _ _ _
theorem LengthBits.kscnt (o : OpVa) : LengthBits.Statement (.kscnt o) := fun _ h => Option.some.inj h ▸ std_lengthOk _ _ _
theorem LengthBits.ltld (o : OpVa) : LengthBits.Statement (.ltld o) := fun _ h => Option.some.inj h ▸ std_lengthOk _ _ _
theorem LengthBits.ltst (o : OpVa) : LengthBits.Statement (.ltst o) := fun _ h => Option.some.inj h ▸ std_lengthOk _ _ _
theorem LengthBits.ltfill (o : OpVa) : LengthBits.Statement (.ltfill o) := fun _ h => Option.some.inj h ▸ std_lengthOk _ _ _
theorem LengthBits.tmbind (o : OpVa) : LengthBits.Statement (.tmbind o) := fun _ h => Option.some.inj h ▸ std_lengthOk _ _ _
theorem LengthBits.tmmap (o : OpVa) : LengthBits.Statement (.tmmap o) := fun _ h => Option.some.inj h ▸ std_lengthOk _ _ _
theorem LengthBits.tmcomp (o : OpVa) : LengthBits.Statement (.tmcomp o) := fun _ h => Option.some.inj h ▸ std_lengthOk _ _ _
theorem LengthBits.tmrun (o : OpVa) : LengthBits.Statement (.tmrun o) := fun _ h => Option.some.inj h ▸ std_lengthOk _ _ _
theorem LengthBits.tmmask (o : OpVa) : LengthBits.Statement (.tmmask o) := fun _ h => Option.some.inj h ▸ std_lengthOk _ _ _
theorem LengthBits.hgbind (o : OpVa) : LengthBits.Statement (.hgbind o) := fun _ h => Option.some.inj h ▸ std_lengthOk _ _ _
theorem LengthBits.hgint (o : OpVa) : LengthBits.Statement (.hgint o) := fun _ h => Option.some.inj h ▸ std_lengthOk _ _ _
theorem LengthBits.hgmrg (o : OpVa) : LengthBits.Statement (.hgmrg o) := fun _ h => Option.some.inj h ▸ std_lengthOk _ _ _
theorem LengthBits.hgsave (o : OpVa) : LengthBits.Statement (.hgsave o) := fun _ h => Option.some.inj h ▸ std_lengthOk _ _ _
theorem LengthBits.hgrest (o : OpVa) : LengthBits.Statement (.hgrest o) := fun _ h => Option.some.inj h ▸ std_lengthOk _ _ _
theorem LengthBits.hgsplit (o : OpVa) : LengthBits.Statement (.hgsplit o) := fun _ h => Option.some.inj h ▸ std_lengthOk _ _ _
theorem LengthBits.hgdone (o : OpVa) : LengthBits.Statement (.hgdone o) := fun _ h => Option.some.inj h ▸ std_lengthOk _ _ _
theorem LengthBits.barinit (o : OpR) : LengthBits.Statement (.barinit o) := fun _ h => Option.some.inj h ▸ std_lengthOk _ _ _
theorem LengthBits.bararr (o : OpR) : LengthBits.Statement (.bararr o) := fun _ h => Option.some.inj h ▸ std_lengthOk _ _ _
theorem LengthBits.barwait (o : OpR) : LengthBits.Statement (.barwait o) := fun _ h => Option.some.inj h ▸ std_lengthOk _ _ _
theorem LengthBits.barsync (o : OpR) : LengthBits.Statement (.barsync o) := fun _ h => Option.some.inj h ▸ std_lengthOk _ _ _
theorem LengthBits.gang (o : OpR) : LengthBits.Statement (.gang o) := fun _ h => Option.some.inj h ▸ std_lengthOk _ _ _
theorem LengthBits.gleave (o : OpR) : LengthBits.Statement (.gleave o) := fun _ h => Option.some.inj h ▸ std_lengthOk _ _ _
theorem LengthBits.msgsnd (o : OpR) : LengthBits.Statement (.msgsnd o) := fun _ h => Option.some.inj h ▸ std_lengthOk _ _ _
theorem LengthBits.msgrcv (o : OpR) : LengthBits.Statement (.msgrcv o) := fun _ h => Option.some.inj h ▸ std_lengthOk _ _ _
theorem LengthBits.msgtry (o : OpR) : LengthBits.Statement (.msgtry o) := fun _ h => Option.some.inj h ▸ std_lengthOk _ _ _
theorem LengthBits.yield (o : OpR) : LengthBits.Statement (.yield o) := fun _ h => Option.some.inj h ▸ std_lengthOk _ _ _
theorem LengthBits.vsync (o : OpR) : LengthBits.Statement (.vsync o) := fun _ h => Option.some.inj h ▸ std_lengthOk _ _ _
theorem LengthBits.ldaq (o : OpAmo) : LengthBits.Statement (.ldaq o) := fun _ h => Option.some.inj h ▸ std_lengthOk _ _ _
theorem LengthBits.strl (o : OpAmo) : LengthBits.Statement (.strl o) := fun _ h => Option.some.inj h ▸ std_lengthOk _ _ _
theorem LengthBits.amoadd (o : OpAmo) : LengthBits.Statement (.amoadd o) := fun _ h => Option.some.inj h ▸ std_lengthOk _ _ _
theorem LengthBits.amoswap (o : OpAmo) : LengthBits.Statement (.amoswap o) := fun _ h => Option.some.inj h ▸ std_lengthOk _ _ _
theorem LengthBits.amoand (o : OpAmo) : LengthBits.Statement (.amoand o) := fun _ h => Option.some.inj h ▸ std_lengthOk _ _ _
theorem LengthBits.amoor (o : OpAmo) : LengthBits.Statement (.amoor o) := fun _ h => Option.some.inj h ▸ std_lengthOk _ _ _
theorem LengthBits.amomin (o : OpAmo) : LengthBits.Statement (.amomin o) := fun _ h => Option.some.inj h ▸ std_lengthOk _ _ _
theorem LengthBits.amomax (o : OpAmo) : LengthBits.Statement (.amomax o) := fun _ h => Option.some.inj h ▸ std_lengthOk _ _ _
theorem LengthBits.amocas (o : OpAmo) : LengthBits.Statement (.amocas o) := fun _ h => Option.some.inj h ▸ std_lengthOk _ _ _
theorem LengthBits.amobinc (o : OpAmo) : LengthBits.Statement (.amobinc o) := fun _ h => Option.some.inj h ▸ std_lengthOk _ _ _
theorem LengthBits.fence (o : OpAmo) : LengthBits.Statement (.fence o) := fun _ h => Option.some.inj h ▸ std_lengthOk _ _ _
theorem LengthBits.waita (o : OpAmo) : LengthBits.Statement (.waita o) := fun _ h => Option.some.inj h ▸ std_lengthOk _ _ _
theorem LengthBits.cAdd (o : OpC) : LengthBits.Statement (.cAdd o) := fun _ h => Option.some.inj h ▸ halfOf_lengthOk _ _
theorem LengthBits.cSub (o : OpC) : LengthBits.Statement (.cSub o) := fun _ h => Option.some.inj h ▸ halfOf_lengthOk _ _
theorem LengthBits.cAnd (o : OpC) : LengthBits.Statement (.cAnd o) := fun _ h => Option.some.inj h ▸ halfOf_lengthOk _ _
theorem LengthBits.cOr (o : OpC) : LengthBits.Statement (.cOr o) := fun _ h => Option.some.inj h ▸ halfOf_lengthOk _ _
theorem LengthBits.cXor (o : OpC) : LengthBits.Statement (.cXor o) := fun _ h => Option.some.inj h ▸ halfOf_lengthOk _ _
theorem LengthBits.cSll (o : OpC) : LengthBits.Statement (.cSll o) := fun _ h => Option.some.inj h ▸ halfOf_lengthOk _ _
theorem LengthBits.cSrl (o : OpC) : LengthBits.Statement (.cSrl o) := fun _ h => Option.some.inj h ▸ halfOf_lengthOk _ _
theorem LengthBits.cAddi (o : OpC) : LengthBits.Statement (.cAddi o) := fun _ h => Option.some.inj h ▸ halfOf_lengthOk _ _
theorem LengthBits.cMv (o : OpC) : LengthBits.Statement (.cMv o) := fun _ h => Option.some.inj h ▸ halfOf_lengthOk _ _
theorem LengthBits.cVadd (o : OpC) : LengthBits.Statement (.cVadd o) := fun _ h => Option.some.inj h ▸ halfOf_lengthOk _ _
theorem LengthBits.cVsub (o : OpC) : LengthBits.Statement (.cVsub o) := fun _ h => Option.some.inj h ▸ halfOf_lengthOk _ _
theorem LengthBits.cVmul (o : OpC) : LengthBits.Statement (.cVmul o) := fun _ h => Option.some.inj h ▸ halfOf_lengthOk _ _
theorem LengthBits.cVfma (o : OpC) : LengthBits.Statement (.cVfma o) := fun _ h => Option.some.inj h ▸ halfOf_lengthOk _ _
theorem LengthBits.cVmax (o : OpC) : LengthBits.Statement (.cVmax o) := fun _ h => Option.some.inj h ▸ halfOf_lengthOk _ _
theorem LengthBits.cVmin (o : OpC) : LengthBits.Statement (.cVmin o) := fun _ h => Option.some.inj h ▸ halfOf_lengthOk _ _
theorem LengthBits.cVand (o : OpC) : LengthBits.Statement (.cVand o) := fun _ h => Option.some.inj h ▸ halfOf_lengthOk _ _
theorem LengthBits.cVor (o : OpC) : LengthBits.Statement (.cVor o) := fun _ h => Option.some.inj h ▸ halfOf_lengthOk _ _
theorem LengthBits.cVxor (o : OpC) : LengthBits.Statement (.cVxor o) := fun _ h => Option.some.inj h ▸ halfOf_lengthOk _ _
theorem LengthBits.cVmv (o : OpC) : LengthBits.Statement (.cVmv o) := fun _ h => Option.some.inj h ▸ halfOf_lengthOk _ _
theorem LengthBits.faultQueueAppend : LengthBits.Statement (.faultQueueAppend) := fun _ h => nomatch h
theorem LengthBits.faultOutcomeResume (r : Nat) : LengthBits.Statement (.faultOutcomeResume r) := fun _ h => nomatch h
theorem LengthBits.faultOutcomeDeliver (r : Nat) (code : BitVec 8) : LengthBits.Statement (.faultOutcomeDeliver r code) := fun _ h => nomatch h
theorem LengthBits.viqEntryComplete (o : CompleteEntryArgs) : LengthBits.Statement (.viqEntryComplete o) := fun _ h => nomatch h
theorem LengthBits.viqEntryTrap (c : Bool) : LengthBits.Statement (.viqEntryTrap c) := fun _ h => nomatch h
theorem LengthBits.convoyStart (c : Bool) : LengthBits.Statement (.convoyStart c) := fun _ h => nomatch h
theorem LengthBits.elementGroupIssue (o : GroupArgs) : LengthBits.Statement (.elementGroupIssue o) := fun _ h => nomatch h
theorem LengthBits.issueStarvationTimeout (c : Bool) : LengthBits.Statement (.issueStarvationTimeout c) := fun _ h => nomatch h
theorem LengthBits.launchTake (table : Option (BitVec 64)) : LengthBits.Statement (.launchTake table) := fun _ h => nomatch h
theorem LengthBits.lotPlace (l : List PlaceArgs) : LengthBits.Statement (.lotPlace l) := fun _ h => nomatch h
theorem LengthBits.nextLotRunahead (o : PlaceArgs) : LengthBits.Statement (.nextLotRunahead o) := fun _ h => nomatch h
theorem LengthBits.lotComplete (o : CompleteArgs) : LengthBits.Statement (.lotComplete o) := fun _ h => nomatch h
theorem LengthBits.preemptionEvent (c : Bool) : LengthBits.Statement (.preemptionEvent c) := fun _ h => nomatch h
theorem LengthBits.killEvent (c : Bool) : LengthBits.Statement (.killEvent c) := fun _ h => nomatch h
theorem LengthBits.debugStopEvent (c : Bool) : LengthBits.Statement (.debugStopEvent c) := fun _ h => nomatch h
theorem LengthBits.hostHalt (c : Bool) : LengthBits.Statement (.hostHalt c) := fun _ h => nomatch h
theorem LengthBits.debugResume (c : Bool) : LengthBits.Statement (.debugResume c) := fun _ h => nomatch h
theorem LengthBits.traceSample (c : Bool) (time : BitVec 64) : LengthBits.Statement (.traceSample c time) := fun _ h => nomatch h
theorem LengthBits.traceBufferDrain : LengthBits.Statement (.traceBufferDrain) := fun _ h => nomatch h
theorem LengthBits.traceGatingDrainTimeout : LengthBits.Statement (.traceGatingDrainTimeout) := fun _ h => nomatch h
theorem LengthBits.waitaWake (c : Bool) : LengthBits.Statement (.waitaWake c) := fun _ h => nomatch h
theorem LengthBits.barrierWaitWake (c : Bool) : LengthBits.Statement (.barrierWaitWake c) := fun _ h => nomatch h
theorem LengthBits.gangWaitWake (o : GangWakeArgs) : LengthBits.Statement (.gangWaitWake o) := fun _ h => nomatch h
theorem LengthBits.tagWaitWake (c : Bool) : LengthBits.Statement (.tagWaitWake c) := fun _ h => nomatch h
theorem LengthBits.msgrcvWake (c : Bool) : LengthBits.Statement (.msgrcvWake c) := fun _ h => nomatch h
theorem LengthBits.wfiWake (c : Bool) : LengthBits.Statement (.wfiWake c) := fun _ h => nomatch h
theorem LengthBits.prefetchLineIssue (slot : Nat) : LengthBits.Statement (.prefetchLineIssue slot) := fun _ h => nomatch h
theorem LengthBits.prefetchLineArrival (slot : Nat) : LengthBits.Statement (.prefetchLineArrival slot) := fun _ h => nomatch h
theorem LengthBits.copyEngineRun (slot n : Nat) : LengthBits.Statement (.copyEngineRun slot n) := fun _ h => nomatch h
theorem LengthBits.copyComplete (slot : Nat) : LengthBits.Statement (.copyComplete slot) := fun _ h => nomatch h
theorem LengthBits.migrationComplete (slot : Nat) : LengthBits.Statement (.migrationComplete slot) := fun _ h => nomatch h
theorem LengthBits.heldAccessResume : LengthBits.Statement (.heldAccessResume) := fun _ h => nomatch h
theorem LengthBits.hostCxlMemRead (addr n : Nat) : LengthBits.Statement (.hostCxlMemRead addr n) := fun _ h => nomatch h
theorem LengthBits.hostCxlMemWrite (addr : Nat) (bytes : WriteData) : LengthBits.Statement (.hostCxlMemWrite addr bytes) := fun _ h => nomatch h
theorem LengthBits.hostAtomic (addr : Nat) (op : RmwOp) (wide : Bool) (v : BitVec 64) : LengthBits.Statement (.hostAtomic addr op wide v) := fun _ h => nomatch h
theorem LengthBits.hostSnoop (addr : SnoopArgs) : LengthBits.Statement (.hostSnoop addr) := fun _ h => nomatch h
theorem LengthBits.peerRequest (o : PeerArgs) : LengthBits.Statement (.peerRequest o) := fun _ h => nomatch h
theorem LengthBits.clusterIdleEntry : LengthBits.Statement (.clusterIdleEntry) := fun _ h => nomatch h
theorem LengthBits.clusterGate : LengthBits.Statement (.clusterGate) := fun _ h => nomatch h
theorem LengthBits.thermalStepDown (die : BitVec 2) : LengthBits.Statement (.thermalStepDown die) := fun _ h => nomatch h
theorem LengthBits.thermalShutdown : LengthBits.Statement (.thermalShutdown) := fun _ h => nomatch h
theorem LengthBits.linkFlitCrcFail (o : FlitArgs) : LengthBits.Statement (.linkFlitCrcFail o) := fun _ h => nomatch h
theorem LengthBits.linkRetrain (link : BitVec 2) : LengthBits.Statement (.linkRetrain link) := fun _ h => nomatch h
theorem LengthBits.linkDown (link : BitVec 2) : LengthBits.Statement (.linkDown link) := fun _ h => nomatch h
theorem LengthBits.dieAnswerTimeout (die : BitVec 2) : LengthBits.Statement (.dieAnswerTimeout die) := fun _ h => nomatch h
theorem LengthBits.ucieModuleDown (die : BitVec 2) : LengthBits.Statement (.ucieModuleDown die) := fun _ h => nomatch h
theorem LengthBits.ucieWidthDegrade (die : BitVec 2) : LengthBits.Statement (.ucieWidthDegrade die) := fun _ h => nomatch h
theorem LengthBits.ualinkPortDown (port : Fin 12) : LengthBits.Statement (.ualinkPortDown port) := fun _ h => nomatch h
theorem LengthBits.powerOnBoot (sentinel tail : Nat) : LengthBits.Statement (.powerOnBoot sentinel tail) := fun _ h => nomatch h
theorem LengthBits.pilotReset : LengthBits.Statement (.pilotReset) := fun _ h => nomatch h
theorem LengthBits.hostCxlReset : LengthBits.Statement (.hostCxlReset) := fun _ h => nomatch h
theorem LengthBits.throttle (die : BitVec 2) (cap : Fin 9) : LengthBits.Statement (.throttle die cap) := fun _ h => nomatch h
theorem LengthBits.dielost (die : BitVec 2) : LengthBits.Statement (.dielost die) := fun _ h => nomatch h
theorem LengthBits.erasestore : LengthBits.Statement (.erasestore) := fun _ h => nomatch h
theorem LengthBits.setualid (id : BitVec 10) : LengthBits.Statement (.setualid id) := fun _ h => nomatch h
theorem LengthBits.keywaydigest (digest : List Byte) : LengthBits.Statement (.keywaydigest digest) := fun _ h => nomatch h
theorem LengthBits.fwdebug (o : DebugAnswer) : LengthBits.Statement (.fwdebug o) := fun _ h => nomatch h
theorem LengthBits.setEndpointId (eid : BitVec 8) : LengthBits.Statement (.setEndpointId eid) := fun _ h => nomatch h
theorem LengthBits.getEndpointId : LengthBits.Statement (.getEndpointId) := fun _ h => nomatch h
theorem LengthBits.getMessageTypeSupport : LengthBits.Statement (.getMessageTypeSupport) := fun _ h => nomatch h
theorem LengthBits.pldmNumericSensor (sensor : Nat) : LengthBits.Statement (.pldmNumericSensor sensor) := fun _ h => nomatch h
theorem LengthBits.pldmStateSensor (sensor : Nat) : LengthBits.Statement (.pldmStateSensor sensor) := fun _ h => nomatch h
theorem LengthBits.pldmEventLog : LengthBits.Statement (.pldmEventLog) := fun _ h => nomatch h
theorem LengthBits.requestUpdate : LengthBits.Statement (.requestUpdate) := fun _ h => nomatch h
theorem LengthBits.passComponentTable (table : List Component) : LengthBits.Statement (.passComponentTable table) := fun _ h => nomatch h
theorem LengthBits.updateComponent (comp : Component) (image : FlashImage) : LengthBits.Statement (.updateComponent comp image) := fun _ h => nomatch h
theorem LengthBits.transferComplete : LengthBits.Statement (.transferComplete) := fun _ h => nomatch h
theorem LengthBits.verifyComplete : LengthBits.Statement (.verifyComplete) := fun _ h => nomatch h
theorem LengthBits.applyComplete : LengthBits.Statement (.applyComplete) := fun _ h => nomatch h
theorem LengthBits.activateFirmware : LengthBits.Statement (.activateFirmware) := fun _ h => nomatch h
theorem LengthBits.getVersion : LengthBits.Statement (.getVersion) := fun _ h => nomatch h
theorem LengthBits.getCapabilities : LengthBits.Statement (.getCapabilities) := fun _ h => nomatch h
theorem LengthBits.negotiateAlgorithms (sm2 sm3 : Bool) : LengthBits.Statement (.negotiateAlgorithms sm2 sm3) := fun _ h => nomatch h
theorem LengthBits.getDigests : LengthBits.Statement (.getDigests) := fun _ h => nomatch h
theorem LengthBits.getCertificate : LengthBits.Statement (.getCertificate) := fun _ h => nomatch h
theorem LengthBits.challenge (nonce : List Byte) : LengthBits.Statement (.challenge nonce) := fun _ h => nomatch h
theorem LengthBits.getMeasurements (index : Nat) : LengthBits.Statement (.getMeasurements index) := fun _ h => nomatch h
theorem LengthBits.kwcmdUnlock : LengthBits.Statement (.kwcmdUnlock) := fun _ h => nomatch h
theorem LengthBits.kwcmdLock : LengthBits.Statement (.kwcmdLock) := fun _ h => nomatch h
theorem LengthBits.replayStart (addr : BitVec 64) : LengthBits.Statement (.replayStart addr) := fun _ h => nomatch h
theorem LengthBits.replayPassEnd (cycles mj : BitVec 64) : LengthBits.Statement (.replayPassEnd cycles mj) := fun _ h => nomatch h
theorem LengthBits.lstatRead : LengthBits.Statement (.lstatRead) := fun _ h => nomatch h
theorem LengthBits.pairTableClear : LengthBits.Statement (.pairTableClear) := fun _ h => nomatch h
theorem LengthBits.ctxopSave (c : Bool) : LengthBits.Statement (.ctxopSave c) := fun _ h => nomatch h
theorem LengthBits.ctxopRestore (c : Bool) : LengthBits.Statement (.ctxopRestore c) := fun _ h => nomatch h
theorem LengthBits.controlWindowWrite (off : Nat) (bytes : List Byte) : LengthBits.Statement (.controlWindowWrite off bytes) := fun _ h => nomatch h
theorem LengthBits.galysTranslationDone (o : TranslationArgs) : LengthBits.Statement (.galysTranslationDone o) := fun _ h => nomatch h
theorem LengthBits.translationStoreReclaim : LengthBits.Statement (.translationStoreReclaim) := fun _ h => nomatch h
theorem LengthBits.decodeTableLoad : LengthBits.Statement (.decodeTableLoad) := fun _ h => nomatch h
theorem LengthBits.coreCycle (o : CycleArgs) : LengthBits.Statement (.coreCycle o) := fun _ h => nomatch h
theorem LengthBits.eccError (o : EccArgs) : LengthBits.Statement (.eccError o) := fun _ h => nomatch h
theorem LengthBits.freeGangNumberWake (o : GangFreeArgs) : LengthBits.Statement (.freeGangNumberWake o) := fun _ h => nomatch h
theorem LengthBits.powerLoss (cut : Bool) : LengthBits.Statement (.powerLoss cut) := fun _ h => nomatch h
theorem LengthBits.ucieLaneRepair (die : BitVec 2) : LengthBits.Statement (.ucieLaneRepair die) := fun _ h => nomatch h
theorem LengthBits.ucieL1Entry (die : BitVec 2) : LengthBits.Statement (.ucieL1Entry die) := fun _ h => nomatch h
theorem LengthBits.ucieL1Exit (die : BitVec 2) : LengthBits.Statement (.ucieL1Exit die) := fun _ h => nomatch h
theorem LengthBits.i3cDynamicAddress (addr : BitVec 7) : LengthBits.Statement (.i3cDynamicAddress addr) := fun _ h => nomatch h

end Sys2Proof.Laws
end

