-- ==== Sys2Proof/Laws/Vector.lean ====
section
/-! SUPPORT. Spans, elements and the push of the vector domain. -/

namespace Sys2Proof.Machine

/-! Elements in a number. -/

theorem pack_lt (w : Nat) (vs : List Nat) : pack w vs < 2 ^ (w * vs.length) := by
  induction vs with
  | nil => simp [pack]
  | cons v vs ih =>
    have h : 2 ^ (w * (v :: vs).length) = 2 ^ w * 2 ^ (w * vs.length) := by
      rw [← Nat.pow_add, List.length_cons, Nat.mul_add, Nat.mul_one, Nat.add_comm]
    have h1 : v % 2 ^ w < 2 ^ w := Nat.mod_lt _ (Nat.two_pow_pos w)
    have h2 : 2 ^ w * (pack w vs + 1) ≤ 2 ^ w * 2 ^ (w * vs.length) := Nat.mul_le_mul_left _ ih
    rw [pack, h, Nat.shiftLeft_eq, Nat.mul_comm (pack w vs)]
    rw [Nat.mul_add] at h2
    omega

/-- Element i of packed elements. -/
theorem elem_pack (w : Nat) (vs : List Nat) (i : Nat) (h : i < vs.length) : elem w (pack w vs) i = vs[i] % 2 ^ w := by
  induction vs generalizing i with
  | nil => simp at h
  | cons v vs ih =>
    have hp : 0 < 2 ^ w := Nat.two_pow_pos w
    cases i with
    | zero => simp [elem, pack, Nat.shiftLeft_eq]
    | succ i =>
      have h' : i < vs.length := by simpa using h
      rw [List.getElem_cons_succ, ← ih i h']
      have e : (v % 2 ^ w + (pack w vs) <<< w) / 2 ^ w = pack w vs := by
        rw [Nat.shiftLeft_eq, Nat.add_mul_div_right _ _ hp, Nat.div_eq_of_lt (Nat.mod_lt _ hp), Nat.zero_add]
      simp only [elem, pack, Nat.shiftRight_eq_div_pow]
      rw [show w * (i + 1) = w + w * i by rw [Nat.mul_add, Nat.mul_one, Nat.add_comm], Nat.pow_add,
        ← Nat.div_div_eq_div_mul, e]

/-- The tail above the elements of a list does not reach them. -/
theorem elem_or_high (w a b i n : Nat) (h : i < n) : elem w (a ||| (b >>> (w * n)) <<< (w * n)) i = elem w a i := by
  apply Nat.eq_of_testBit_eq
  intro k
  simp only [elem, Nat.testBit_mod_two_pow, Nat.testBit_shiftRight, Nat.testBit_or, Nat.testBit_shiftLeft]
  by_cases hk : k < w
  · have : w * i + w ≤ w * n := by
      have := Nat.mul_le_mul_left w (show i + 1 ≤ n from h); rw [Nat.mul_add, Nat.mul_one] at this; exact this
    simp [hk, show ¬ w * n ≤ w * i + k by omega]
  · simp [hk]

/-- Elements above packed ones come from the old number. -/
theorem elem_or_tail (w b i : Nat) (vs : List Nat) (h : vs.length ≤ i) :
    elem w (pack w vs ||| (b >>> (w * vs.length)) <<< (w * vs.length)) i = elem w b i := by
  apply Nat.eq_of_testBit_eq
  intro k
  simp only [elem, Nat.testBit_mod_two_pow, Nat.testBit_shiftRight, Nat.testBit_or, Nat.testBit_shiftLeft]
  have h1 : w * vs.length ≤ w * i := Nat.mul_le_mul_left w h
  have h2 : (pack w vs).testBit (w * i + k) = false :=
    Nat.testBit_lt_two_pow (Nat.lt_of_lt_of_le (pack_lt w vs) (Nat.pow_le_pow_right (by decide) (by omega)))
  simp [h2, show w * vs.length ≤ w * i + k by omega,
    show w * vs.length + (w * i + k - w * vs.length) = w * i + k by omega]

/-- With a zero tail they are zero. -/
theorem elem_zero_tail (w i : Nat) (vs : List Nat) (h : vs.length ≤ i) : elem w (pack w vs ||| 0) i = 0 := by
  apply Nat.eq_of_testBit_eq
  intro k
  have h1 : w * vs.length ≤ w * i := Nat.mul_le_mul_left w h
  have h2 : (pack w vs).testBit (w * i + k) = false :=
    Nat.testBit_lt_two_pow (Nat.lt_of_lt_of_le (pack_lt w vs) (Nat.pow_le_pow_right (by decide) (by omega)))
  simp [elem, Nat.testBit_mod_two_pow, Nat.testBit_shiftRight, h2]

/-! Registers of a span. -/

theorem putRegs_frame (s : State) (rlen : Nat) (tag : Tag) (r n bits : Nat) :
    ∃ v dirty bad, s.putRegs rlen tag r n bits = { s with cur := { s.cur with
      v := v, u := { s.cur.u with vdirty := dirty }, poison := { s.cur.poison with v := bad } } } := by
  induction n generalizing r bits with
  | zero => exact ⟨_, _, _, rfl⟩
  | succ n ih =>
    obtain ⟨v, d, b, e⟩ := ih (r + 1) (bits >>> (8 * rlen))
    simp only [State.putRegs, e]
    exact ⟨_, _, _, rfl⟩

/-- A register of the span after the write, and one outside it. -/
theorem putRegs_reg (s : State) (rlen : Nat) (tag : Tag) (r n bits : Nat) (h : r + n ≤ 32) (q : BitVec 5) :
    vget (n := 5) (s.putRegs rlen tag r n bits).cur.v q =
      if r ≤ q.toNat ∧ q.toNat < r + n then ⟨tag, (bits >>> (8 * rlen * (q.toNat - r))) % 2 ^ (8 * rlen)⟩
      else vget (n := 5) s.cur.v q := by
  induction n generalizing r bits with
  | zero => simp [State.putRegs, show ¬ (r ≤ q.toNat ∧ q.toNat < r) by omega]
  | succ n ih =>
    have hq := q.isLt
    simp only [State.putRegs, State.setCur]
    rw [vget_vset]
    by_cases e : BitVec.ofNat 5 r = q
    · have : q.toNat = r := by rw [← e]; simp; omega
      simp [e, this]
    · have ne : q.toNat ≠ r := fun c => e (by apply BitVec.eq_of_toNat_eq; simp; omega)
      rw [if_neg e, ih (r + 1) _ (by omega)]
      by_cases c : r ≤ q.toNat ∧ q.toNat < r + (n + 1)
      · rw [if_pos c, if_pos (by omega), ← Nat.shiftRight_add]
        congr 3
        rw [show q.toNat - r = (q.toNat - (r + 1)) + 1 by omega, Nat.mul_add, Nat.mul_one, Nat.add_comm]
      · rw [if_neg c, if_neg (by omega)]

/-- Reading back a span that has been written. -/
theorem regBits_putRegs (s : State) (rlen : Nat) (tag : Tag) (r n bits : Nat) (h : r + n ≤ 32) :
    (s.putRegs rlen tag r n bits).regBits rlen r n = bits % 2 ^ (8 * rlen * n) := by
  have key : ∀ (m k : Nat), k + m = n →
      (s.putRegs rlen tag r n bits).regBits rlen (r + k) m = (bits >>> (8 * rlen * k)) % 2 ^ (8 * rlen * m) := by
    intro m
    induction m with
    | zero => intro k _; simp [State.regBits, Nat.mod_one]
    | succ m ih =>
      intro k hk
      have hr : (BitVec.ofNat 5 (r + k)).toNat = r + k := by simp; omega
      rw [State.regBits, putRegs_reg s rlen tag r n bits h, if_pos (by omega), hr, Nat.add_assoc, ih (k + 1) (by omega)]
      simp only [Nat.add_sub_cancel_left]
      rw [Nat.mul_add (8 * rlen) k, Nat.mul_one, Nat.shiftRight_add]
      generalize bits >>> (8 * rlen * k) = b
      rw [show 8 * rlen * (m + 1) = 8 * rlen + 8 * rlen * m by rw [Nat.mul_add, Nat.mul_one, Nat.add_comm],
        Nat.pow_add, Nat.mod_mul, Nat.shiftLeft_eq, Nat.shiftRight_eq_div_pow, Nat.mul_comm (2 ^ (8 * rlen))]
  have := key n 0 (by omega)
  simpa using this

/-! The result of an element-wise instruction. -/

/-- Element i of a merged destination (R106). -/
theorem merge_elem (e : Entry) (w old hi : Nat) (act : Nat → Bool) (f : Nat → Nat × Word) (i : Nat) :
    elem w (e.merge w old hi act f).1 i =
      if i < e.vl then (e.outElem hi act (elem w old) f i).1 % 2 ^ w
      else if e.tp && decide (e.vl ≤ hi) && !e.reissue then 0 else elem w old i := by
  unfold Entry.merge
  dsimp only
  generalize hl : ((List.range e.vl).map (e.outElem hi act (elem w old) f)).map (·.1) = l
  have hlen : l.length = e.vl := by rw [← hl]; simp
  by_cases h : i < e.vl
  · have hi' : i < l.length := by omega
    have he : l[i] = (e.outElem hi act (elem w old) f i).1 := by
      subst hl; simp
    rw [if_pos h]
    split
    · rw [Nat.or_zero, elem_pack w l i hi', he]
    · rw [elem_or_high _ _ _ _ _ h, elem_pack w l i hi', he]
  · rw [if_neg h]
    split
    · exact elem_zero_tail w i l (by omega)
    · rw [← hlen]; exact elem_or_tail w old i l (by omega)

/-- Keeping poison changes nothing else; with no poisoned register before the write there is none to keep (R321). -/
theorem keepBad_frame (s old : State) (r n : Nat) (whole : Nat → Bool) :
    ∃ bad, s.keepBad old r n whole = { s with cur := { s.cur with poison := { s.cur.poison with v := bad } } } := by
  unfold State.keepBad
  split
  · exact ⟨_, rfl⟩
  · exact ⟨_, rfl⟩

theorem keepBad_clean (s : State) {old : State} (h : old.cur.poison.v = 0) (r n : Nat) (whole : Nat → Bool) :
    s.keepBad old r n whole = s := if_pos h

/-- A run to the end of the vector completes with the merged destination; a register that it does not fill stays poisoned. -/
theorem emitVecOn_done (got : Nat → Bool) (e : Entry) (s : State) (gov : Option Nat) (d : BitVec 5) (w : Nat) (tag : Tag)
    (f : Nat → Nat × Word) :
    emitVecOn got e e.vl s gov d w tag f =
      .done ((s.putSpan e d w tag (e.merge w (s.regBits e.rlen d.toNat (e.spanLen w)) e.vl (e.active s gov) f).1).keepBad s d.toNat
          (e.spanLen w) (e.wholeReg w (e.covers (governed gov) got)))
        (e.merge w (s.regBits e.rlen d.toNat (e.spanLen w)) e.vl (e.active s gov) f).2 := by
  simp [emitVecOn, Entry.ending, State.putSpanTo]

/-! The push. -/

/-- `lastd` is all that naming a destination changes. -/
theorem setXlast_frame (s : State) (d : BitVec 5) :
    ∃ l, s.setXlast d = { s with cur := { s.cur with u := { s.cur.u with lastd := l } } } := by
  unfold State.setXlast; split <;> exact ⟨_, rfl⟩

/-- Naming destinations changes `lastd` alone. -/
theorem nameDests_frame (s : State) (i : VInfo) :
    ∃ l, s.nameDests i = { s with cur := { s.cur with u := { s.cur.u with lastd := l } } } := by
  obtain ⟨_, vd, xd, _, _, _⟩ := i
  cases vd with
  | none =>
    cases xd with
    | none => exact ⟨_, rfl⟩
    | some x => exact setXlast_frame s x
  | some v =>
    cases xd with
    | none => exact ⟨_, rfl⟩
    | some x =>
      obtain ⟨l, h⟩ := setXlast_frame (s.setVlast v) x
      exact ⟨l, h⟩

/-- Queueing an entry that no unit runs changes the queue, the convoy and the quads. -/
theorem putEntry_frame (s : State) (e : Entry) (cv : Convoy) (hn : e.unit = none) :
    ∃ held, s.putEntry e cv =
      { s with cur := { s.cur with viq := s.cur.viq ++ [e], convoy := some cv }, core := { s.core with held := held } } := by
  unfold State.putEntry
  rw [hn]
  cases e.conv <;> exact ⟨_, rfl⟩

/-- What a push changes beside its retirement: the queue, the convoy, `vstart`, `lastd` and the quads. An instruction of a unit also claims
it. -/
theorem enqueue_frame (s : State) (e : Entry) (cv : Convoy) (i : VInfo) (hn : e.unit = none) :
    ∃ l held, s.enqueue e cv i = { s with
      cur := { s.cur with viq := s.cur.viq ++ [e], convoy := some cv, u := { s.cur.u with vstart := 0, lastd := l } }
      core := { s.core with held := held } } := by
  unfold State.enqueue
  obtain ⟨l, hl⟩ := nameDests_frame (s.setU { s.cur.u with vstart := 0 }) i
  rw [hl]
  obtain ⟨held, hp⟩ := putEntry_frame _ e cv hn
  exact ⟨l, held, hp⟩

/-- With nothing queued, and for an entry that writes no `x` register, the retirement of a push is a plain one. -/
theorem retirePush_empty {s : State} (h : s.cur.viq = []) (e : Entry) (len : Nat) : s.retirePush e len = s.retire len := by
  obtain ⟨q, lp, x, p, l, k, hr⟩ := State.retire_frame s len
  unfold State.retirePush
  rw [hr]
  dsimp only
  split
  · rfl
  · rw [h]; rfl

theorem retirePush_noX {s : State} {e : Entry} (h : e.writesX s = []) (len : Nat) : s.retirePush e len = s.retire len := by
  unfold State.retirePush
  rw [h]
  have : (s.closedInto (s.retire len)).filter ([] : List Nat).contains = [] := by simp
  dsimp only
  rw [this]

/-- A push that no check stops, behind no other entry, runs the entry (R15). -/
theorem pushVector_idle {code : Code} {len : Nat} {c : Bool} {op : VOp} {s : State} (hu : s.user = true)
    (hx : s.xPoisoned (op.info.xa.toList ++ op.info.xb.toList) = false)
    (hc : (nextConvoy s.cur.convoy c op.info.cls).legal = true) (hr : s.runsAtPush = true)
    (ht : s.tileHeld (s.newEntry code c op.info) = false) (hd : (s.newEntry code c op.info).unit.any s.unitDrains = false) (hb : (s.newEntry code c op.info).unit.any s.claimBad = false) :
    pushVector code len c op s = .next (State.settleHead (s.newEntry code c op.info)
      (op.run (s.newEntry code c op.info) (s.newEntry code c op.info).total
        (s.enqueue (s.newEntry code c op.info) (nextConvoy s.cur.convoy c op.info.cls) op.info))
      (s.newEntry code c op.info).total (·.retirePush (s.newEntry code c op.info) len)) := by
  have hq : s.cur.viq.length + s.oldEntries.length < 64 := by
    simp only [State.runsAtPush, Bool.and_eq_true, List.isEmpty_iff] at hr
    simp [hr.1.1.1, hr.1.1.2]
  unfold pushVector
  simp [hu, hx, hc, hr, ht, hd, hb, show ¬ 64 ≤ s.cur.viq.length + s.oldEntries.length by omega]

/-- One behind which an older entry is queued waits in the queue. -/
theorem pushVector_queued {code : Code} {len : Nat} {c : Bool} {op : VOp} {s : State} (hu : s.user = true)
    (hx : s.xPoisoned (op.info.xa.toList ++ op.info.xb.toList) = false)
    (hc : (nextConvoy s.cur.convoy c op.info.cls).legal = true) (hr : s.runsAtPush = false)
    (hq : s.cur.viq.length + s.oldEntries.length < 64)
    (hd : (s.newEntry code c op.info).unit.any s.unitDrains = false) (hb : (s.newEntry code c op.info).unit.any s.claimBad = false) :
    pushVector code len c op s = .next
      ((s.enqueue (s.newEntry code c op.info) (nextConvoy s.cur.convoy c op.info.cls) op.info).retirePush (s.newEntry code c op.info) len) := by
  unfold pushVector
  simp [hu, hx, hc, hr, hd, hb, show ¬ 64 ≤ s.cur.viq.length + s.oldEntries.length by omega]

/-- A vector-domain instruction in system mode is a monitor fault (R309). -/
theorem pushVector_system {code : Code} {len : Nat} {c : Bool} {op : VOp} {s : State} (h : s.user = false) :
    pushVector code len c op s = .next s.monitorFault := by
  simp [pushVector, h]

/-- A convoy limit that the push would break (R32). -/
theorem pushVector_convoy {code : Code} {len : Nat} {c : Bool} {op : VOp} {s : State} (hu : s.user = true)
    (hx : s.xPoisoned (op.info.xa.toList ++ op.info.xb.toList) = false)
    (hc : (nextConvoy s.cur.convoy c op.info.cls).legal = false) :
    pushVector code len c op s = .next (s.trap cConvoy code.tval) := by
  simp [pushVector, hu, hx, hc]

end Sys2Proof.Machine
end

