-- ==== Sys2Proof/Tests/Slice0.lean ====
section
/-! SUPPORT. Tests: what `WellFormed` refuses, words written out from the encoding tables of the spec, single steps whose results are
worked out by hand from the rules, and for every statement states and operands that meet its hypotheses. -/

namespace Sys2Proof.Tests

open Sys2Proof Sys2Proof.Machine Sys2Proof.Claims

/-! ## Ill-formed instructions -/

/-- A must-be-zero field of each format is set (R28). -/
theorem test_illFormed_zero : ¬ WellFormed (.clz ⟨1, 2, 3⟩) ∧ ¬ WellFormed (.fsqrt ⟨0, 1, 2, 3⟩) ∧ ¬ WellFormed (.srd ⟨1, 2, 0x10⟩) ∧
    ¬ WellFormed (.ecall ⟨1, 0⟩) ∧ ¬ WellFormed (.tlbinv ⟨1, 2⟩) ∧ ¬ WellFormed (.vid ⟨false, 1, 2, 0, 15⟩) ∧
    ¬ WellFormed (.vld ⟨false, 1, 2, 3, 0, 15⟩) ∧ ¬ WellFormed (.mzero ⟨false, 1, 0, 0, 0, 15⟩) ∧ ¬ WellFormed (.cpy ⟨1, 2, 3⟩) ∧
    ¬ WellFormed (.yield ⟨0, 0, 1⟩) ∧ ¬ WellFormed (.gleave ⟨0, 1, 2⟩) ∧ ¬ WellFormed (.fence ⟨0, 0, 0, 0, 1⟩) ∧
    ¬ WellFormed (.ltld ⟨false, 1, 2, 3, 15⟩) ∧ ¬ WellFormed (.tkpush ⟨false, 1, 2, 3, 15⟩) ∧ ¬ WellFormed (.cMv ⟨1, 2⟩) ∧
    ¬ WellFormed (.ksclr ⟨false, 0, 0, 1, 15⟩) ∧ ¬ WellFormed (.kscnt ⟨false, 1, 2, 0, 15⟩) ∧ ¬ WellFormed (.tmbind ⟨false, 1, 2, 0, 15⟩) ∧
    ¬ WellFormed (.vaddVxWide ⟨false, 1, 2, 3, 15, 0⟩) := by decide

/-- A mask number, a format register, a stream register or a tile that does not exist (R105, R133, R150, R238, R266, R280). -/
theorem test_illFormed_numbers : ¬ WellFormed (.mand ⟨false, 16, 0, 0, 15⟩) ∧ ¬ WellFormed (.mand ⟨false, 0, 16, 0, 15⟩) ∧
    ¬ WellFormed (.mand ⟨false, 0, 0, 16, 15⟩) ∧ ¬ WellFormed (.vceqVv ⟨false, 16, 1, 2, 15⟩) ∧ ¬ WellFormed (.mcnt ⟨false, 1, 16, 0, 15⟩) ∧
    ¬ WellFormed (.kslkp ⟨false, 1, 2, 16, 15⟩) ∧ ¬ WellFormed (.vpartb ⟨false, 1, 2, 16, 15⟩) ∧ ¬ WellFormed (.tmcomp ⟨false, 1, 2, 16, 15⟩) ∧
    ¬ WellFormed (.xacc ⟨false, 8, 0, 0, 0, 15⟩) ∧ ¬ WellFormed (.xacct ⟨false, 0, 8, 0, 0, 15⟩) ∧ ¬ WellFormed (.gxacct ⟨false, 0, 0, 8, 0, 15⟩) ∧
    ¬ WellFormed (.mext ⟨false, 1, 8, 0, 0, 15⟩) ∧ ¬ WellFormed (.tset ⟨false, 8, 1, 0, 0, 15⟩) ∧ ¬ WellFormed (.tset ⟨false, 1, 1, 0, 1, 15⟩) := by
  decide

/-- A governing mask that an instruction must name, or must not. -/
theorem test_illFormed_governing : ¬ WellFormed (.vmergeVv ⟨false, 1, 2, 3, 15⟩) ∧ ¬ WellFormed (.vldff ⟨false, 1, 2, 0, 0, 15⟩) ∧
    ¬ WellFormed (.ksdrain ⟨false, 1, 0, 2, 15⟩) ∧ ¬ WellFormed (.hgint ⟨false, 1, 2, 3, 15⟩) ∧ ¬ WellFormed (.vget ⟨false, 1, 2, 3, 0⟩) ∧
    ¬ WellFormed (.ltfill ⟨false, 0, 1, 2, 0⟩) ∧ ¬ WellFormed (.tmcomp ⟨false, 1, 2, 3, 0⟩) := by decide

/-- A reserved precision, width, scope, hint, register number, `vtype` or page count; `BARSYNC` without a destination (R79, R181, R123,
R95, R100, R319, R189). -/
theorem test_illFormed_values : ¬ WellFormed (.fadd ⟨2, 1, 2, 3⟩) ∧ ¬ WellFormed (.amoadd ⟨0, 2, 1, 2, 3⟩) ∧
    ¬ WellFormed (.amoadd ⟨5, 0, 1, 2, 3⟩) ∧ ¬ WellFormed (.fence ⟨5, 0, 0, 0, 0⟩) ∧ ¬ WellFormed (.vldx ⟨false, 1, 2, 3, 3, 15⟩) ∧
    ¬ WellFormed (.swr ⟨1, 2, 0x400⟩) ∧ ¬ WellFormed (.vcfg ⟨1, 2, 0x800⟩) ∧ ¬ WellFormed (.vcfg ⟨1, 2, 0x600⟩) ∧
    ¬ WellFormed (.pgsplice ⟨1, 2, 0⟩) ∧ ¬ WellFormed (.pgsplice ⟨1, 2, 65⟩) ∧ ¬ WellFormed (.barsync ⟨0, 1, 0⟩) := by decide

/-! ## Words by the encoding tables (R27, R34, R37, R41): fields from bit 31 down, the major, C, the length bits -/

/-- f9 or f5 over b, a, d. -/
theorem test_decode_threeRegisters :
    decodeTableWord 32 0b000000000_00010_00001_00011_00000_0_01 = some (.add ⟨3, 1, 2⟩) ∧
    decodeTableWord 32 0b000000001_11111_00001_00011_00000_0_01 = some (.sub ⟨3, 1, 31⟩) ∧
    decodeTableWord 32 0b000_00_0010_00111_00110_00101_00101_0_01 = some (.amoadd ⟨0, 0, 5, 6, 7⟩) ∧
    decodeTableWord 32 0b100_01_1011_00111_00110_00101_00101_0_01 = some (.waita ⟨4, 1, 5, 6, 7⟩) ∧
    decodeTableWord 32 0b0000_00000_00010_00001_00000_11001_0_01 = some (.cpy ⟨0, 1, 2⟩) ∧
    decodeTableWord 32 0b0000_00000_00010_00001_00000_11100_0_01 = some (.barinit ⟨0, 1, 2⟩) ∧
    decodeTableWord 32 0b0000_00100_00010_00001_00011_11100_0_01 = some (.gang ⟨3, 1, 2⟩) := ⟨rfl, rfl, rfl, rfl, rfl, rfl, rfl⟩

/-- imm11 over f3, a, d; imm19 over d; off16 over cond and the tested register; a body length over level, a, d. -/
theorem test_decode_immediates :
    decodeTableWord 32 0b11111111111_000_00001_00101_00001_0_01 = some (.addi ⟨5, 1, 0x7FF⟩) ∧
    decodeTableWord 32 0b00001_000011_110_00001_00101_00001_0_01 = some (.srli ⟨5, 1, 3⟩) ∧
    decodeTableWord 32 0b0000000000000000001_00101_00010_0_01 = some (.lup ⟨5, 1⟩) ∧
    decodeTableWord 32 0b00000000100_010_00001_00101_00011_0_01 = some (.lw ⟨5, 1, 4⟩) ∧
    decodeTableWord 32 0b00000001000_011_00001_00101_00100_0_01 = some (.sd ⟨5, 1, 8⟩) ∧
    decodeTableWord 32 0b0000000000000011_010_00101_00110_0_01 = some (.bltz ⟨5, 3⟩) ∧
    decodeTableWord 32 0b0000000000000011_000_0_0101_00111_0_01 = some (.bany ⟨5, 3⟩) ∧
    decodeTableWord 32 0b0000000000000000010_00001_01000_0_01 = some (.jal ⟨1, 2⟩) ∧
    decodeTableWord 32 0b00000000000_000_00001_00000_01001_0_01 = some (.jalr ⟨0, 1, 0⟩) ∧
    decodeTableWord 32 0b00000000101_010_00010_00011_01011_0_01 = some (.loop ⟨3, 2, 2, 5⟩) := ⟨rfl, rfl, rfl, rfl, rfl, rfl, rfl, rfl, rfl, rfl⟩

/-- SYS and VC. -/
theorem test_decode_system :
    decodeTableWord 32 0b0_0100000101_001_00010_00001_01010_0_01 = some (.swr ⟨1, 2, 0x105⟩) ∧
    decodeTableWord 32 0b00000000000_100_00000_00000_01010_0_01 = some (.ecall ⟨0, 0⟩) ∧
    decodeTableWord 32 0b00000000010_100_00000_00000_01010_0_01 = some (.eret ⟨0, 0⟩) ∧
    decodeTableWord 32 0b00000000101_100_00001_00000_01010_0_01 = some (.tlbinv ⟨0, 1⟩) ∧
    decodeTableWord 32 0b0000_0000001_101_00001_00010_01010_0_01 = some (.pgsplice ⟨2, 1, 1⟩) ∧
    decodeTableWord 32 0b0_00_0100000010_00010_00001_01100_0_01 = some (.vcfg ⟨1, 2, 0x102⟩) ∧
    decodeTableWord 32 0b1_00000000_00011_00010_00001_01100_0_01 = some (.vcfgr ⟨1, 2, 3⟩) := ⟨rfl, rfl, rfl, rfl, rfl, rfl, rfl⟩

/-- mk over f5, b, a, d; fs and f2; mode and hint. -/
theorem test_decode_vector :
    decodeTableWord 32 0b0011_00000_00010_00001_00100_01101_1_01 = some (.vaddVv ⟨true, 4, 1, 2, 3⟩) ∧
    decodeTableWord 32 0b1111_00001_00010_00001_00100_01110_0_01 = some (.vsubVx ⟨false, 4, 1, 2, 15⟩) ∧
    decodeTableWord 32 0b1111_00_101_00010_00001_00100_01111_0_01 = some (.vfmaVfv ⟨false, 4, 1, 2, 5, 15⟩) ∧
    decodeTableWord 32 0b1111_11_101_00010_00001_00100_10000_0_01 = some (.vmulVfx ⟨false, 4, 1, 2, 5, 15⟩) ∧
    decodeTableWord 32 0b1111_00_001_00000_00001_00100_10001_0_01 = some (.vcvt ⟨false, 4, 1, 1, 15⟩) ∧
    decodeTableWord 32 0b1111_00_001_00110_00001_00100_10001_0_01 = some (.vexp2 ⟨false, 4, 1, 1, 15⟩) ∧
    decodeTableWord 32 0b1111_00_001_00010_00001_00100_10010_0_01 = some (.vdot ⟨false, 4, 1, 2, 1, 15⟩) ∧
    decodeTableWord 32 0b0010_01_010_00010_00001_00100_10011_1_01 = some (.vldx ⟨true, 4, 1, 2, 1, 2⟩) ∧
    decodeTableWord 32 0b1111_00_100_00010_00001_00100_10100_0_01 = some (.vstsu ⟨false, 4, 1, 2, 0, 15⟩) ∧
    decodeTableWord 32 0b1111_11_010_00010_00001_00100_10101_0_01 = some (.vamomin ⟨false, 4, 1, 2, 3, 15⟩) ∧
    decodeTableWord 32 0b1111_00000_00010_00001_00100_10110_0_01 = some (.mand ⟨false, 4, 1, 2, 15⟩) ∧
    decodeTableWord 32 0b1111_01110_00010_00001_00100_10111_0_01 = some (.vperm ⟨false, 4, 1, 2, 15⟩) ∧
    decodeTableWord 32 0b1111_010_01_00010_00001_00100_11000_0_01 = some (.xacct ⟨false, 4, 1, 2, 1, 15⟩) ∧
    decodeTableWord 32 0b1111_00000_00010_00001_00100_11010_0_01 = some (.ksins ⟨false, 4, 1, 2, 15⟩) ∧
    decodeTableWord 32 0b0001_00110_00010_00001_00100_11011_0_01 = some (.hgint ⟨false, 4, 1, 2, 1⟩) :=
  ⟨rfl, rfl, rfl, rfl, rfl, rfl, rfl, rfl, rfl, rfl, rfl, rfl, rfl, rfl, rfl⟩

/-- Wide forms: the second word is the high part of the immediate (R37). Compact ops: b, d, op, 0 (R41). -/
theorem test_decode_wideAndCompact :
    decodeTableWord 64 0b00000000000000000000000000000001_00000000001_000_00001_00101_00001_0_11 = some (.addiWide ⟨5, 1, 0x801⟩) ∧
    decodeTableWord 64 0b00000000000000000000000000000001_0000000000000001_010_00101_00110_0_11 = some (.bltzWide ⟨5, 0x10001⟩) ∧
    decodeTableWord 64 0b00000000000000000000000000000101_1111_00000_00000_00001_00100_01110_1_11 = some (.vaddVxWide ⟨true, 4, 1, 0, 15, 5⟩) ∧
    decodeTableWord 64 0b11111111111111111111111111111000_1111_00_000_00000_00001_00100_10011_0_11 =
      some (.vldWide ⟨false, 4, 1, 0, 0, 15, 0xFFFFFFF8⟩) ∧
    decodeTableWord 16 0b01010_01001_00001_0 = some (.cAdd ⟨9, 10⟩) ∧ decodeTableWord 16 0b01010_01001_01010_0 = some (.cVadd ⟨9, 10⟩) :=
  ⟨rfl, rfl, rfl, rfl, rfl, rfl⟩

/-- A convoy bit in a scalar major (R29), a reserved major, a reserved function (R35), a wide form that R37 does not give, a word cut short. -/
theorem test_decode_refuses :
    decode [0x05, 0x03, 0x08, 0x00] = .error .convoyBit ∧ decode [0xE9, 0x03, 0x08, 0x00] = .error .reservedMajor ∧
    decode [0x01, 0x03, 0x08, 0xFF] = .error .reservedFunction ∧ decode [0x03, 0x03, 0x08, 0x00, 0, 0, 0, 0] = .error .notWide ∧
    decode [0x00, 0x00] = .error .reservedCompact ∧ decode [0x01, 0x03] = .error .truncated ∧
    decode [0x51, 0x01, 0x10, 0x00] = .error .badField := ⟨rfl, rfl, rfl, rfl, rfl, rfl, rfl⟩

/-! ## Single steps -/

/-- A live user thread at 0x10000: `vtype` vt, `vl` 3, the vector registers under tag t, and four scalar values. The TLB maps the page
at 0x20000 to 0x30000, for every access. -/
def vec (vt : Word) (t : Tag) : State :=
  { State.reset with
    core := { CoreRes.reset with tlb1 := [⟨0, 2, false, 0x3006F⟩] }
    cur := { Ctx.reset false with
      pc := 0x10000
      x := #v[0, 0x20000, 8, 3, 1, 0xFFFFFFFFFFFFFFFF, 0x8000000000000000, 0x3F800000, 0x40000000, 0, 0, 0, 0, 0, 0, 0,
        0, 0, 0, 0, 0, 0, 0, 0, 0, 0, 0, 0, 0, 0, 0, 0]
      v := Vector.replicate 32 ⟨t, 0⟩
      u := { UserRegs.start with vtype := vt, vl := 3 }
      thr := { Thread.empty with live := true } } }

/-- The same in system mode, where addresses are physical. -/
def sys : State := (vec 0x100 0).setSys { (vec 0x100 0).cur.sys with mode := .system, tvec := 0x4000 }

/-- `vec` with the bits of `v1` and `v2`. -/
def two (vt : Word) (t : Tag) (a b : Nat) : State :=
  (vec vt t).setCur { (vec vt t).cur with v := ((Vector.replicate 32 ⟨t, 0⟩).set 1 ⟨t, a⟩).set 2 ⟨t, b⟩ }

/-- A part of the state after an instruction. -/
def got {α : Type} (i : Instr) (s : State) (f : State → α) : Option α :=
  match exec i s with
  | .next t => some (f t)
  | _ => none

/-- R77: a sum wraps; the address moves on by 4. -/
theorem test_add_wraps : got (.add ⟨9, 5, 4⟩) (vec 0x100 0) (fun t => (t.x 9, t.cur.pc)) = some (0, 0x10004) := rfl
/-- R75: `x0` discards a result. -/
theorem test_add_x0 : got (.add ⟨0, 3, 4⟩) (vec 0x100 0) (fun t => (t.x 0, t.cur.u.lastd)) = some (0, 0) := rfl
/-- R78, R49: −2^63 / −1 overflows to the dividend. -/
theorem test_div_overflow : got (.div ⟨9, 6, 5⟩) (vec 0x100 0) (·.x 9) = some 0x8000000000000000 := by decide
/-- R78: the remainder of that division is 0. -/
theorem test_rem_overflow : got (.rem ⟨9, 6, 5⟩) (vec 0x100 0) (·.x 9) = some 0 := by decide
/-- R77: the high half of (−1) × 3 as signed numbers is −1. -/
theorem test_mulh_sign : got (.mulh ⟨9, 5, 3⟩) (vec 0x100 0) (·.x 9) = some 0xFFFFFFFFFFFFFFFF := by decide
/-- R81: an immediate is sign-extended. -/
theorem test_addi_negative : got (.addi ⟨9, 3, 0x7FF⟩) (vec 0x100 0) (·.x 9) = some 2 := rfl
/-- R82: `LUP` shifts by 11. -/
theorem test_lup : got (.lup ⟨9, 3⟩) (vec 0x100 0) (·.x 9) = some 0x1800 := by decide
/-- R79: 1.0 + 2.0 = 3.0 in FP32, without flags. -/
theorem test_fadd : got (.fadd ⟨0, 9, 7, 8⟩) (vec 0x100 0) (fun t => (t.x 9, t.cur.u.sfctl)) = some (0x40400000, 0) := by decide
/-- R58: 1.0 / 0 is infinite with DZ, bit 3 of `sfctl`. -/
theorem test_fdiv_zero : got (.fdiv ⟨0, 9, 7, 0⟩) (vec 0x100 0) (fun t => (t.x 9, t.cur.u.sfctl)) = some (0x7F800000, 8) := by decide
/-- R83: a store in system mode reaches physical memory; R6: little-endian. -/
theorem test_sw : got (.sw ⟨7, 1, 0⟩) sys (fun t => (t.mem.read 0x20002, t.mem.read 0x20003)) = some (0x80, 0x3F) := by decide
/-- R213: a store in user mode goes through the TLB. -/
theorem test_sb_translated : got (.sb ⟨3, 1, 1⟩) (vec 0x100 0) (fun t => t.mem) = some [(0x30001, 3)] := by decide
/-- R83: `LB` extends the sign. -/
theorem test_lb_sign : got (.lb ⟨9, 1, 0⟩) { vec 0x100 0 with mem := [(0x30000, 0x80)] } (·.x 9) = some 0xFFFFFFFFFFFFFF80 := by decide
/-- R6: a misaligned doubleword traps with CODE 6 and its address. -/
theorem test_ld_misaligned : got (.ld ⟨9, 1, 4⟩) (vec 0x100 0) (fun t => (t.cur.sys.cause, t.cur.sys.tval)) = some (6, 0x20004) := by decide
/-- R182: the old word is returned, zero-extended. -/
theorem test_amoadd : got (.amoadd ⟨0, 0, 9, 1, 3⟩) { vec 0x100 0 with mem := [(0x30000, 0xFF)] } (fun t => (t.x 9, t.mem)) =
    some (0xFF, [(0x30000, 2), (0x30001, 1)]) := by decide
/-- R86: a branch back by two halfwords. -/
theorem test_bnez : got (.bnez ⟨3, 0xFFFE⟩) (vec 0x100 0) (·.cur.pc) = some 0xFFFC := by decide
/-- R89: the link is the next address. -/
theorem test_jal : got (.jal ⟨9, 8⟩) (vec 0x100 0) (fun t => (t.x 9, t.cur.pc)) = some (0x10004, 0x10010) := by decide
/-- R91: the body of a loop begins behind the instruction; trip count 3 from `x3`. -/
theorem test_loop : got (.loop ⟨9, 3, 0, 4⟩) (vec 0x100 0) (fun t => (t.cur.lp[0].trip, t.cur.lp[0].stop, t.cur.pc)) =
    some (3, 0x1000C, 0x10004) := by decide
/-- R101: the smaller of `x[a]` and `vlmax`; 2,048 bytes hold 512 words. -/
theorem test_vcfg : got (.vcfg ⟨9, 1, 0x102⟩) (vec 0x100 0) (fun t => (t.x 9, t.cur.u.vlmax, t.cur.u.vtype)) = some (512, 512, 0x102) := by decide
/-- R110: bytes wrap, each alone. -/
theorem test_vadd : got (.vaddVv ⟨false, 4, 1, 2, 15⟩) (two 0x100 0 0x01FF7F 0x020201) (fun t => (vget (n := 5) t.cur.v 4).bits) =
    some 0x030180 := by decide +kernel
/-- R106: under a mask with only bit 1 the other elements keep their bits. -/
theorem test_vadd_masked : got (.vaddVv ⟨false, 4, 1, 2, 3⟩) ((two 0x100 0 0x010203 0x010101).putMask 3 2)
    (fun t => (vget (n := 5) t.cur.v 4).bits) = some 0x0300 := by decide +kernel
/-- R47: operands of different tags raise the tag trap, in the entry at the head of the queue. -/
theorem test_vadd_tags : got (.vaddVv ⟨false, 4, 1, 2, 15⟩) ((vec 0x100 0).putRegs 2048 1 2 1 0)
    (fun t => (t.cur.sys.cause.setWidth 8, t.cur.sys.cause.getLsbD 62, t.cur.viq.length)) = some (4#8, true, 1) := by decide
/-- R137: a sum of three bytes from 8. -/
theorem test_rsum : got (.rsum ⟨false, 9, 1, 2, 15⟩) (two 0x100 0 0x010203 0) (·.x 9) = some 14 := by decide
/-- R310: `ECALL` saves pc and goes to `tvec` in system mode. -/
theorem test_ecall : got (.ecall ⟨0, 0⟩) ((vec 0x100 0).setSys { SysRegs.reset with tvec := 0x4000 })
    (fun t => (t.cur.pc, t.cur.sys.epc, t.cur.sys.cause, t.cur.sys.mode)) = some (0x4000, 0x10000, 0x18, .system) := by decide
/-- R310: `ERET` returns to `epc`. -/
theorem test_eret : got (.eret ⟨0, 0⟩) (sys.setSys { sys.cur.sys with epc := 0x10008 }) (fun t => (t.cur.pc, t.cur.sys.mode)) =
    some (0x10008, .user) := by decide
/-- R305: `WFI` in user mode is illegal; `tval` holds its word. -/
theorem test_wfi_user : got (.wfi ⟨0, 0⟩) (vec 0x100 0) (fun t => (t.cur.sys.cause, t.cur.sys.tval)) = some (2, 0x00700051) := by decide
/-- R96: a system register written in user mode is illegal. -/
theorem test_swr_user : got (.swr ⟨0, 3, 0x104⟩) (vec 0x100 0) (fun t => (t.cur.sys.cause, t.cur.sys.tvec)) = some (2, 0) := by decide
/-- R304: `tvec` in system mode; bits 1 and 0 stay 0. -/
theorem test_swr_system : got (.swr ⟨9, 3, 0x104⟩) sys (fun t => (t.x 9, t.cur.sys.tvec)) = some (0x4000, 0) := by decide
/-- R191: the last arrival of a barrier opens it and starts the next generation. -/
theorem test_bararr : got (.bararr ⟨9, 1, 0⟩) { vec 0x100 0 with mem := [(0x30000, 1), (0x30004, 7), (0x30008, 2)] } (fun t => (t.x 9, t.mem)) =
    some (7, [(0x30000, 2), (0x30004, 8), (0x30008, 2)]) := by decide
/-- R196: a message to oneself arrives in the mailbox. -/
theorem test_msgsnd : got (.msgsnd ⟨9, 0, 3⟩) (vec 0x100 0) (fun t => (t.x 9, t.cur.thr.mailbox)) = some (0, [(0, 3)]) := by decide
/-- R39, R41: a compact op works on the last destination. -/
theorem test_cAdd : got (.cAdd ⟨9, 3⟩) ((vec 0x100 0).writeX 10 4) (fun t => (t.x 9, t.cur.pc)) = some (7, 0x10002) := by decide

/-- The word of `ADDI x9, x3, 4` at pc, through fetch and decode. -/
theorem test_step : (match step ({ sys with forced := true }.withFetchWord 32 0b00000000100_000_00011_01001_00001_0_01) with
    | .next t => some (t.x 9)
    | _ => none) = some 7 := by decide

/-! ## States and operands that meet the hypotheses of the statements -/

/-- A user thread with nothing poisoned, queued or owed to the lanes. -/
structure Calm (s : State) : Prop where
  user : s.user = true
  poison : s.cur.poison = Poison.empty
  convoy : s.cur.convoy = none
  viq : s.cur.viq = []
  old : s.oldEntries = []
  quads : s.core.quads = 3
  lanes : s.lanesNext = false

theorem Calm.x {s : State} (h : Calm s) (xs : List (BitVec 5)) : Unpoisoned s xs := by
  show s.xPoisoned xs = false
  simp [State.xPoisoned, h.poison, Poison.empty]

theorem Calm.ready {s : State} (h : Calm s) (cls : Cls) (c : Bool) (xs : List (BitVec 5)) : Ready s cls c xs :=
  ⟨h.user, h.x xs, by rw [h.convoy]; cases cls <;> cases c <;> rfl, h.viq, h.old, by simp [State.hasQuad, h.quads], h.lanes⟩

theorem Calm.works {s : State} (h : Calm s) (hv : vstart s < vl s) (cls : Cls) (c : Bool) (xs : List (BitVec 5)) : Works s cls c xs :=
  ⟨h.ready cls c xs, hv⟩

theorem Calm.clean {s : State} (h : Calm s) (w : Nat) (r : BitVec 5) : Clean s w r := by
  intro k _; rw [h.poison]; show (0 : Word).getLsbD _ = false; simp

theorem Calm.source {s : State} (h : Calm s) {w : Nat} {r : BitVec 5} (ha : r.toNat % span s w = 0 ∧ r.toNat + span s w ≤ 32) :
    Source s w r := ⟨ha, h.clean w r⟩

theorem Calm.mask {s : State} (h : Calm s) (m : BitVec 4) : MaskFree s m := by
  show s.cur.poison.m.getLsbD _ = false; rw [h.poison]; show (0 : Word).getLsbD _ = false; simp

theorem Calm.gov {s : State} (h : Calm s) (m : BitVec 4) : GovFree s m := .inr (h.mask m)

theorem Calm.tile {s : State} (h : Calm s) (n : BitVec 2) : TileClean s n := by
  show s.cur.poison.ac.getLsbD _ = false; rw [h.poison]; show (0 : Word).getLsbD _ = false; simp

theorem Calm.drained {s : State} (h : Calm s) : Drained s := by
  show s.releaseWaits = false; simp [State.releaseWaits, h.viq]

theorem calm_vec (vt : Word) (t : Tag) : Calm (vec vt t) := ⟨rfl, rfl, rfl, rfl, rfl, rfl, rfl⟩

/-- The page of `vec` at 0x20000, for every access. -/
structure Mapped (s : State) : Prop where
  user : s.user = true
  tlb : s.core.tlb1 = [⟨0, 2, false, 0x3006F⟩]
  asid : s.cur.sys.asid = 0
  copies : s.core.copies = []
  mig : s.dev.mig = []
  lost : s.dev.lost = []
  bad : s.bad = []

theorem mapped_vec (vt : Word) (t : Tag) : Mapped (vec vt t) := ⟨rfl, rfl, rfl, rfl, rfl, rfl, rfl⟩

theorem Mapped.find {s : State} (h : Mapped s) {k : Nat} (hk : k < 0x10000) :
    tlbFind s s.cur.sys.asid.toNat (0x20000 + k) = some ⟨0, 2, false, 0x3006F⟩ := by
  have e : (0x20000 + k) / 65536 = 2 := by omega
  simp [tlbFind, h.tlb, h.asid, TlbEntry.hits, e]

theorem low_hbm {k : Nat} (hk : k < 0x10000) : regionOf (0x30000 + k) = .hbm 0 := by
  simp only [regionOf]
  rw [if_pos (by omega), if_pos (by omega)]
  congr 1; omega

theorem Mapped.place {s : State} (h : Mapped s) (m : MemAttr) {k : Nat} (hk : k < 0x10000) :
    physAt s m (0x30000 + k) = .at (.mem (0x30000 + k) m) := by
  simp [physAt, low_hbm hk, Device.dieLost, h.lost, State.lineHeld, h.copies, h.mig]

theorem Mapped.tr {s : State} (h : Mapped s) {k : Nat} (hk : k < 0x10000) (acc : Acc) (ha : acc ≠ .fetch) :
    Machine.translate s (0x20000 + k) acc = (.at (.mem (0x30000 + k) .normal), s) := by
  have e : (0x20000 + k) % 2 ^ 16 = k := by omega
  have hp : ∀ a : Acc, a ≠ .fetch → (permOk 0x3006F a && (!a.writes || pteD 0x3006F)) = true := by intro a; cases a <;> decide
  have hf : pteFrame 0x3006F = 0x30000 := by decide
  have hm : (pteMt 0x3006F == 2) = false := by decide
  have ht : pteT 0x3006F = false := by decide
  have hl : findLeaf s s.cur.sys.asid.toNat s.cur.sys.ptbase.toNat (0x20000 + k) acc = (.ok (0x3006F, false), s) := by
    unfold findLeaf; rw [h.find hk]; exact if_pos (hp acc ha)
  unfold Machine.translate translateIn
  rw [if_pos h.user, hl]
  show (leafLoc s _ _ _ _ _, s) = _
  simp only [leafLoc, hm, ht, hf, e]
  exact congrArg (·, s) (h.place _ hk)

theorem Mapped.hit {s : State} (h : Mapped s) {k : Nat} (hk : k < 0x10000) {acc : Acc} (ha : acc ≠ .fetch) :
    Hit s (0x20000 + k) acc (.mem (0x30000 + k) .normal) := by
  have e : (0x20000 + k) % 2 ^ 16 = k := by omega
  refine ⟨⟨_, h.find hk, ?_, fun _ => by decide, ?_⟩, .inl ⟨_, _, rfl⟩⟩
  · revert ha; cases acc <;> decide
  · show if pteMt 0x3006F = 2 then _ else _
    rw [if_neg (by decide)]
    refine ⟨by decide, ?_⟩
    have hf : pteFrame 0x3006F = 0x30000 := by decide
    rw [hf, if_neg (by decide), e]; exact h.place _ hk

theorem Mapped.tlbHit {s : State} (h : Mapped s) {k : Nat} (hk : k < 0x10000) {acc : Acc} (ha : acc ≠ .fetch) :
    TlbHit s (0x20000 + k) acc (0x30000 + k) .normal := by
  have e : (0x20000 + k) % 2 ^ 16 = k := by omega
  refine ⟨h.user, ⟨_, h.find hk, ?_, fun _ => by decide, by decide, by decide, by decide, ?_⟩, h.place _ hk⟩
  · revert ha; cases acc <;> decide
  · have hf : pteFrame 0x3006F = 0x30000 := by decide
    rw [hf, if_neg (by decide), e]

theorem Mapped.sound {s : State} (h : Mapped s) (pa n : Nat) : s.badLine pa n = none := by
  simp [State.badLine, badIn, h.bad]

theorem Mapped.object {s : State} (h : Mapped s) {ea : Word} {k : Nat} (he : ea.toNat = 0x20000 + k) (hk : k < 0x10000) (ha : k % 16 = 0)
    (hq : Quiet s) : ObjectAt s ea (0x30000 + k) :=
  ⟨⟨by omega, by omega⟩, ⟨_, he ▸ h.tlbHit hk (by decide)⟩, hq, ⟨0, low_hbm hk⟩, h.sound _ _⟩

theorem Mapped.holds {s : State} (h : Mapped s) {k : Nat} {bs : List Byte} (hk : k + bs.length ≤ 0x10000)
    (hb : ∀ j, j < bs.length → bs.getD j 0 = s.mem.read (0x30000 + (k + j))) : HoldsBytes s (0x20000 + k) bs := by
  intro j b hj
  obtain ⟨hl, hg⟩ := List.getElem?_eq_some_iff.mp hj
  refine ⟨by omega, .mem (0x30000 + (k + j)) .normal, ?_, .inl ⟨_, _, rfl, h.sound _ _, ?_⟩⟩
  · rw [Nat.add_assoc]; exact h.tr (by omega) .read (by decide)
  · rw [← hb j hl]; simp [List.getD, hj]

/-- Every element of the first page reads and writes there. -/
theorem Mapped.elements {s : State} (h : Mapped s) (acc : Acc) (ha : acc ≠ .fetch) (act : Nat → Bool) (ea : Nat → Word) (l : Nat → Nat)
    (he : ∀ i, act i = true → (ea i).toNat = 0x20000 + l i ∧ l i < 0x10000 ∧ l i % (ew s / 8) = 0 ∧ (ew s / 8) ∣ 0x20000)
    (hw : s.kden = false) : Elements s acc act ea fun i => .mem (0x30000 + l i) .normal := by
  intro i hi
  obtain ⟨e, hk, hm, hd⟩ := he i hi
  refine ⟨⟨by omega, ?_, by simp [State.watch, hw]⟩, e ▸ h.hit hk ha, fun _ => by simp [locPoison, h.sound]⟩
  rw [e, Nat.add_mod, hm, Nat.mod_eq_zero_of_dvd hd]; simp

theorem aligned {s : State} {w : Nat} {r : BitVec 5} (h : r.toNat % span s w = 0 ∧ r.toNat + span s w ≤ 32) : Aligned s w r := h

theorem Calm.operand {s : State} (h : Calm s) {kinds : Kind → Bool} {d a : BitVec 5} {mk : BitVec 4}
    (ht : tagOk (s.vtag a) = true ∧ kinds (tagKind (s.vtag a)) = true ∧ bytesOf (s.vtag a) = ew s)
    (ha : a.toNat % span s (ew s) = 0 ∧ a.toNat + span s (ew s) ≤ 32) (hd : d.toNat % span s (ew s) = 0 ∧ d.toNat + span s (ew s) ≤ 32) :
    Operand s kinds d a mk := ⟨ht.1, ht.2.1, ht.2.2, h.source ha, aligned hd, h.gov mk⟩

theorem Calm.data {s : State} (h : Calm s) {a : BitVec 5} {mk : BitVec 4}
    (ht : tagOk (s.vtag a) = true ∧ (tagKind (s.vtag a)).isIXFB = true ∧ tagWidth (s.vtag a) = ew s)
    (ha : a.toNat % span s (ew s) = 0 ∧ a.toNat + span s (ew s) ≤ 32) : Data s a mk :=
  ⟨ht.1, ht.2.1, ht.2.2, h.source ha, h.gov mk⟩

/-- Bytes under `sint8`; 32-bit elements under `fp32`. -/
abbrev i8 : State := vec 0x100 0
abbrev f32 : State := vec 0x102 0x012
theorem i8c : Calm i8 := calm_vec ..
theorem f32c : Calm f32 := calm_vec ..

/-- A state with `fm1`. -/
def withFm (s : State) (v : Word) : State := { s with cur := { s.cur with fm := vset (n := 3) s.cur.fm 1 v } }

theorem Calm.fm {s : State} (h : Calm s) (v : Word) : Calm (withFm s v) := ⟨h.user, h.poison, h.convoy, h.viq, h.old, h.quads, h.lanes⟩

theorem witness_ScalarIntegerResults : Unpoisoned i8 [1] ∧ Unpoisoned i8 [31] := ⟨i8c.x _, i8c.x _⟩

theorem witness_ImmediateAndCompactResults :
    Unpoisoned i8 [0] ∧ Unpoisoned i8 [31] ∧ Unpoisoned i8 [i8.cur.u.lastd.setWidth 5] := ⟨i8c.x _, i8c.x _, i8c.x _⟩

/-- A row of R110 in its three forms, a shift row, and `VSGNJ` on `fp32`. -/
theorem witness_VectorIntegerResults :
    Works i8 .alu true [3] ∧ Operand i8 numbers 3 1 15 ∧ Source i8 (ew i8) 2 ∧ i8.vtag 2 = i8.vtag 1 ∧ numbers (tagKind (i8.vtag 1)) = true ∧
    Operand i8 Kind.isIX 31 31 3 ∧ (tagOk (i8.vtag 2) ∧ (tagKind (i8.vtag 2)).isIX ∧ tagWidth (i8.vtag 2) = ew i8) ∧
    Operand i8 Kind.isInt 0 0 0 ∧ Works f32 .alu false [] ∧ Operand f32 signRow.kinds 4 5 15 ∧ tagUns (f32.vtag 5) = false ∧
    Source f32 (ew f32) 6 ∧ f32.vtag 6 = f32.vtag 5 :=
  ⟨i8c.works (by decide) .., i8c.operand (by decide) (by decide) (by decide), i8c.source (by decide), by decide, by decide,
    i8c.operand (by decide) (by decide) (by decide), by decide, i8c.operand (by decide) (by decide) (by decide),
    f32c.works (by decide) .., f32c.operand (by decide) (by decide) (by decide), by decide, f32c.source (by decide), by decide⟩

theorem witness_VectorComparisonsAndMoves :
    Works i8 .alu false [2] ∧ Reads i8 numbers 1 15 ∧ Source i8 (ew i8) 2 ∧ i8.vtag 2 = i8.vtag 1 ∧ (3 : BitVec 4) ≠ 15 ∧
    Operand i8 (fun _ => true) 4 1 3 ∧ Operand i8 numbers 4 1 3 ∧ (tagOk (i8.vtag 31) ∧ numbers (tagKind (i8.vtag 31)) ∧
      tagWidth (i8.vtag 31) = ew i8) ∧ Aligned i8 (ew i8) 31 ∧ GovFree i8 14 :=
  ⟨i8c.works (by decide) .., ⟨by decide, by decide, by decide, i8c.source (by decide), i8c.gov _⟩, i8c.source (by decide), by decide,
    by decide, i8c.operand (by decide) (by decide) (by decide), i8c.operand (by decide) (by decide) (by decide), by decide,
    aligned (by decide), i8c.gov _⟩

/-- `VFMA` and `VMUL` on `fp32` under `fm0` = 0, all registers apart, and with vd = va. -/
theorem witness_FusedResults : ∀ r ∈ fusedRows, Works f32 .fma false [4] ∧
    Fused r f32 ⟨false, 3, 1, 2, 0, 15⟩ plainFormat 0x012 0x012 0x012 ∧ FusedReg f32 ⟨false, 3, 1, 2, 0, 15⟩ plainFormat 0x012 0x012 ∧
    Fused r f32 ⟨false, 1, 1, 4, 0, 0⟩ plainFormat 0x012 0x012 0x012 ∧ (0x012 : Tag) = given plainFormat.btag 0x012 := fun _ _ =>
  ⟨f32c.works (by decide) .., ⟨rfl, by decide, by decide, .inr (by decide), by decide, ⟨by decide, fun _ => by decide⟩, f32c.source (by decide), aligned (by decide),
      .inl (by unfold Apart; decide), fun _ => ⟨by decide, f32c.clean _ _⟩, f32c.gov _⟩,
    ⟨by decide, f32c.source (by decide), .inl (by unfold Apart; decide)⟩,
    ⟨rfl, by decide, by decide, .inr (by decide), by decide, ⟨by decide, fun _ => by decide⟩, f32c.source (by decide), aligned (by decide), .inr (by decide),
      fun _ => ⟨by decide, f32c.clean _ _⟩, f32c.gov _⟩, by decide⟩

/-- `VCVT` from `sint32` to `fp32`, `VNEG`, `VSQRT`, `VPOPC`. -/
theorem witness_UnaryResults :
    let s := withFm (vec 0x102 0x010) 0x1200000
    let f : FmtReg := ⟨0, 0, 0x012, 0, 0, 0, .rne, false, 0⟩
    Works s .alu false [] ∧ fmtReg (s.fm 1) = .ok f ∧ (0x010 : Tag) = given f.atag (s.vtag 1) ∧ tagOk 0x010 ∧ (tagKind 0x010).isIXFB = true ∧
    givenD f.dfmt 0x010 0x012 ∧ Source s (numWidth 0x010) 1 ∧ Aligned s (numWidth 0x012) 1 ∧ DestBeside s (numWidth 0x012) 1 (numWidth 0x010) 1 ∧
    GovFree s 15 ∧ fmtReg (f32.fm 7) = .ok plainFormat ∧ fixedD same plainFormat.dfmt 0x012 0x012 ∧ fixedD unsignedOf 0 0x010 0x011 :=
  ⟨((calm_vec _ _).fm _).works (by decide) .., rfl, by decide, by decide, by decide, ⟨by decide, by decide, by decide, by decide⟩,
    ((calm_vec _ _).fm _).source (by decide), aligned (by decide), .inr (by decide), ((calm_vec _ _).fm _).gov _, rfl,
    ⟨by decide, .inl (by decide)⟩, ⟨by decide, .inl (by decide)⟩⟩

/-- `VRCP` and `VID` on `fp32` under `fm0` = 0; the special values take positive numbers. -/
theorem witness_SpecialFunctions :
    Works f32 .sfu false [] ∧ fmtReg (f32.fm 0) = .ok plainFormat ∧ (0x012 : Tag) = given 0 (f32.vtag 1) ∧ tagOk 0x012 ∧
    ((tagKind 0x012).isFloat && (0x012 : Tag) != tagFp64) = true ∧ floatD 0 0x012 0x012 ∧ floatD 0x00A 0x012 0x00A ∧
    Source f32 (numWidth 0x012) 1 ∧ Aligned f32 (numWidth 0x012) 2 ∧ DestBeside f32 (numWidth 0x012) 2 (numWidth 0x012) 1 ∧ GovFree f32 15 ∧
    Works f32 .alu false [] ∧ Aligned f32 (ew f32) 31 ∧ 0 < 1 :=
  ⟨f32c.works (by decide) .., rfl, by decide, by decide, by decide, .inl (by decide), .inr (by decide), f32c.source (by decide),
    aligned (by decide), .inl (by unfold Apart; decide), f32c.gov _, f32c.works (by decide) .., aligned (by decide), by decide⟩

/-- `VDOT` of `sint8` elements into a `sint32` register, and `VSSMX` on `fp32`. -/
theorem witness_DotProductsAndStrips :
    (let s := (vec 0x102 0).putRegs 2048 0x010 3 1 0
     Works s .fma false [] ∧ fmtReg (s.fm 0) = .ok plainFormat ∧ ew s = 32 ∧ DotPair 0x000 0x000 8 0x010 ∧ (0x000 : Tag) = given 0 (s.vtag 1) ∧
      (0x000 : Tag) = given 0 (s.vtag 2) ∧ s.vtag 3 = 0x010 ∧ Source s 32 1 ∧ Source s 32 3 ∧ GovFree s 15) ∧
    DotPair 0x107 0x107 4 0x011 ∧ Works f32 .sfu false [] ∧ Softmax f32 ⟨false, 5, 4, 1, 0, 15⟩ plainFormat 0x012 0x012 := by
  have c : Calm ((vec 0x102 0).putRegs 2048 0x010 3 1 0) := ⟨rfl, rfl, rfl, rfl, rfl, rfl, rfl⟩
  refine ⟨⟨c.works (by decide) .., rfl, by decide, .ints 0 0 (.inl rfl) (.inl rfl), by decide, by decide, by decide, c.source (by decide),
    c.source (by decide), c.gov _⟩, .nibbles _ _ (.inr rfl) (.inr rfl), f32c.works (by decide) .., rfl, by decide, by decide, .inl rfl, by decide,
    by decide, by decide, fun k _ => by simp [Poison.empty, vec, Ctx.reset], f32c.source (by decide), aligned (by decide),
    .inl (by unfold Apart; decide), by decide, ?_, f32c.gov _⟩
  intro k hk
  left; unfold Apart; revert k; decide

theorem Mapped.scalar {s : State} (h : Mapped s) {ea : Word} {k n : Nat} (he : ea.toNat = 0x20000 + k) (hk : k < 0x10000)
    (hn : ea.toNat % n = 0) {acc : Acc} (ha : acc ≠ .fetch) (hw : s.memWaits acc ea.toNat n = false) :
    scalarLoc s ea n acc = .ok (.mem (0x30000 + k) .normal) s := by
  have hc : checkEa s ea n = none := by
    unfold checkEa; rw [if_neg (by omega), if_neg (by omega)]
  unfold scalarLoc locate
  rw [hc]
  simp only [hw]
  rw [he]
  simp only [h.tr hk acc ha]
  cases acc <;> simp [locPoison, h.sound]

theorem mapped_i8 : Mapped i8 := mapped_vec ..

/-- An entry, and a thread that has it queued. -/
def entry : Entry := ⟨.word 0, 0x10000, false, 0, 0, 0, 3, 0, 0x100, 0, 0, false, none, false, 0, [], 0, [], []⟩
def busy : State := { i8 with cur := { i8.cur with viq := [entry] } }
/-- `VST v1, [x1]` queued, and `VADD v4, v1, v2` before it; the vector compare `VCEQ m3, v1, v2` finished or not. -/
def storeEntry : Entry := { entry with code := .word 0b1111_00_000_00000_00001_00001_10100_0_01, xa := 0x20000 }
def compare (fin : Bool) : Entry := { entry with code := .word 0b1111_10011_00010_00001_00011_01101_0_01, fin := fin }
def queued (q : List Entry) : State := { i8 with cur := { i8.cur with viq := q } }
/-- `x1` names the memory of peer 0, which is no Phizon device; this device is number 1. -/
def peered : State := { (sys.writeX 1 0x8000000000000) with
  dev := { sys.dev with ualId := some 1, peers := [⟨0, false, false, [0]⟩], links := { sys.dev.links with portDown := [] } } }
/-- `vl` 0, for an instruction without elements. -/
def none8 : State := { i8 with cur := { i8.cur with u := { i8.cur.u with vl := 0 } } }
theorem none8c : Calm none8 := ⟨rfl, rfl, rfl, rfl, rfl, rfl, rfl⟩
/-- pc near the end of the instruction space. -/
def high : State := { i8 with cur := { i8.cur with pc := 0xFFFFFFFFFFFFC } }
theorem highc : Calm high := ⟨rfl, rfl, rfl, rfl, rfl, rfl, rfl⟩
/-- Level 0 of the loop state at the third and last pass of a body from 0x10004 to 0x1000C, the pc at its last instruction. -/
def looping (i : Word) (pc : BitVec 52) : State := { i8 with cur := { i8.cur with
  pc := pc, lp := i8.cur.lp.set 0 ⟨i, 3, BitVec.ofNat 64 (2 ^ 63 + 9 * 2 ^ 56 + 0x10004), 0x1000C⟩ } }
/-- A spatial level 1 with the lot range 1 to 2. -/
def spatial : State := { i8 with cur := { i8.cur with thr := { i8.cur.thr with ranges := [(1, 1, 2)] } } }
/-- The debug keyway is open for address space 0. -/
def unlocked (s : State) : State := { s with dev := { s.dev with win := { s.dev.win with unlocked := some 0 } } }

theorem witness_MaskInstructions :
    Works i8 .alu false [] ∧ MaskFree i8 (mask 1) ∧ MaskFree i8 (mask 15) ∧ GovFree i8 3 ∧ Works i8 .alu false [3, 4] ∧ Data i8 1 15 ∧
    Aligned i8 (ew i8) 31 ∧ (Ready i8 .alu false [] ∧ vstart i8 < vl i8) ∧ (Ready none8 .alu false [] ∧ vl none8 ≤ vstart none8) ∧
    (let s := vec 0x102 0x011
     Works s .alu true [] ∧ Data s 1 3 ∧ Data s 2 3 ∧ Aligned s 32 3 ∧ Apart s 32 3 (ew s) 1 ∧ Apart s 32 3 (ew s) 2 ∧
      ((s.vtag 1 = 0x011 ∨ s.vtag 1 = 0x015) ∧ (32 : Nat) = 32) ∧ Source s 32 1 ∧ GovFree s 3) ∧
    ((vec 0x103 0x01D).vtag 1 = 0x019 ∨ (vec 0x103 0x01D).vtag 1 = 0x01D) :=
  ⟨i8c.works (by decide) .., i8c.mask _, i8c.mask _, i8c.gov _, i8c.works (by decide) .., i8c.data (by decide) (by decide), aligned (by decide),
    ⟨i8c.ready .., by decide⟩, ⟨none8c.ready .., by decide⟩, ⟨(calm_vec ..).works (by decide) .., (calm_vec ..).data (by decide) (by decide),
      (calm_vec ..).data (by decide) (by decide), aligned (by decide), by unfold Apart; decide, by unfold Apart; decide, by decide,
      (calm_vec ..).source (by decide), (calm_vec ..).gov _⟩, by decide⟩

/-- With elements and, under the empty mask m1, without; integers and floats. -/
theorem witness_Reductions :
    Works i8 .xl false [2] ∧ Data i8 1 15 ∧ Data i8 1 1 ∧ actives i8 1 = [] ∧ actives i8 15 ≠ [] ∧ (tagKind (i8.vtag 1)).isFloat = false ∧
    Works f32 .xl true [2] ∧ Data f32 1 15 ∧ actives f32 15 ≠ [] ∧ (tagKind (f32.vtag 1)).isFloat = true ∧ vstart i8 < vl i8 ∧
    Ready i8 .xl false [] ∧ Aligned i8 (ew i8) 1 :=
  ⟨i8c.works (by decide) .., i8c.data (by decide) (by decide), i8c.data (by decide) (by decide), by decide, by decide, by decide,
    f32c.works (by decide) .., f32c.data (by decide) (by decide), by decide, by decide, by decide, i8c.ready .., aligned (by decide)⟩

/-- `VPUT` at index 1, and at 3 = `vl`. -/
theorem witness_ElementPlacement :
    Data i8 1 3 ∧ vstart i8 < vl i8 ∧ Aligned i8 (ew i8) 3 ∧ Apart i8 (ew i8) 3 (ew i8) 1 ∧ Ready i8 .xl false [2] ∧ tagOk 0 ∧ (tagKind 0).isIX ∧
    i8.vtag 2 = 0 ∧ Source i8 (tagWidth 0) 2 ∧ Apart i8 (ew i8) 3 (tagWidth 0) 2 ∧ Works i8 .xl false [2] ∧ Data i8 1 15 ∧
    (tagOk (i8.vtag 3) ∧ (tagKind (i8.vtag 3)).isIXFB ∧ tagWidth (i8.vtag 3) = ew i8) ∧ vl i8 ≤ (i8.x 3).toNat ∧ (i8.x 4).toNat < vl i8 ∧
    ew i8 * ((i8.x 4).toNat + 1) ≤ 8 * rlen i8 * span i8 (ew i8) ∧ (∀ r : BitVec 5, (vget (n := 5) i8.cur.v r).bits < 2 ^ (8 * rlen i8)) ∧
    (tagOk 0x012 ∧ Aligned i8 (tagWidth 0x012) 28 ∧ (0x012 : Tag) = (0 : BitVec 5) ++ (18 : BitVec 5)) ∧
    (tagOk 1 ∧ Aligned i8 (tagWidth 1) 31 ∧ i8.x 4 = (1 : Tag).setWidth 64) := by
  refine ⟨i8c.data (by decide) (by decide), by decide, aligned (by decide), by unfold Apart; decide, i8c.ready .., by decide, by decide, by decide,
    i8c.source (by decide), by unfold Apart; decide, i8c.works (by decide) .., i8c.data (by decide) (by decide), by decide, by decide, by decide,
    by decide, fun r => ?_, ⟨by decide, aligned (by decide), by decide⟩, by decide, aligned (by decide), by decide⟩
  have : (vget (n := 5) i8.cur.v r).bits = 0 := by simp [i8, vec, vget]
  rw [this]; exact Nat.pow_pos (by decide)

theorem witness_ScalarFloatResults : Unpoisoned i8 [7] ∧ Unpoisoned i8 [8] ∧ ((0 : BitVec 3) = 0 ∨ (0 : BitVec 3) = 1) := ⟨i8c.x _, i8c.x _, .inl rfl⟩

/-- A doubleword at the last place of the page; the address ranges where they meet; a misaligned halfword. -/
theorem witness_ScalarLoadsAndStores :
    Unpoisoned i8 [1] ∧ Unpoisoned i8 [1, 3] ∧ i8.watch 0x2FFF8 8 true false = none ∧ i8.watch 0x2FFF8 8 false true = none ∧
    scalarLoc i8 0x2FFF8 8 .read = .ok (.mem 0x3FFF8 .normal) i8 ∧ scalarLoc i8 0x2FFF8 8 .write = .ok (.mem 0x3FFF8 .normal) i8 ∧ i8.dev.replay = none ∧
    2 ^ 52 ≤ (i8.x 5 + (0 : BitVec 11).signExtend 64).toNat ∧
    (i8.x 1 + (1 : BitVec 11).signExtend 64).toNat < 2 ^ 52 ∧ (i8.x 1 + (1 : BitVec 11).signExtend 64).toNat % 2 ≠ 0 :=
  ⟨i8c.x _, i8c.x _, by decide, by decide, mapped_i8.scalar (k := 0xFFF8) (by decide) (by decide) (by decide) (by decide) rfl,
    mapped_i8.scalar (k := 0xFFF8) (by decide) (by decide) (by decide) (by decide) rfl, rfl, by decide, by decide, by decide⟩

/-- An `AMO`; a `WAITA` whose word differs from `x3`, and one whose word is `x0`; a message in the mailbox; an `AMOBINC` to a peer that is no Phizon
device; a release behind a `VST`. -/
theorem witness_AtomicAndOrderedAccesses :
    Unpoisoned i8 [1, 3] ∧ Unpoisoned i8 [9] ∧ Drained i8 ∧ i8.watch (i8.x 1).toNat 4 true true = none ∧
    scalarLoc i8 (i8.x 1) 4 .amo = .ok (.mem 0x30000 .normal) i8 ∧ i8.dev.replay = none ∧ scalarLoc i8 (i8.x 1) 4 .read = .ok (.mem 0x30000 .normal) i8 ∧
    scalarLoc i8 (i8.x 1) 4 .write = .ok (.mem 0x30000 .normal) i8 ∧ (readAt Loc.amoTouch i8 (i8.x 1) (.mem 0x30000 .normal) 4).1 ≠ (i8.x 3).toNat % 2 ^ 32 ∧
    (readAt Loc.amoTouch i8 (i8.x 1) (.mem 0x30000 .normal) 4).1 = (i8.x 0).toNat % 2 ^ 32 ∧
    (readAt Loc.amoTouch i8 (i8.x 1) (.mem 0x30000 .normal) 4).2.cur.thr.mailbox = [] ∧
    (Unpoisoned peered [1, 3] ∧ Unpoisoned peered [9] ∧ Drained peered ∧ peered.watch (peered.x 1).toNat 4 true true = none ∧
      scalarLoc peered (peered.x 1) 4 .amo = .ok (.peer 0x8000000000000 .normal) peered ∧ peered.phizonPeer 0x8000000000000 = false) ∧
    (queued [entry, storeEntry]).releaseWaits = true ∧ Unpoisoned (queued [entry, storeEntry]) [1, 3] :=
  ⟨i8c.x _, i8c.x _, i8c.drained, by decide, mapped_i8.scalar (k := 0) (by decide) (by decide) (by decide) (by decide) rfl, rfl,
    mapped_i8.scalar (k := 0) (by decide) (by decide) (by decide) (by decide) rfl,
    mapped_i8.scalar (k := 0) (by decide) (by decide) (by decide) (by decide) rfl, by decide, by decide, by decide, ⟨rfl, rfl, rfl, rfl, rfl, rfl⟩, rfl, rfl⟩

/-- A mask that no queued entry writes, or that the last entry has written, is ready. -/
theorem ready_nil {s : State} {k : BitVec 4} (h : s.cur.viq = []) : MaskReady s k := by
  unfold MaskReady; split
  · exact h
  · intro l e r hq; rw [h] at hq; cases l <;> cases hq

theorem ready_last {s : State} {k : BitVec 4} {a b : Entry} (hk : k ≠ 15 ∧ a.writesMask s k.toNat = false ∧ b.fin = true)
    (h : s.cur.viq = [a, b]) : MaskReady s k := by
  unfold MaskReady; rw [if_neg hk.1]
  intro l e r hq hm _
  rw [h] at hq
  cases l with
  | nil => cases hq; rw [hk.2.1] at hm; cases hm
  | cons x l => cases l with
    | nil => cases hq; exact hk.2.2
    | cons y l => simp at hq

/-- A branch not taken, taken, and taken to 2^52. -/
theorem witness_Branches :
    Unpoisoned i8 [3] ∧ Unpoisoned high [3] ∧ ((i8.x 3).toInt == 0) = false ∧ decide ((i8.x 3).toInt > 0) = true ∧
    (BitVec.ofInt 64 ((i8.cur.pc.toNat : Int) + 2 * (0xFFFE : BitVec 16).toInt)).toNat < 2 ^ 52 ∧
    2 ^ 52 ≤ (BitVec.ofInt 64 ((high.cur.pc.toNat : Int) + 2 * (2 : BitVec 16).toInt)).toNat ∧
    MaskReady i8 1 ∧ MaskReady i8 15 ∧ MaskFree i8 1 ∧ ¬ MaskReady busy 15 ∧ (aim i8 (0xFFFE : BitVec 16).toInt).toNat < 2 ^ 52 ∧
    (MaskReady (queued [entry, compare true]) 3 ∧ MaskFree (queued [entry, compare true]) 3) ∧ ¬ MaskReady (queued [compare false, entry]) 3 := by
  refine ⟨i8c.x _, highc.x _, by decide, by decide, by decide, by decide, ready_nil rfl, rfl, i8c.mask _, ?_, by decide, ⟨ready_last ?_ rfl, rfl⟩, ?_⟩
  · intro h; cases h
  · decide
  · intro h
    have := h [] (compare false) [entry] rfl (by decide) (by intro f hf; rw [List.mem_singleton.mp hf]; decide)
    cases this

theorem witness_JumpsAndTransfers :
    (BitVec.ofInt 64 (i8.cur.pc.toNat + 2 * (8 : BitVec 19).toInt)).toNat < 2 ^ 52 ∧
    2 ^ 52 ≤ (BitVec.ofInt 64 (high.cur.pc.toNat + 2 * (2 : BitVec 19).toInt)).toNat ∧ Unpoisoned i8 [1] ∧
    ((i8.x 1 + (7 : BitVec 11).signExtend 64) &&& 0xFFFFFFFFFFFFFFFE).toNat < 2 ^ 52 ∧
    2 ^ 52 ≤ ((i8.x 5 + (0 : BitVec 11).signExtend 64) &&& 0xFFFFFFFFFFFFFFFE).toNat ∧ i8.tracing = false ∧ (aim i8 (8 : BitVec 19).toInt).toNat < 2 ^ 52 :=
  ⟨by decide, by decide, i8c.x _, by decide, by decide, rfl, by decide⟩

/-- A body with iterations on a temporal and on a spatial level, one without, one that begins beyond 2^52 and one that is skipped to there; each way
to retire in a body, and beyond it. -/
theorem witness_LoopInstructions :
    Unpoisoned i8 [3] ∧ ((bodyOf i8 4 3 0 4).lo < (bodyOf i8 4 3 0 4).bound ∧ (4 : Nat) ≠ 0 ∧ (bodyOf i8 4 3 0 4).start < 2 ^ 52) ∧
    (∀ k : BitVec 3, k ≠ 0 → i8.user = true → (vget (n := 3) i8.cur.lp k).act = true → (vget (n := 3) i8.cur.lp k).holds i8.cur.pc = true →
      (bodyOf i8 4 3 0 4).start < (vget (n := 3) i8.cur.lp k).endPc.toNat) ∧
    (bodyOf spatial 4 2 1 4).lo < (bodyOf spatial 4 2 1 4).bound ∧
    ((bodyOf high 4 3 0 4).lo < (bodyOf high 4 3 0 4).bound ∧ 2 ^ 52 ≤ (bodyOf high 4 3 0 4).start) ∧
    ((bodyOf i8 4 0 0 4).bound ≤ (bodyOf i8 4 0 0 4).lo ∧ (bodyOf i8 4 0 0 4).stop < 2 ^ 52) ∧
    ((bodyOf high 4 0 0 0).bound ≤ (bodyOf high 4 0 0 0).lo ∧ 2 ^ 52 ≤ (bodyOf high 4 0 0 0).stop) ∧
    (∀ k : Fin 8, i8.cur.lp[k].act = false ∨ i8.cur.lp[k].holds i8.cur.pc = false) ∧
    (∀ s ∈ [looping 0 0x10004, looping 0 0x10008, looping 2 0x10008], s.user = true ∧ s.cur.lp[0].act = true ∧
      s.cur.lp[0].holds s.cur.pc = true ∧ ∀ j : Fin 8, j ≠ 0 → s.cur.lp[j].act = true → s.cur.lp[j].holds s.cur.pc = true →
        s.cur.lp[j].startPc < s.cur.lp[0].startPc) ∧
    (0x10004 : BitVec 52) + BitVec.ofNat 52 4 < (looping 0 0x10004).cur.lp[0].endPc ∧
    (0x10008 : BitVec 52) + BitVec.ofNat 52 4 = (looping 0 0x10008).cur.lp[0].endPc ∧
    (looping 0 0x10008).cur.lp[0].endPc < (0x10008 : BitVec 52) + BitVec.ofNat 52 8 ∧
    (looping 0 0x10008).cur.lp[0].idx.toNat + 1 < 3 ∧ 3 ≤ (looping 2 0x10008).cur.lp[0].idx.toNat + 1 :=
  ⟨i8c.x _, by decide, by decide, by decide, by decide, by decide, by decide, by decide, by decide, by decide, by decide, by decide, by decide,
    by decide⟩

/-- `fthresh` in user mode, `cycle` and an unassigned number, `scratch` in system mode and from user mode, `rm` 4. -/
theorem witness_StateRegisters :
    let o (n : BitVec 11) : OpI := ⟨9, 3, n⟩
    MayAccess i8 (o 0x018) ∧ number (o 0x018) ≠ 0x10D ∧ (∃ v s1, i8.stateReg (number (o 0x018)) = some (v, s1)) ∧ readOnly (number (o 0x018)) = false ∧
    (o 0x018).a ≠ 0 ∧ (0x50 ≤ number (o 0x06F) ∧ number (o 0x06F) < 0x70 ∧ readOnly (number (o 0x06F)) = false) ∧ MayAccess sys (o 0x105) ∧
    (∃ v s1, sys.stateReg (number (o 0x105)) = some (v, s1)) ∧ ((4 : BitVec 3).toNat < 5 ∧ (0x80 : Word).extractLsb' 5 3 = 4) ∧
    (i8.user = true ∧ 0x100 ≤ number (o 0x100)) ∧ i8.stateReg (number (o 0x0FF)) = none ∧ (sys.user = false ∧ Unpoisoned sys [3] ∧ sys.stateReg (number (o 0x1FF)) = none) ∧
    (busy.user = true ∧ Unpoisoned busy [3] ∧ number (o 0x014) = 0x014 ∧ busy.cur.viq ≠ []) ∧
    readOnly (number (o 0x008)) = true ∧ i8.stateReg (number (o 0x008)) ≠ none := by
  refine ⟨⟨i8c.x _, by decide, by decide⟩, by decide, ⟨_, _, rfl⟩, by decide, by decide, by decide, ⟨by decide, by decide, by decide⟩, ⟨_, _, rfl⟩,
    by decide, by decide, by decide, by decide, by decide, by decide, fun h => ?_⟩
  have : (i8.stateReg 8).isSome = true := rfl
  rw [show number ⟨9, 3, 0x008⟩ = 8 from rfl] at h
  rw [h] at this; exact absurd this (by decide)

/-- `sys` with a fault queue of 4 records at 0x9000, its header at 0x8000. -/
def faultQ : State := { sys.setSys { sys.cur.sys with fltq := 0x8000 } with mem := [(0x8001, 0x90), (0x8008, 4)] }

theorem witness_TrapEntry :
    i8.user = true ∧ faultQ.user = false ∧ faultQ.fqSlot = some 0x9000 ∧ faultQ.tracing = false ∧ faultQ.cur.sys.fltq.toNat + 24 ≤ 0x9000 :=
  ⟨rfl, rfl, by decide, rfl, by decide⟩

/-- `sys` with KILL; with SKIPV and a queued entry. -/
def killed : State := sys.setSys { sys.cur.sys with kill := true }
def skipping : State := { sys with cur := { sys.cur with viq := [entry, { entry with fin := true }], sys := { sys.cur.sys with skipv := true } } }

theorem witness_ReturnFromTrap :
    (killed.user = false ∧ killed.cur.sys.kill = true) ∧ (sys.user = false ∧ sys.cur.sys.kill = false ∧ sys.cur.sys.skipv = false) ∧
    (skipping.user = false ∧ skipping.cur.sys.kill = false ∧ skipping.cur.sys.skipv = true ∧ skipping.cur.viq = entry :: [{ entry with fin := true }]) ∧
    (i8.user = true ∧ i8.cur.sys.kill = false ∧ i8.cur.sys.skipv = false ∧ i8.cur.pc.getLsbD 0 = false) := by decide

/-- No entry, no pin. -/
theorem unpinned {s : State} (h : s.cur.viq = [] ∧ s.oth.viq = [] ∧ s.core.drains = []) (gone : TlbEntry → Bool) : Unpinned s gone := by
  intro c hc e he
  rw [h.2.2, List.mem_cons, List.mem_cons] at hc
  rcases hc with rfl | rfl | hc
  · rw [h.1] at he; cases he
  · rw [h.2.1] at he; cases he
  · cases hc

/-- `sys` with entries queued for its other context; one that pins the translation of page 2. -/
def behind (q : List Entry) : State := { sys with cur := { sys.cur with viq := q } }
def pinning : State := { sys with oth := { sys.oth with viq := [{ entry with pins := [(2, .leaf 0x3006F false)] }] } }

theorem witness_SystemInstructions :
    (sys.user = false ∧ i8.user = true ∧ i8.kden = false ∧ (unlocked i8).user = true ∧ (unlocked i8).kden = true) ∧
    (let s : State := { i8 with core := { i8.core with aimed := some ⟨0x10000, i8.cur.id, 0, none⟩ } }; s.user = true ∧ s.gangBusy = true) ∧
    (killed.setSys { killed.cur.sys with evStop := true }).cur.sys.evStop = true ∧
    (sys.cur.sys.evPre = false ∧ sys.cur.sys.evKill = false ∧ sys.cur.sys.evStop = false) ∧ Unpoisoned sys [5] ∧ Drained sys ∧ Drained i8 ∧
    (i8.cur.viq = [] ∧ i8.cur.u.gangid = 0 ∧ i8.tracing = false) ∧ (busy.user = true ∧ busy.cur.viq ≠ [] ∧ busy.tracing = false) ∧
    ((behind [storeEntry]).user = false ∧ (behind [storeEntry]).releaseWaits = true ∧
      (∃ e ∈ (behind [storeEntry]).cur.viq, e.stores = true ∧ e.fin = false) ∧ ∀ e ∈ i8.cur.viq, e.stores = true → e.fin = true) ∧ (∀ gone, Unpinned sys gone) ∧
    ¬ Unpinned pinning (fun t => decide (t.asid = 0) && decide (t.page = 2)) := by
  refine ⟨by decide, by decide, by decide, by decide, by decide, by decide, by decide, by decide, by decide, by decide, unpinned ⟨rfl, rfl, rfl⟩, fun h => ?_⟩
  have := h pinning.oth (.tail _ (.head _)) _ (.head _) (2, .leaf 0x3006F false) (.head _) _ _ rfl
  exact absurd this (by decide)

/-- The tables of a walk from 0x100000 and what else memory holds; only a walk translates 0x50000 and 0x60000. -/
def paged (m : Memory) : State := { i8.setSys { i8.cur.sys with ptbase := 0x100000 } with mem := m }
/-- With the pointers to the level-3 table at 0x120000, whose entries m holds. -/
def tables (m : Memory) : State := paged ([(0x100000, 1), (0x100002, 0x11), (0x110000, 1), (0x110002, 0x12)] ++ m)

/-- A table missing or malformed at each level, a leaf without W, one with it. -/
theorem witness_Paging :
    (let s := paged []; s.user = true ∧ 0x50000 < 2 ^ 52 ∧ tlbFind s s.cur.sys.asid.toNat 0x50000 = none ∧ (dword s 0x100000).getLsbD 0 = false) ∧
    (let s := paged [(0x100000, 3)]; (dword s 0x100000).getLsbD 0 = true ∧ malformed s 1 (dword s 0x100000) = true) ∧
    (let s := tables []; Pointer s 1 (dword s 0x100000) ∧ tableOf (dword s 0x100000) = 0x110000) ∧
    (let s := paged [(0x100000, 1), (0x100002, 0x11)]; Pointer s 1 (dword s 0x100000) ∧ (dword s 0x110000).getLsbD 0 = false) ∧
    (∀ m ∈ [[], [(0x120028, (5 : Byte))], [(0x120028, 3), (0x12002A, 3)]], let s := tables m
      Pointer s 1 (dword s 0x100000) ∧ Pointer s 2 (dword s 0x110000) ∧ tableOf (dword s 0x110000) = 0x120000) ∧
    (dword (tables []) 0x120028).getLsbD 0 = false ∧
    (let s := tables [(0x120028, 5)]; (dword s 0x120028).getLsbD 0 = true ∧ malformed s 3 (dword s 0x120028) = true) ∧
    (let s := tables [(0x120028, 3), (0x12002A, 3)]
     (dword s 0x120028).getLsbD 0 = true ∧ malformed s 3 (dword s 0x120028) = false ∧ ¬ Allows (dword s 0x120028) .write ∧
      Allows (dword s 0x120028) .read ∧ (dword s 0x120028).getLsbD 7 = false ∧ (dword s 0x120028).extractLsb' 10 2 = 0 ∧ Still s ∧
      regionOf (((dword s 0x120028).extractLsb' 16 36).toNat * 65536 + 0x50000 % 65536) = .hbm 0 ∧ s.dev.dieLost 0 = false) ∧
    TlbHit i8 0x2FFFF .write 0x3FFFF .normal ∧
    (∀ m ∈ [[], [(0x120028, (5 : Byte))], [(0x120028, 3), (0x12002A, 3)]], let s := tables m
      tableBad s 0x100000 = false ∧ tableBad s 0x110000 = false ∧ tableBad s 0x120028 = false) ∧
    (∀ m ∈ [[], [(0x100000, (3 : Byte))], [(0x100000, 1), (0x100002, 0x11)]], tableBad (paged m) 0x100000 = false) ∧
    tableBad { tables [] with bad := [0x2000] } 0x100000 = true ∧
    (let s : State := { tables [] with bad := [0x2200] }; tableBad s 0x100000 = false ∧ tableBad s 0x110000 = true) ∧
    (let s : State := { tables [] with bad := [0x2400] }
     tableBad s 0x100000 = false ∧ tableBad s 0x110000 = false ∧ tableBad s 0x120028 = true ∧ dword s 0x100000 = dword (tables []) 0x100000 ∧
      dword s 0x110000 = dword (tables []) 0x110000) ∧
    (let s := paged [(0x100000, 1), (0x100002, 0x11), (0x110000, 0x11)]
     tableBad s 0x110000 = false ∧ (dword s 0x110000).getLsbD 0 = true ∧ malformed s 2 (dword s 0x110000) = true) ∧
    (let s := paged [(0x100000, 1), (0x100002, 0x11), (0x110000, 3), (0x110003, 0x10)]
     tableBad s 0x110000 = false ∧ (dword s 0x110000).getLsbD 0 = true ∧ malformed s 2 (dword s 0x110000) = false ∧
      (dword s 0x110000).getLsbD 1 = true ∧ Allows (dword s 0x110000) .read ∧ ¬ Allows (dword s 0x110000) .write ∧
      regionOf (((dword s 0x110000).extractLsb' 16 36).toNat * 65536 + 0x50000 % 2 ^ 28) = .hbm 0) := by
  refine ⟨by decide, by decide, ?_, ?_, ?_, by decide, by decide, ⟨by decide, by decide, ?_, ?_, by decide, by decide, ⟨rfl, rfl⟩, by decide, by decide⟩,
    mapped_i8.tlbHit (k := 0xFFFF) (acc := .write) (by decide) (by decide), by decide, by decide, by decide, by decide, by decide, by decide,
    ⟨by decide, by decide, by decide, by decide, ?_, ?_, by decide⟩⟩
  · unfold Pointer; decide
  · unfold Pointer; decide
  · unfold Pointer; decide
  all_goals unfold Allows; decide

/-- `PGSPLICE` of one page: DST 0x50000, SRC 0x60000; m at leaf 0x50000. -/
def splicing (m : Byte) : State := paged [(0x30002, 5), (0x3000A, 6), (0x100000, 1), (0x100002, 0x11),
  (0x110000, 1), (0x110002, 0x12), (0x120028, 0xF), (0x120029, m), (0x12002A, 3), (0x120030, 0xF), (0x120031, 2), (0x120032, 4)]

theorem witness_Paging_splice : ∀ m ∈ [(2 : Byte), 0], ∃ bs s1,
    (let s := splicing m
     Unpoisoned s [1] ∧ Drained s1 ∧ (∀ gone, Unpinned s1 gone) ∧ (1 : BitVec 11).toNat ≤ 64 ∧ (s.x 1).toNat < 2 ^ 52 ∧ (s.x 1).toNat % 16 = 0 ∧
      s.watch (s.x 1).toNat 16 true false = none ∧ readDwords s (s.x 1) 2 = .ok bs s1) ∧
    Memory.leVal (bs.take 8) = 0x50000 ∧ Memory.leVal (bs.drop 8) = 0x60000 ∧ level3 s1 0x50000 = .ok (some 0x120000) ∧
    level3 s1 0x60000 = .ok (some 0x120000) ∧ spliceOk s1 (BitVec.ofNat 64 (s1.mem.readVal 0x120028 8)) = (m == 2) ∧
    spliceOk s1 (BitVec.ofNat 64 (s1.mem.readVal 0x120030 8)) = true ∧ tableBad s1 0x120028 = false ∧ tableBad s1 0x120030 = false := by
  intro m hm
  simp only [List.mem_cons, List.not_mem_nil, or_false] at hm
  rcases hm with rfl | rfl <;>
    exact ⟨_, _, ⟨by decide, rfl, unpinned ⟨rfl, rfl, rfl⟩, by decide, by decide, by decide, by decide, rfl⟩, by decide, by decide, rfl, rfl, by decide, by decide, by decide, by decide⟩

theorem quiet {s : State} (h : s.cur.viq = [] ∧ s.core.drains = []) : Quiet s :=
  ⟨fun e he => (by rw [h.1] at he; cases he), fun d hd => (by rw [h.2] at hd; cases hd)⟩

/-- A state whose memory holds an object at 0x30000, which `x1` names, and its gang. -/
def object (m : Memory) (gangid : Word) (gs : List GangRec) : State :=
  { i8 with mem := m, cur := { i8.cur with u := { i8.cur.u with gangid := gangid } }, core := { i8.core with gangs := gs } }

theorem object_at (m : Memory) (g : Word) (gs : List GangRec) : ObjectAt (object m g gs) ((object m g gs).x 1) 0x30000 :=
  Mapped.object (k := 0) ⟨rfl, rfl, rfl, rfl, rfl, rfl, rfl⟩ rfl (by decide) (by decide) (quiet ⟨rfl, rfl⟩)

/-- No barrier, one arrival left, two left; the generation is 3; a wait half of that generation and of the one before. A gang of three: the first, the
last member, its wait, its leave, and a leave that waits for an outstanding operation. -/
theorem witness_BarriersAndGangs :
    let gang : GangRec := ⟨1, 0x30000, 0x20000, 3, true⟩
    let bar (n : Byte) := object [(0x30000, n), (0x30004, 3), (0x30008, 2)] 0 []
    let half (s : State) (g : Nat) : State := { s with cur := { s.cur with half := true, obj := some (0x10000, 0x20000, g) } }
    let waits (n : Byte) : State := half (object [(0x30000, n)] 0x12 [gang]) 0
    (∀ n, ObjectAt (bar n) ((bar n).x 1) 0x30000) ∧ ObjectAt (waits 3) 0x20000 0x30000 ∧ (∀ g, ObjectAt (half (bar 1) g) 0x20000 0x30000) ∧
    (Unpoisoned (bar 1) [1] ∧ Drained (bar 1) ∧ (bar 1).dev.replay = none ∧ Unpoisoned (bar 1) [3] ∧ (0 < ((bar 1).x 3).toNat ∧ ((bar 1).x 3).toNat < 2 ^ 32) ∧
      ((bar 1).x 0).toNat = 0 ∧ 2 ^ 32 ≤ ((bar 1).x 5).toNat ∧ word (bar 1) 0x30000 1 ≠ ((bar 1).x 4).toNat % 2 ^ 32 ∧
      word (bar 1) 0x30000 1 = ((bar 1).x 3).toNat % 2 ^ 32) ∧
    ¬ Barrier (bar 0) 0x30000 ∧ (Barrier (bar 1) 0x30000 ∧ word (bar 1) 0x30000 0 = 1) ∧ (Barrier (bar 2) 0x30000 ∧ word (bar 2) 0x30000 0 ≠ 1) ∧
    (bar 1).cur.half = false ∧ (((bar 1).x 4).toNat < 2 ∧ 4 < ((bar 1).x 2).toNat) ∧
    (∀ g ∈ [2, 3], (half (bar 1) g).cur.half = true ∧ (half (bar 1) g).cur.obj = some ((half (bar 1) g).cur.pc, 0x20000, g) ∧
      Unpoisoned (half (bar 1) g) [9]) ∧ word (half (bar 1) 2) 0x30000 1 ≠ 2 ∧ word (half (bar 1) 3) 0x30000 1 = 3 ∧
    (let s := object [] 0 []; (s.x 3).toNat = 3 ∧ s.cur.u.gangid = 0 ∧ word s 0x30000 0 = 0 ∧ s.core.gangs = []) ∧
    (∃ g ∈ (object [] 0 [gang]).core.gangs, g.here = true) ∧
    (let s := object [(0x30000, 2), (0x30004, 1), (0x30005, 3)] 0 [{ gang with here := false }]
     s.cur.u.gangid = 0 ∧ s.core.gangs = [{ gang with here := false }] ∧ gang.size = (s.x 3).toNat ∧ word s 0x30000 0 = 2 ∧
      word s 0x30000 1 = gang.gid + 3 * 2 ^ 8 + s.clus % 2 ^ 8 * 2 ^ 16) ∧
    (∀ n ∈ [(3 : Byte), 2], (waits n).cur.half = true ∧ (waits n).cur.obj = some ((waits n).cur.pc, 0x20000, 0) ∧
      (waits n).gangRec (gangGid (waits n).cur.u.gangid) = some gang) ∧
    (word (waits 3) 0x30000 0 = gang.size ∧ word (waits 2) 0x30000 0 ≠ gang.size) ∧
    (gangGid 0x12 ≠ 0 ∧ gang.obj = 0x30000 ∧ (waits 3).gangBusy = false) ∧
    (let s := object [] 0x12 [gang]; ({ s with core := { s.core with aimed := some ⟨0x10000, false, 0, none⟩ } } : State).gangBusy = true) ∧
    (let s := object [] 0x12 [{ gang with obj := 0x30010, va := 0x20010 }]
     s.gangRec (gangGid s.cur.u.gangid) = some { gang with obj := 0x30010, va := 0x20010 }) :=
  ⟨fun _ => object_at .., Mapped.object (k := 0) ⟨rfl, rfl, rfl, rfl, rfl, rfl, rfl⟩ (by decide) (by decide) (by decide) (quiet ⟨rfl, rfl⟩),
    fun _ => Mapped.object (k := 0) ⟨rfl, rfl, rfl, rfl, rfl, rfl, rfl⟩ (by decide) (by decide) (by decide) (quiet ⟨rfl, rfl⟩), by decide,
    by unfold Barrier; decide, ⟨by unfold Barrier; decide, by decide⟩, ⟨by unfold Barrier; decide, by decide⟩, by decide, by decide, by decide, by decide,
    by decide, by decide, by decide, by decide, by decide, by decide, by decide, by decide, by decide⟩

/-- The third member joins from another core and the leader sees it; another member's leave is counted. -/
theorem witness_MatesOfAGang :
    let gang : GangRec := ⟨1, 0x30000, 0x20000, 3, true⟩
    let s := object [(0x30000, 2)] 0x12 [gang]
    let o : MateArgs := ⟨1, 0x30000, 0x20000, 3, 9, 2, false, [], [], 0, [], []⟩
    (s.dev.replay = none ∧ s.gangRec o.gid = some gang ∧ gang.obj = o.obj ∧ gang.size = o.size ∧ (∀ m ∈ s.core.mates, m.tid ≠ o.tid) ∧
      0 < s.mem.readVal o.obj 4 ∧ s.mem.readVal o.obj 4 < gang.size) ∧
    (LiveUser s ∧ s.cur.u.gangid = BitVec.ofNat 64 (16 * o.gid + (gang.size - 1)) ∧ 0 < o.gid ∧ o.gid < 3) ∧
    (s.mem.readVal (gang.obj + 8) 4 + 1 + gang.here.toNat ≤ s.mem.readVal gang.obj 4 ∧ s.mem.readVal (gang.obj + 8) 4 + 1 < gang.size) := by
  refine ⟨by decide, by decide, by decide⟩

/-- A thread with messages, beside a live thread 3. -/
def mailed (n : Nat) : State :=
  { i8 with
    cur := { i8.cur with thr := { i8.cur.thr with mailbox := List.replicate n (1, 2) } }
    oth := { i8.oth with u := { i8.oth.u with tid := 3 }, thr := { i8.oth.thr with live := true } } }

theorem witness_MessagesAndYielding :
    (∀ n ∈ [15, 16], Unpoisoned (mailed n) [0, 3] ∧ Drained (mailed n) ∧ (mailed n).cur.isThread ((mailed n).x 0) = true) ∧
    (mailed 15).cur.thr.mailbox.length < 16 ∧ 16 ≤ (mailed 16).cur.thr.mailbox.length ∧
    ((mailed 1).cur.isThread ((mailed 1).x 3) = false ∧ (mailed 1).oth.isThread ((mailed 1).x 3) = true ∧ (mailed 1).oth.thr.mailbox.length < 16) ∧
    (i8.cur.isThread (i8.x 3) = false ∧ i8.oth.isThread (i8.x 3) = false ∧ i8.core.saved.all (fun c => !c.isThread (i8.x 3)) = true ∧
      i8.dev.others.all (fun t => t.tid != i8.x 3) = true) ∧
    (mailed 2).cur.thr.mailbox = (1, 2) :: [(1, 2)] ∧ i8.cur.thr.mailbox = [] ∧ i8.cur.viq = [] ∧ busy.cur.viq ≠ [] ∧ i8.oth.runnable = false ∧
    (mailed 0).oth.runnable = true := by decide

theorem on_lt {s : State} {mk : BitVec 4} {i : Nat} (h : on s mk i = true) : i < vl s := by
  unfold on at h; simp only [Bool.and_eq_true, decide_eq_true_eq] at h; exact h.1.1

/-- Elements of the first page, when every element below `vl` lies there. -/
theorem Mapped.below {s : State} (h : Mapped s) (acc : Acc) (ha : acc ≠ .fetch) (act : Nat → Bool) (hact : ∀ i, act i = true → i < vl s)
    (ea : Nat → Word) (l : Nat → Nat)
    (he : ∀ i, i < vl s → act i = true → (ea i).toNat = 0x20000 + l i ∧ l i < 0x10000 ∧ l i % (ew s / 8) = 0 ∧ (ew s / 8) ∣ 0x20000)
    (hw : s.kden = false) : Elements s acc act ea fun i => .mem (0x30000 + l i) .normal :=
  h.elements acc ha act ea l (fun i hi => he i (hact i hi) hi) hw

/-- 32-bit integers: an index vector of zeros. -/
abbrev u32 : State := vec 0x102 0x011
theorem u32c : Calm u32 := calm_vec ..
theorem u32m : Mapped u32 := mapped_vec ..
theorem index32 (b : BitVec 5) (hb : b.toNat + 1 ≤ 32) (ht : u32.vtag b = 0x011) : Index u32 b :=
  ⟨by rw [ht]; decide, by rw [ht]; decide, .inl (by rw [ht]; decide), by
    rw [ht]; exact u32c.source ⟨by rw [show span u32 (tagWidth 0x011) = 1 from by decide]; omega, hb⟩⟩

/-- `x1` two bytes below the end of the page, `m3` all ones. -/
def edge : State := ((vec 0x100 0).putMask 3 7).writeX 1 0x2FFFE
theorem edgec : Calm edge := ⟨rfl, by decide, rfl, rfl, rfl, rfl, rfl⟩
theorem edgem : Mapped edge := ⟨rfl, rfl, rfl, rfl, rfl, rfl, rfl⟩

/-- Unit-stride, strided and indexed loads; `VLDFF` and `VLD` whose element 2 lies on a page without translation. -/
theorem witness_VectorLoads :
    Works i8 .ld false [1] ∧ Aligned i8 (ew i8) 4 ∧ GovFree i8 15 ∧
    (∃ l, Elements i8 .read (on i8 15) (unitEa i8 (i8.x 1 + (0 : Word))) l) ∧ (∃ l, Elements i8 .read (on i8 3) (stridedEa (i8.x 2) (i8.x 1 + (0 : Word))) l) ∧
    (Works u32 .ld false [1] ∧ Index u32 2 ∧ DestBeside u32 (ew u32) 2 (tagWidth (u32.vtag 2)) 2 ∧
      ∃ l, Elements u32 .read (on u32 15) (indexedEa u32 2 (u32.x 1 + (0 : Word))) l) ∧
    (Works edge .ld false [1] ∧ Works edge .st false [1] ∧ Data' edge 4 3 ∧ Aligned edge (ew edge) 4 ∧ GovFree edge 3 ∧
      (∀ j, on edge 3 j = true → Sees edge .read (unitEa edge (edge.x 1 + (0 : Word)) j)) ∧ (∃ j, j < 2 ∧ on edge 3 j = true) ∧ on edge 3 2 = true ∧
      (∀ acc ∈ [Machine.Acc.read, .write], ∃ l, Elements edge acc (fun j => on edge 3 j && decide (j < 2)) (unitEa edge (edge.x 1 + (0 : Word))) l) ∧
      Machine.translate edge 0x30000 .read = (.fault 1, edge) ∧ Machine.translate edge 0x30000 .write = (.fault 1, edge) ∧
      (unitEa edge (edge.x 1 + (0 : Word)) 2).toNat = 0x30000 ∧ edge.kden = false ∧ edge.dev.replay = none ∧
      (∀ j, on edge 3 j = true → j ≤ 2) ∧ ∀ j, on edge 3 j = true → 2 < j → ∃ r, r ≠ Tr.hold ∧ Machine.translate edge 0x30000 .read = (r, edge)) := by
  refine ⟨i8c.works (by decide) .., aligned (by decide), i8c.gov _,
    ⟨_, mapped_i8.below .read (by decide) _ (fun _ => on_lt) _ (fun i => i) (by decide) rfl⟩,
    ⟨_, mapped_i8.below .read (by decide) _ (fun _ => on_lt) _ (fun i => 8 * i) (by decide) rfl⟩,
    ⟨u32c.works (by decide) .., index32 2 (by decide) rfl, .inr (by decide),
      ⟨_, u32m.below .read (by decide) _ (fun _ => on_lt) _ (fun _ => 0) (by decide) rfl⟩⟩,
    edgec.works (by decide) .., edgec.works (by decide) .., ⟨by decide, by decide, edgec.source (by decide), edgec.gov _⟩, aligned (by decide),
    edgec.gov _, fun j hj => ?_, ⟨0, by decide, by decide⟩, by decide, fun acc ha => ?_, rfl, rfl, by decide, rfl, rfl, fun j hj => ?_, fun j hj h => ?_⟩
  · have : ∀ j, j < vl edge → (unitEa edge (edge.x 1 + (0 : Word)) j).toNat < 2 ^ 52 ∧
        (unitEa edge (edge.x 1 + (0 : Word)) j).toNat % (ew edge / 8) = 0 ∧
        edge.watch (unitEa edge (edge.x 1 + (0 : Word)) j).toNat (ew edge / 8) (Machine.Acc.read != .write) Machine.Acc.read.writes = none := by decide
    exact this j (on_lt hj)
  · simp only [List.mem_cons, List.not_mem_nil, or_false] at ha
    rcases ha with rfl | rfl <;>
      exact ⟨_, edgem.below _ (by decide) _ (fun i hi => on_lt (by simp at hi; exact hi.1)) _ (fun i => 0xFFFE + i) (by decide) rfl⟩
  · have : j < 3 := on_lt hj
    omega
  · have : j < 3 := on_lt hj
    omega

/-- Unit-stride stores, ordered or not; an atomic operation on three times the same word. -/
theorem witness_VectorStoresAndAtomics :
    Works i8 .st false [1] ∧ Data' i8 4 15 ∧ (∃ l, Elements i8 .write (on i8 15) (unitEa i8 (i8.x 1 + (0 : Word))) l) ∧ i8.dev.replay = none ∧
    (∀ j m : Nat, m ≠ j → Loc.apart (ew i8 / 8) (.mem (0x30000 + j) .normal) (.mem (0x30000 + m) .normal)) ∧
    Works u32 .st false [1] ∧ Data' u32 4 15 ∧ ew u32 = 32 ∧ ((tagKind (u32.vtag 4)).isIX = true ∧ (!(tagKind (u32.vtag 4)).isNW) = true) ∧ Index u32 2 ∧
    DestBeside u32 (ew u32) 4 (tagWidth (u32.vtag 2)) 2 ∧ (∃ l, Elements u32 .amo (on u32 15) (indexedEa u32 2 (u32.x 1 + (0 : Word))) l) ∧
    regionOf 0x30000 ≠ .far := by
  refine ⟨i8c.works (by decide) .., ⟨by decide, by decide, i8c.source (by decide), i8c.gov _⟩,
    ⟨_, mapped_i8.below .write (by decide) _ (fun _ => on_lt) _ (fun i => i) (by decide) rfl⟩, rfl, fun j m h => ?_, u32c.works (by decide) ..,
    ⟨by decide, by decide, u32c.source (by decide), u32c.gov _⟩, by decide, by decide, index32 2 (by decide) rfl, .inl (by unfold Apart; decide),
    ⟨_, u32m.below .amo (by decide) _ (fun _ => on_lt) _ (fun _ => 0) (by decide) rfl⟩, by decide⟩
  show 0x30000 + j + 1 ≤ 0x30000 + m ∨ 0x30000 + m + 1 ≤ 0x30000 + j
  omega

/-- A thread at `rlen` 4,096 with two banks. -/
def long : State :=
  { i8 with
    cur := { i8.cur with u := { i8.cur.u with vtype := 0x200, rlen := 4096, vlmax := 4096 }, ext := [0, 1] }
    core := { i8.core with banks := 3 :: 3 :: List.replicate 22 0 ++ List.replicate 16 1 } }

/-- The length in force, a longer one, a shorter one, with and without queued entries; a bad `vtype`. -/
theorem witness_Configuration :
    Unpoisoned i8 [1] ∧ (0x5FF : BitVec 11).toNat < 0x600 ∧ i8.cur.u.rlen.toNat = 2048 ∧ Granted i8 2048 4096 4096 ∧ i8.cur.viq = [] ∧
    busy.user = true ∧ busy.cur.viq ≠ [] ∧ Granted busy 2048 4096 4096 ∧ (long.cur.u.rlen.toNat = 4096 ∧ banksFor 2048 ≤ long.cur.ext.length) ∧
    Unpoisoned i8 [1, 5] ∧ (i8.x 3).toNat < 0x600 ∧ 0x600 ≤ (i8.x 5).toNat := by
  refine ⟨i8c.x _, by decide, by decide, ?_, rfl, rfl, by decide, ?_, by decide, i8c.x _, by decide, by decide⟩ <;>
    exact ⟨.inr ⟨1, by decide, by decide, by decide⟩, by decide, by decide, by decide⟩

theorem witness_CompactVectors :
    Works i8 .alu false [] ∧ Source i8 (ew i8) 2 ∧ i8.vtag 2 = i8.vtag 0 ∧ Operand i8 numbers 3 0 15 ∧ Operand i8 notRow 3 0 15 ∧
    Works f32 .fma false [] ∧ ∀ r ∈ fusedRows.take 1 ++ fusedRows.drop 3, Fused r f32 ⟨false, 3, 0, 2, 0, 15⟩ plainFormat (f32.vtag 0) 0x012 0x012 ∧
      FusedReg f32 ⟨false, 3, 0, 2, 0, 15⟩ plainFormat 0x012 0x012 :=
  ⟨i8c.works (by decide) .., i8c.source (by decide), by decide, i8c.operand (by decide) (by decide) (by decide),
    i8c.operand (by decide) (by decide) (by decide), f32c.works (by decide) .., fun _ _ =>
    ⟨⟨rfl, by decide, by decide, .inr (by decide), by decide, ⟨by decide, fun _ => by decide⟩, f32c.source (by decide), aligned (by decide),
      .inl (by unfold Apart; decide), fun _ => ⟨by decide, f32c.clean _ _⟩, f32c.gov _⟩,
    ⟨by decide, f32c.source (by decide), .inl (by unfold Apart; decide)⟩⟩⟩

/-- A copy block at 0x30000: 8 elements of 8 bytes from 0x21000 to 0x22000. -/
def copying (tdone : Word) : State :=
  { i8 with
    cur := { i8.cur with u := { i8.cur.u with tdone := tdone } }
    mem := [(0x30001, 0x10), (0x30002, 2), (0x30008, 0x31), (0x30010, 8), (0x30018, 8), (0x30081, 0x20), (0x30082, 2), (0x30088, 0x31), (0x30090, 8),
      (0x30098, 8)] }

/-- The same with all 64 copy slots in use. -/
def slotsFull : State :=
  { copying 8 with core := { (copying 8).core with copies := (List.range 64).map fun k =>
    ⟨k, 7, true, false, 9, 0, 0, false, false, [], 0, 0, false, 0, [], [], [], 0, 0, none⟩ } }

/-- Tags done and not; a good block with its tag done and not, a bad one, one out of range, one misaligned. -/
theorem witness_Copies :
    Unpoisoned i8 [3] ∧ ((i8.x 0 = 0 ∨ i8.cur.u.tdone &&& i8.x 0 ≠ 0) ∧ (copying 0).x 3 ≠ 0 ∧ (copying 0).cur.u.tdone &&& (copying 0).x 3 = 0 ∧
      i8.cur.u.tdone &&& i8.x 3 = i8.x 3 ∧ (copying 0).cur.u.tdone &&& (copying 0).x 3 ≠ (copying 0).x 3) ∧
    ((i8.x 2).getLsbD 3 = true ∧ i8.cur.u.tdone.getLsbD 3 = true ∧ ∀ j, j < 3 → (i8.x 2).getLsbD j = false) ∧
    (2 ^ 52 ≤ (i8.x 5).toNat ∧ (i8.x 3).toNat < 2 ^ 52 ∧ (i8.x 3).toNat % 128 ≠ 0 ∧ (i8.x 1).toNat < 2 ^ 52 ∧ (i8.x 1).toNat % 128 = 0) ∧
    (∃ bs s1, readDwords i8 (i8.x 1) 32 = .ok bs s1 ∧ blockOk false (!i8.user) bs = false) ∧
    (∀ d ∈ [(0 : Word), 8], ∃ bs s1, readDwords (copying d) ((copying d).x 1) 32 = .ok bs s1 ∧ blockOk false (!(copying d).user) bs = true ∧
      s1.core.copies.length < 64) ∧
    (((copying 8).x 3).toNat < 64 ∧ 64 ≤ (i8.x 5).toNat ∧ (copying 0).cur.u.tdone.getLsbD 3 = false ∧ (copying 8).cur.u.tdone.getLsbD 3 = true) ∧
    (∃ bs s1, readDwords slotsFull (slotsFull.x 1) 32 = .ok bs s1 ∧ blockOk false (!slotsFull.user) bs = true ∧
      ∀ k, k < 64 → ∃ c ∈ s1.core.copies, c.slot = k) := by
  refine ⟨i8c.x _, by decide, by decide, by decide, ⟨_, _, rfl, by decide⟩, fun d hd => ?_, by decide, ⟨_, _, rfl, by decide, fun k hk => ?_⟩⟩
  · simp only [List.mem_cons, List.not_mem_nil, or_false] at hd
    rcases hd with rfl | rfl <;> exact ⟨_, _, rfl, by decide, by decide⟩
  · exact ⟨_, List.mem_map.mpr ⟨k, List.mem_range.mpr hk, rfl⟩, rfl⟩

/-- A prefetch descriptor at 0x30000 of 8 elements of 8 bytes, and n running slots of the other context. -/
def slotted (n : Nat) : State :=
  { i8 with
    mem := [(0x30001, 0x10), (0x30002, 2), (0x30008, 0x31), (0x30010, 8), (0x30018, 8)]
    core := { i8.core with slots := (List.range n).map fun k => ⟨k, 0, true, false, 0, 0, false, 0, [], 0, 0, 0, 0, [], none, 0, none⟩ } }
/-- A slot of its own. -/
def running : State := { i8 with core := { i8.core with slots := [⟨0, 0, false, false, 0, 0, false, 0, [], 0, 0, 0, 0, [], none, 0, none⟩] } }

/-- A misaligned address, one beyond 2^52; a bad descriptor; a good one with slot 1 free and with none; a slot to stop or none; bad and good roles; both flushes. -/
theorem witness_StreamsAndBanks :
    (Unpoisoned i8 [1, 3] ∧ (i8.x 1).toNat < 2 ^ 52 ∧ (i8.x 1).toNat % 128 = 0 ∧ (i8.x 3).toNat < 2 ^ 13) ∧
    (∃ bs s1, readDwords i8 (i8.x 1) 16 = .ok bs s1 ∧ ctlNdim (Stream.ofBytes bs 0).ctl = 0) ∧
    (∀ n ∈ [1, 16], ∃ bs s1, readDwords (slotted n) ((slotted n).x 1) 16 = .ok bs s1 ∧
      (let d := Stream.ofBytes bs 0; ctlNdim d.ctl ≠ 0 ∧ ctlComp d.ctl = false ∧ ctlRed d.ctl = 0 ∧ d.ctl &&& 0xFF000088 = 0 ∧ d.dirty = false) ∧
      s1.core.slots.map (·.slot) = List.range n) ∧
    (∀ p ∈ i8.core.slots, p.ending.isSome) ∧ (∃ p ∈ running.core.slots, p.ctx = running.cur.id ∧ p.drained = false ∧ running.x 5 = allOnes ∧
      p.ending = none) ∧
    (2 < (i8.x 3).toNat ∧ ¬ 2 ^ 40 ≤ (i8.x 3).toNat ∧ ¬ 2 < (i8.x 4).toNat ∧ (∀ b, b < 40 → i8.core.banks.getD b 0 ≠ 3) ∧
      (i8.core.banks.mapIdx fun b r => if (decide (b < 40) && (i8.x 3).getLsbD b) = true then (i8.x 4).toNat else r).getD 2 0 = 0) ∧
    SomeQueued busy ∧ ¬ SomeQueued i8 ∧ i8.copyToSpad = false ∧ ((i8.x 3).toNat % 128 ≠ 0 ∧ (i8.x 6).toNat % 128 = 0 ∧ 2 ^ 52 ≤ (i8.x 6).toNat) ∧
    Readable i8 (i8.x 1).toNat (i8.x 2).toNat ∧ sys.user = false ∧
    Unpoisoned sys [1, 2] ∧ Readable sys (sys.x 1).toNat (sys.x 2).toNat ∧ ∀ r ∈ sys.cache.below, r.bytes.length = 128 := by
  refine ⟨⟨i8c.x _, by decide, by decide, by decide⟩, ⟨_, _, rfl, by decide⟩, fun n hn => ?_, by decide, ⟨_, .head _, by decide, by decide, by decide, rfl⟩,
    by decide, .inl (by decide), fun h => ?_, by decide, by decide, ⟨by decide, fun va h1 h2 => ?_⟩, rfl, by decide, ⟨by decide, fun va h1 h2 => ?_⟩, nofun⟩
  · simp only [List.mem_cons, List.not_mem_nil, or_false] at hn
    rcases hn with rfl | rfl <;> exact ⟨_, _, rfl, by decide, by decide⟩
  · rcases h with h | h | ⟨d, hd, _⟩
    · exact h rfl
    · exact h rfl
    · cases hd
  · have e1 : (i8.x 1).toNat = 0x20000 := rfl
    have e2 : (i8.x 2).toNat = 8 := rfl
    obtain ⟨k, rfl⟩ : ∃ k, va = 0x20000 + k := ⟨va - 0x20000, by omega⟩
    exact ⟨_, mapped_i8.tr (by omega) .read (by decide)⟩
  · have e1 : (sys.x 1).toNat = 0x20000 := rfl
    have e2 : (sys.x 2).toNat = 8 := rfl
    refine ⟨.mem va .normal, ?_⟩
    have hr : regionOf va = .hbm 0 := by simp only [regionOf]; rw [if_pos (by omega), if_pos (by omega)]; congr 1; omega
    show (physLoc sys va, sys) = _
    simp only [physLoc, physAt, hr]; rfl

/-- A move block at physical 0x20000: page 0x50000 of address space 0, from the tables at 0x100000, to 0x40000. -/
def migrating (m : Memory) : State := { sys with mem := [(0x20002, 5), (0x2000A, 0x10), (0x20012, 4)] ++ m }

/-- Its tables, with the leaf e of the page. -/
def leafAt (e : Memory) : Memory := [(0x100000, 1), (0x100002, 0x11), (0x110000, 1), (0x110002, 0x12)] ++ e

theorem frame_there {s : State} {f : Nat} (h : regionOf f = .hbm 0) : FrameThere s f := by
  unfold FrameThere; rw [h]; trivial

/-- A walk that faults, an outstanding tag, a page that can move, one already in transit, a new frame in a hole, a full migration table. -/
theorem witness_PageMigration :
    let word' (bs : List Byte) (k : Nat) := Memory.leVal ((bs.drop (8 * k)).take 8)
    i8.user = true ∧ (sys.user = false ∧ Unpoisoned sys [1, 3] ∧ (sys.x 1).toNat < 2 ^ 52 ∧ (sys.x 1).toNat % 32 = 0 ∧ (sys.x 3).toNat < 64 ∧
      sys.cur.u.tdone.getLsbD (sys.x 3).toNat = true) ∧
    ({ sys with cur := { sys.cur with u := { sys.cur.u with tdone := 0 } } } : State).cur.u.tdone.getLsbD (sys.x 3).toNat = false ∧
    (∃ bs s1, readDwords (migrating []) ((migrating []).x 1) 4 = .ok bs s1 ∧
      walk s1 (word' bs 1) (word' bs 0 % 2 ^ 52 / 2 ^ 16 * 2 ^ 16) = .error 1) ∧
    (∃ bs s1, readDwords (migrating (leafAt [(0x120028, 0xF), (0x12002A, 3)])) 0x20000 4 = .ok bs s1 ∧
      walk s1 (word' bs 1) (word' bs 0 % 2 ^ 52 / 2 ^ 16 * 2 ^ 16) = .ok (0x120028, 0x3000F, 3) ∧ (0x3000F : Word).extractLsb' 10 2 = 0 ∧
      (0x3000F : Word).getLsbD 7 = false ∧ s1.dev.mig.length < 16 ∧ FrameThere s1 (word' bs 2 % 2 ^ 52 / 2 ^ 16 * 2 ^ 16)) ∧
    (∃ bs s1, readDwords (migrating (leafAt [(0x120028, 0x8F), (0x12002A, 3)])) 0x20000 4 = .ok bs s1 ∧
      walk s1 (word' bs 1) (word' bs 0 % 2 ^ 52 / 2 ^ 16 * 2 ^ 16) = .ok (0x120028, 0x3008F, 3) ∧ (0x3008F : Word).getLsbD 7 = true) ∧
    ¬ FrameThere sys 0x3000000000 ∧
    16 ≤ ({ sys with dev := { sys.dev with mig := List.replicate 16 ⟨0, 0, 0, 0, 0, 512, 0, 0⟩ } } : State).dev.mig.length :=
  ⟨rfl, by decide, by decide, ⟨_, _, rfl, rfl⟩, ⟨_, _, rfl, rfl, by decide, by decide, by decide, frame_there (by decide)⟩, ⟨_, _, rfl, rfl, by decide⟩,
    by unfold FrameThere; rw [show regionOf 0x3000000000 = .hole from by decide]; exact id, by decide⟩

/-- A keyed store with the key 0 in slot 0, held by the context. -/
def keyed : State := { u32 with core := { u32.core with keyed := [⟨0, 0, 5⟩], keyedBy := some false } }
theorem keyedc : Calm keyed := ⟨rfl, rfl, rfl, rfl, rfl, rfl, rfl⟩

/-- `u32` with an old thread that still uses the keyed store; with poison in the flags of the context's area. -/
def drainUser : State := { u32 with core := { u32.core with drains := [{ u32.oth with
  viq := [{ entry with code := .word 0b1111_00000_00010_00001_00100_11010_0_01 }] }] } }
def areaPoison : State := { u32 with bad := [0] }

theorem witness_KeyedStoreUnit :
    (Ready drainUser .ld false [] ∧ drainUser.unitDrains .keyed = true) ∧
    (Ready areaPoison .ld false [] ∧ areaPoison.unitDrains .keyed = false ∧ areaPoison.claimBad .keyed = true) ∧
    (∀ s ∈ [u32, keyed], Claimable s .keyed) ∧
    u32.core.heldBy .keyed = none ∧ u32.unitFlag u32.cur .keyed = false ∧ keyed.core.heldBy .keyed = some keyed.cur.id ∧
    (∀ s ∈ [u32, keyed], Works s .ld false [] ∧ Ready s .ld false [] ∧ Keys s (s.claim .keyed) 1 3 ∧ BySlot (s.claim .keyed).core.keyed ∧ Data s 2 3 ∧
      Aligned s (ew s) 4 ∧ DestBeside s (ew s) 4 (ew s) 1 ∧ (3 : BitVec 4) ≠ 15 ∧ GovFree s 3 ∧ ew s = 32 ∧ Aligned s (ew s) 5 ∧
      Apart s (ew s) 4 (ew s) 5 ∧ ∀ n, n ∉ (s.claim .keyed).core.keyedBad) := by
  have dc : Calm drainUser := ⟨rfl, rfl, rfl, rfl, rfl, rfl, rfl⟩
  have ac : Calm areaPoison := ⟨rfl, rfl, rfl, rfl, rfl, rfl, rfl⟩
  refine ⟨⟨dc.ready .., by decide⟩, ⟨ac.ready .., by decide, by decide⟩, fun s hs => ?_, rfl, rfl, rfl, fun s hs => ?_⟩
  · simp only [List.mem_cons, List.not_mem_nil, or_false] at hs
    rcases hs with rfl | rfl <;> exact ⟨rfl, rfl⟩
  have h (s : State) (h : Calm s) (hv : vstart s < vl s) (hk : (s.claim .keyed).core.keyedBad = []) (hd : Data s 1 3) (h2 : Data s 2 3)
      (he : ew s = 32) (hi : (tagKind (s.vtag 1)).isIX = true) (hb : BySlot (s.claim .keyed).core.keyed) (h4 : Aligned s (ew s) 4)
      (h5 : Aligned s (ew s) 5) (ha : Apart s (ew s) 4 (ew s) 1) (ha5 : Apart s (ew s) 4 (ew s) 5) : Works s .ld false [] ∧
      Ready s .ld false [] ∧ Keys s (s.claim .keyed) 1 3 ∧ BySlot (s.claim .keyed).core.keyed ∧ Data s 2 3 ∧
      Aligned s (ew s) 4 ∧ DestBeside s (ew s) 4 (ew s) 1 ∧ (3 : BitVec 4) ≠ 15 ∧ GovFree s 3 ∧ ew s = 32 ∧ Aligned s (ew s) 5 ∧
      Apart s (ew s) 4 (ew s) 5 ∧ ∀ n, n ∉ (s.claim .keyed).core.keyedBad :=
    ⟨h.works hv .., h.ready .., ⟨.inl he, hd, hi, by rw [hk]; simp⟩, hb, h2, h4, .inl ha, by decide, h.gov _, he, h5, ha5, by rw [hk]; simp⟩
  simp only [List.mem_cons, List.not_mem_nil, or_false] at hs
  rcases hs with rfl | rfl
  · exact h _ u32c (by decide) rfl (u32c.data (by decide) (by decide)) (u32c.data (by decide) (by decide)) (by decide) (by decide) (by decide)
      (aligned (by decide)) (aligned (by decide)) (by unfold Apart; decide) (by unfold Apart; decide)
  · exact h _ keyedc (by decide) rfl (keyedc.data (by decide) (by decide)) (keyedc.data (by decide) (by decide)) (by decide) (by decide) (by decide)
      (aligned (by decide)) (aligned (by decide)) (by unfold Apart; decide) (by unfold Apart; decide)

theorem Calm.score {s : State} (h : Calm s) {a : BitVec 5} {mk : BitVec 4}
    (ht : tagOk (s.vtag a) = true ∧ (tagKind (s.vtag a)).isFloat = true ∧ tagWidth (s.vtag a) ≤ 32 ∧ tagWidth (s.vtag a) = ew s)
    (ha : a.toNat % span s (ew s) = 0 ∧ a.toNat + span s (ew s) ≤ 32) : Score s a mk :=
  ⟨ht.1, ht.2.1, ht.2.2.1, ht.2.2.2, h.source ha, h.gov mk⟩

/-- The vector registers of `f32`, register 2 under `uint32`. -/
def mixed : State := f32.putRegs 2048 0x011 2 1 0
theorem mixedc : Calm mixed := ⟨rfl, by decide, rfl, rfl, rfl, rfl, rfl⟩

theorem mapped_claim {s : State} {u : UnitId} (h : Mapped (s.claim u)) {k : Nat} {bs : List Byte} (hk : k + bs.length ≤ 0x10000)
    (hb : ∀ j, j < bs.length → bs.getD j 0 = (s.claim u).mem.read (0x30000 + (k + j))) : HoldsBytes (s.claim u) (0x20000 + k) bs := h.holds hk hb

theorem witness_LaneTablesAndTopK :
    Claimable u32 .lanes ∧ (∀ s ∈ [i8, none8, mixed], Claimable s .topk) ∧
    (Works u32 .ld false [] ∧ LaneIndex u32 1 3 ∧ Aligned u32 (ew u32) 4 ∧ DestBeside u32 (ew u32) 4 (tagWidth (u32.vtag 1)) 1 ∧
      (u32.claim .lanes).core.lanesBad = 0 ∧ Data' u32 5 3 ∧ tagKind (u32.vtag 5) ≠ .row) ∧
    (Ready u32 .ld false [1, 2] ∧ u32.kden = false ∧ min (u32.x 2).toNat 4096 = 8 ∧ (u32.x 1).toNat + 8 ≤ 2 ^ 52 ∧
      HoldsBytes (u32.claim .lanes) (u32.x 1).toNat (List.replicate 8 0)) ∧
    (Ready i8 .xl false [4, 3] ∧ 1 ≤ (i8.x 4).toNat ∧ (i8.x 4).toNat ≤ 1024 ∧ (i8.x 0).toNat = 0 ∧ 1024 < (i8.x 5).toNat) ∧
    (Ready none8 .xl false [] ∧ vl none8 ≤ vstart none8) ∧ Works mixed .xl false [] ∧ Score mixed 1 15 ∧ Index mixed 2 ∧ Score mixed 3 15 ∧
    ((3 : BitVec 4) ≠ 15 ∧ GovFree mixed 3 ∧ ew mixed = 32 ∧ Aligned mixed (ew mixed) 4 ∧ Aligned mixed (ew mixed) 5 ∧ Apart mixed (ew mixed) 4 (ew mixed) 5) :=
  ⟨⟨rfl, rfl⟩, fun s hs => by
      simp only [List.mem_cons, List.not_mem_nil, or_false] at hs
      rcases hs with rfl | rfl | rfl <;> exact ⟨rfl, rfl⟩,
    ⟨u32c.works (by decide) .., ⟨by decide, by decide, by decide, u32c.source (by decide), u32c.gov _⟩, aligned (by decide), .inl (by unfold Apart; decide),
      rfl, ⟨by decide, by decide, u32c.source (by decide), u32c.gov _⟩, by decide⟩,
    ⟨u32c.ready .., rfl, by decide, by decide, mapped_claim (k := 0) ⟨rfl, rfl, rfl, rfl, rfl, rfl, rfl⟩ (by decide) (by decide)⟩,
    ⟨i8c.ready .., by decide, by decide, by decide, by decide⟩, ⟨none8c.ready .., by decide⟩, mixedc.works (by decide) .., mixedc.score (by decide) (by decide),
    ⟨by decide, by decide, .inl (by decide), mixedc.source (by decide)⟩, mixedc.score (by decide) (by decide), by decide, mixedc.gov _, by decide,
    aligned (by decide), aligned (by decide), by unfold Apart; decide⟩

/-- One row of 512 bytes at 0x20000 in the tile streams 1 and 2, a barrier bound to stream 1 or none; memory m. -/
def tiled (m : Memory) (bar : Option Word) : State :=
  let t (b : Option Word) : TileStream := ⟨true, 0x20000, 0, 0, 1, 512, 64, b⟩
  let s := vec 0x100 6
  { s with mem := m, cur := { s.cur with ts := (s.cur.ts.set 1 (t bar)).set 2 (t none) } }
theorem tiledc (m : Memory) (bar : Option Word) : Calm (tiled m bar) := ⟨rfl, rfl, rfl, rfl, rfl, rfl, rfl⟩
theorem tiledm (m : Memory) (bar : Option Word) : Mapped (tiled m bar) := ⟨rfl, rfl, rfl, rfl, rfl, rfl, rfl⟩

theorem plain_product (s : State) (h : s.fm 0 = 0) : Product s 0 plainFormat :=
  ⟨by decide, by show fmtReg (s.fm 0) = _; rw [h]; rfl, .inr (.inr (.inl ⟨.inl rfl, .inl rfl⟩)), .inl rfl⟩

/-- Such a row can be read, by any thread that has the page. -/
theorem row_reads {s : State} (h : Mapped s) (b : Option Word) (row : Nat → Bool) (hr : ∀ i, row i = true → i = 0) :
    TileReads s ⟨true, 0x20000, 0, 0, 1, 512, 64, b⟩ plainFormat row fun _ k => .mem (0x30000 + k) .normal := by
  have hn : ∀ k, k < 512 → nibbleOf ⟨true, 0x20000, 0, 0, 1, 512, 64, b⟩ plainFormat 0 k / 2 = 0x20000 + k := by
    intro k hk
    have e : nibbleOf ⟨true, 0x20000, 0, 0, 1, 512, 64, b⟩ plainFormat 0 k = (((2 * 131072 : Int) + k * ((2 : Nat) : Int)) % (2 ^ 65 : Nat)).toNat := rfl
    rw [e]; omega
  refine ⟨rfl, rfl, .inr (by show (0 : BitVec 32).getLsbD 0 = false; decide), ?_, ⟨[2], by decide, ?_⟩⟩
  · intro r k h1 hk
    have hk : k < 512 := hk
    rw [hr r h1]
    show _ / 2 < _ ∧ _ ∧ _
    rw [hn k hk]
    exact ⟨by omega, by show _ % 1 = 0; omega, h.hit (by omega) (by decide), by simp [locPoison, h.sound]⟩
  · intro r k h1 hk
    have hk : k < 512 := hk
    rw [hr r h1, hn k hk]
    simp; omega

theorem witness_MatrixInstructions :
    (let s := tiled [] none
     Works s .mx false [] ∧ TileFree s 0 ∧ GovFree s 15 ∧ Product s 0 plainFormat ∧ s.vtag 3 = 6 ∧ Source s 8 3 ∧ TileClean s 0 ∧
      TileReads s (stream s 1) plainFormat (fun i => on (fromZero s) 15 i && decide (i < min 64 (stream s 1).rows)) (fun _ k => .mem (0x30000 + k) .normal) ∧
      TileReads s (stream s 2) plainFormat (fun j => decide (j < min 64 (stream s 2).rows)) (fun _ k => .mem (0x30000 + k) .normal) ∧
      (stream s 1).bar = none ∧ (stream s 2).bar = none) ∧
    (let s := tiled [(0x30800, 1), (0x30808, 2)] (some 0x20800)
     (stream s 1).bar = some 0x20800 ∧ (stream s 2).bar = none ∧ ObjectAt s 0x20800 0x30800 ∧ Barrier s 0x30800 ∧ s.dev.replay = none) ∧
    (Works f32 .mx false [3] ∧ TileFree f32 0 ∧ TileClean f32 0 ∧ Aligned f32 (ew f32) 4 ∧ fmtReg (f32.fm 0) = .ok plainFormat ∧
      (let d := given plainFormat.dfmt tagFp32; tagOk d = true ∧ (tagKind d).isFloat = true ∧ tagWidth d ≤ 32 ∧ tagWidth d = ew f32) ∧
      (f32.x 3).toNat + (vl f32 + 63) / 64 ≤ 64 ∧ 64 < (f32.x 5).toNat + (vl f32 + 63) / 64) ∧
    (let s := tiled [(0x30014, 1), (0x30016, 64)] none
     Works s .mx false [1] ∧ (s.x 1).toNat % 32 = 0 ∧ HoldsBytes s (s.x 1).toNat (descriptor 0 0 0 1 64 0)) ∧
    HoldsBytes (tiled [] none) ((tiled [] none).x 1).toNat (descriptor 0 0 0 0 0 0) := by
  refine ⟨⟨(tiledc ..).works (by decide) .., rfl, (tiledc ..).gov _, plain_product _ rfl, by decide, (tiledc ..).source (by decide), (tiledc ..).tile _,
      row_reads (tiledm ..) _ _ fun i hi => ?_, row_reads (tiledm ..) _ _ fun i hi => ?_, by decide, by decide⟩,
    ⟨by decide, by decide, (tiledm ..).object (k := 0x800) rfl (by decide) (by decide) (quiet ⟨rfl, rfl⟩), by unfold Barrier; decide, rfl⟩,
    ⟨f32c.works (by decide) .., rfl, f32c.tile _, aligned (by decide), rfl, by decide, by decide, by decide⟩,
    ⟨(tiledc ..).works (by decide) .., by decide, (tiledm ..).holds (k := 0) (by decide) (by decide)⟩,
    (tiledm ..).holds (k := 0) (by decide) (by decide)⟩
  · have h2 : decide (i < 1) = true := (Bool.and_eq_true _ _ ▸ hi).2
    simpa using h2
  · have h2 : decide (i < 1) = true := hi
    simpa using h2

/-- The leader of a gang with one more member, both with one-row streams. -/
def leading : State :=
  let s := tiled [] none
  { s with
    cur := { s.cur with u := { s.cur.u with gangid := 0x11 } }
    core := { s.core with mates := [⟨1, 1, 1, false, s.cur.ts, s.cur.ac, 0, 0, 0, [], [], [], s.core.tlb1, []⟩] } }

theorem witness_MatrixInstructions_gang :
    let s := leading
    let view (m : Mate) : State := (s.swapMate m).1
    let row (t : State) (i : Nat) := on (fromZero s) 15 i && decide (i < min 64 (stream t 1).rows)
    Works s .mx false [] ∧ TileFree s 0 ∧ GovFree s 15 ∧ Product s 0 plainFormat ∧ s.core.parts = [] ∧ s.core.partBars = [] ∧ (s.cur.u.gangid >>> 4 &&& 15) ≠ 0 ∧
    (s.cur.u.gangid >>> 2 &&& 3) = 0 ∧ (0 :: s.core.mates.map (·.member)).Nodup ∧
    TileReads s (stream s 2) plainFormat (fun j => decide (j < min 64 (stream s 2).rows)) (fun _ k => .mem (0x30000 + k) .normal) ∧ (stream s 2).bar = none ∧
    ∀ n t, (n = 0 ∧ t = s ∨ ∃ m ∈ s.core.mates, n = m.member ∧ t = view m) →
      TileReads t (stream t 1) plainFormat (row t) (fun _ k => .mem (0x30000 + k) .normal) ∧ TileClean t 0 ∧ (stream t 1).bar = none := by
  have c : Calm leading := ⟨rfl, rfl, rfl, rfl, rfl, rfl, rfl⟩
  have m : Mapped leading := ⟨rfl, rfl, rfl, rfl, rfl, rfl, rfl⟩
  have hd (t : State) (h : stream t 1 = ⟨true, 0x20000, 0, 0, 1, 512, 64, none⟩) (i : Nat)
      (hi : (on (fromZero leading) 15 i && decide (i < min 64 (stream t 1).rows)) = true) : i = 0 := by
    rw [h] at hi
    have h2 : decide (i < 1) = true := (Bool.and_eq_true _ _ ▸ hi).2
    simpa using h2
  refine ⟨c.works (by decide) .., rfl, c.gov _, plain_product _ rfl, rfl, rfl, by decide, by decide, by decide, row_reads m _ _ fun i hi => ?_, by decide,
    fun n t ht => ?_⟩
  · have h2 : decide (i < 1) = true := hi
    simpa using h2
  · rcases ht with ⟨-, rfl⟩ | ⟨k, hk, -, rfl⟩
    · exact ⟨row_reads m _ _ (hd _ rfl), c.tile _, by decide⟩
    · have hk : k ∈ [_] := hk
      rw [List.mem_singleton.mp hk]
      have c' : Calm (leading.swapMate ⟨1, 1, 1, false, leading.cur.ts, leading.cur.ac, 0, 0, 0, [], [], [], leading.core.tlb1, []⟩).1 :=
        ⟨rfl, rfl, rfl, rfl, rfl, rfl, rfl⟩
      have m' : Mapped (leading.swapMate ⟨1, 1, 1, false, leading.cur.ts, leading.cur.ac, 0, 0, 0, [], [], [], leading.core.tlb1, []⟩).1 :=
        ⟨rfl, rfl, rfl, rfl, rfl, rfl, rfl⟩
      exact ⟨row_reads m' _ _ (hd _ rfl), c'.tile _, by decide⟩

/-- An automaton of one symbol, one class and two states. -/
def automaton : Binding := ⟨0x20100, 0x20200, 1, 1, 2⟩
/-- A state whose memory holds its descriptor; a state bound to it. -/
def described : State := { i8 with mem := [(0x30001, 1), (0x30002, 2), (0x30009, 2), (0x3000A, 2), (0x30010, 1), (0x30014, 1), (0x30016, 2)] }
def bound (s : State) : State := { s with core := { s.core with tumbler := some automaton, tumblerBy := some false } }
/-- Maps under `row8` with a register of `uint8`. -/
def maps : State := bound ((vec 0x100 6).putRegs 2048 1 2 1 0)
theorem mapsc : Calm maps := ⟨rfl, by decide, rfl, rfl, rfl, rfl, rfl⟩
theorem boundc : Calm (bound u32) := ⟨rfl, rfl, rfl, rfl, rfl, rfl, rfl⟩

theorem in_range : InRange automaton := by unfold InRange; decide

theorem automaton_reads (s : State) (h : Mapped s) (hm : s.mem = []) (q : Nat) (hq : q < 2) : ClassIs s automaton 0 0 ∧ MapByteIs s automaton 0 0 q 0 := by
  refine ⟨fun _ => ⟨by decide, ?_⟩, fun _ _ => ⟨by decide, ?_⟩⟩
  · exact h.holds (k := 0x100) (by decide) (by rw [hm]; decide)
  · have : HoldsBytes s (0x20000 + (0x200 + q)) [0] := h.holds (by simp; omega) (by rw [hm]; intro j hj; simp at hj; subst hj; rfl)
    have e : ∀ q, q < 2 → (automaton.maptab + BitVec.ofNat 64 (0 * automaton.states + q)).toNat = 0x20000 + (0x200 + q) := by decide
    rw [e q hq]; exact this 0 0 rfl

theorem witness_TumblerAndHinge :
    (∀ s ∈ [i8, described, bound u32, maps], Claimable s .tumbler) ∧
    (Ready i8 .xl false [1] ∧ (i8.x 3).toNat % 64 ≠ 0 ∧ (i8.x 1).toNat % 64 = 0) ∧
    HoldsBytes (described.claim .tumbler) (described.x 1).toNat (automatonBytes automaton) ∧
    (HoldsBytes (i8.claim .tumbler) (i8.x 1).toNat (automatonBytes ⟨0, 0, 0, 0, 0⟩) ∧ ¬ InRange ⟨0, 0, 0, 0, 0⟩) ∧
    (Works i8 .xl false [] ∧ (i8.claim .tumbler).core.tumbler = none) ∧
    (let s := bound u32
     Works s .xl false [] ∧ (s.claim .tumbler).core.tumbler = some automaton ∧ GovFree s 15 ∧ Symbols s 1 ∧ States s 2 ∧ Aligned s 8 4 ∧ Apart s 8 4 (ew s) 1 ∧
      vl s ≤ span s 8 * rlen s / 2 ∧ ∀ i, i < vl s → el s (ew s) 1 i = 0 ∧ el s (ew s) 2 i = 0 ∧ ∀ q, q < 2 →
        ClassIs (s.claim .tumbler) automaton 0 0 ∧ MapByteIs (s.claim .tumbler) automaton 0 0 q 0) ∧
    (let s := maps
     Works s .xl false [] ∧ Maps s 1 2 (vl s) ∧ States s 2 ∧ Aligned s 8 4 ∧ DestBeside s 8 4 8 1 ∧ Aligned s (ew s) 4 ∧ Apart s (ew s) 4 8 1 ∧
      DestBeside s (ew s) 4 (ew s) 2) := by
  refine ⟨fun s hs => ?_, ⟨i8c.ready .., by decide, by decide⟩, mapped_claim (k := 0) ⟨rfl, rfl, rfl, rfl, rfl, rfl, rfl⟩ (by decide) (by decide),
    ⟨mapped_claim (k := 0) ⟨rfl, rfl, rfl, rfl, rfl, rfl, rfl⟩ (by decide) (by decide), by unfold InRange; decide⟩, ⟨i8c.works (by decide) .., rfl⟩,
    ⟨boundc.works (by decide) .., rfl, boundc.gov _, ⟨by decide, by decide, by decide, .inl (by decide), boundc.source (by decide)⟩,
      ⟨by decide, by decide, by decide, boundc.source (by decide)⟩, aligned (by decide), by unfold Apart; decide, by decide, fun i hi => ⟨?_, ?_, fun q hq =>
        automaton_reads _ ⟨rfl, rfl, rfl, rfl, rfl, rfl, rfl⟩ rfl q hq⟩⟩,
    mapsc.works (by decide) .., ⟨by decide, mapsc.source (by decide), by decide⟩, ⟨by decide, by decide, by decide, mapsc.source (by decide)⟩,
    aligned (by decide), .inl (by unfold Apart; decide), aligned (by decide), by unfold Apart; decide, .inl (by unfold Apart; decide)⟩
  · simp only [List.mem_cons, List.not_mem_nil, or_false] at hs
    rcases hs with rfl | rfl | rfl | rfl <;> exact ⟨rfl, rfl⟩
  · have hi : i < 3 := hi
    revert i; decide +kernel
  · have hi : i < 3 := hi
    revert i; decide +kernel

/-- A cursor held by the context, `m3` with n bits. -/
def merging (a b : StreamHalf) (n : Nat) : State :=
  { u32.putMask 3 (2 ^ n - 1) with core := { u32.core with hinge := (a, b), hingeBy := some false } }

theorem merging_calm (a b : StreamHalf) (n : Nat) : Calm (merging a b n) := ⟨rfl, rfl, rfl, rfl, rfl, rfl, rfl⟩
theorem merging_mapped (a b : StreamHalf) (n : Nat) : Mapped (merging a b n) := ⟨rfl, rfl, rfl, rfl, rfl, rfl, rfl⟩

/-- A list of n coordinates, the first 0 at 0x20000. -/
def coords (n : Nat) : StreamHalf := ⟨0x20000, 0, n, 0, 0, 0, 0, 0, 0⟩
/-- The half behind that coordinate. -/
def beyond (n : Nat) : StreamHalf := ⟨0x20004, 1, n, 0, 0, 0, 0, 0, 0⟩

theorem coord_zero (s : State) (h : Mapped s) (hm : s.mem = []) (n : Nat) : Coded s (coords (n + 1)) 0 (coords (n + 1)) { coords n with addr := 0x20004 } :=
  ⟨Nat.succ_ne_zero n, by decide, .inl ⟨rfl, by show (0x20000 : Word).toNat % 4 = 0; decide, h.holds (k := 0) (by decide) (by rw [hm]; decide), rfl, rfl⟩⟩

/-- Both streams empty, stream A stopped, a coordinate in both; no element; a cursor that another encoding stops. -/
theorem witness_TumblerAndHinge_merge :
    (∀ a b n, Claimable (merging a b n) .hinge ∧ Works (merging a b n) .xl false [] ∧ Triple (merging a b n) ⟨false, 4, 5, 6, 3⟩) ∧
    (∀ merge a b, Rounds (merging a b 0) merge 0 a b [] a b none) ∧
    (∀ merge, Rounds ((merging .start .start 2).claim .hinge) merge 2 .start .start [] .start .start none) ∧
    (let a := { StreamHalf.start with state := 2 }
     Rounds ((merging a .start 2).claim .hinge) false 2 a .start [] a .start (some false) ∧
      Rounds ((merging .start a 2).claim .hinge) false 2 .start a [] .start a (some true)) ∧
    (∀ merge, Rounds ((merging (coords 1) (coords 1) 2).claim .hinge) merge 2 (coords 1) (coords 1) [(0, 0, 0)] (beyond 0) (beyond 0) none) ∧
    (actives (fromZero (merging .start .start 2)) 3).length = 2 := by
  have hs (a b : StreamHalf) (n : Nat) : span (merging a b n) 32 = 1 := (rfl : _ = span u32 32).trans (by decide)
  refine ⟨fun a b n => ⟨⟨rfl, rfl⟩, (merging_calm a b n).works (by show 0 < 3; decide) .., ⟨(rfl : _ = ew u32).trans (by decide), ⟨aligned (by rw [hs]; decide), aligned (by rw [hs]; decide),
      aligned (by rw [hs]; decide)⟩, by unfold Apart; rw [hs]; decide, (merging_calm a b n).gov _⟩⟩,
    fun _ a b => .full a b, fun m => ?_, ⟨?_, ?_⟩, fun m => ?_, by decide⟩
  · have h (s : State) : Next s .start .done .start .start := .inr (.inl ⟨by decide, .inr rfl, rfl, rfl, rfl⟩)
    exact .stop (h _) (h _) (by decide) (by decide) (by cases m <;> simp)
  · exact .badA (.inl ⟨rfl, rfl, rfl, rfl⟩) (.inr (.inl ⟨by decide, .inr rfl, rfl, rfl, rfl⟩))
  · exact .badB (.inr (.inl ⟨by decide, .inr rfl, rfl, rfl, rfl⟩)) (by decide) (.inl ⟨rfl, rfl, rfl, rfl⟩)
  · have c : Next ((merging (coords 1) (coords 1) 2).claim .hinge) (coords 1) (.coord 0) (coords 1) (beyond 0) :=
      .inr (.inr ⟨rfl, 0, _, _, coord_zero _ ⟨rfl, rfl, rfl, rfl, rfl, rfl, rfl⟩ rfl 0, .inr (.inr ⟨by decide, by decide, rfl, rfl, rfl⟩)⟩)
    have e : Next ((merging (coords 1) (coords 1) 2).claim .hinge) (beyond 0) .done (beyond 0) (beyond 0) :=
      .inr (.inl ⟨by decide, .inr rfl, rfl, rfl, rfl⟩)
    exact .both c c (.stop e e (by decide) (by decide) (by cases m <;> simp))

/-- `HGSPLIT` of two coordinates by one element and of an encoding that it refuses; the cursor in memory; two tiles. -/
theorem witness_TumblerAndHinge_moves :
    (let s := merging (coords 2) .start 1
     Works s .xl false [] ∧ Triple s ⟨false, 4, 5, 6, 3⟩ ∧ (coords 2).enc < 2 ∧ (actives (fromZero s) 3).length * 2 / ((actives (fromZero s) 3).length + 1) = 1 ∧
      Coded (s.claim .hinge) (coords 2) 0 (coords 2) { coords 1 with addr := 0x20004 } ∧ ¬ 0 < (coords 2).pos) ∧
    2 ≤ { StreamHalf.start with enc := 2 }.enc ∧
    (Claimable i8 .hinge ∧ Ready i8 .xl false [1] ∧ (i8.x 3).toNat < 2 ^ 52 ∧ (i8.x 3).toNat % 64 ≠ 0 ∧ (i8.x 1).toNat % 64 = 0 ∧ i8.dev.replay = none ∧
      Hit (i8.claim .hinge) (i8.x 1).toNat .write (.mem 0x30000 .normal)) ∧
    (Fits .start ∧ LegalHalf .start ∧ HoldsBytes (i8.claim .hinge) (i8.x 1).toNat (halfBytes .start ++ halfBytes .start)) ∧
    (let h := { StreamHalf.start with enc := 3 }
     let s : State := { i8 with mem := [(0x3001E, 3)] }
     Fits h ∧ ¬ LegalHalf h ∧ HoldsBytes (s.claim .hinge) (s.x 1).toNat (halfBytes h ++ halfBytes .start)) ∧
    (let s : State := { i8 with mem := [(0x30001, 1), (0x30002, 2), (0x30008, 1)] }
     let record := halfBytes .start ++ leBytes 4 0 ++ List.replicate 28 (0 : Byte)
     Ready s .xl false [1, 0] ∧ (s.x 1).toNat % 32 = 0 ∧ (s.x 0).toNat < 1 ∧
      HoldsBytes (s.claim .hinge) (s.x 1).toNat (leBytes 8 0x20100 ++ leBytes 4 1 ++ leBytes 4 0 ++ leBytes 4 0 ++ List.replicate 12 (0 : Byte)) ∧
      HoldsBytes (s.claim .hinge) (0x20100 : Word).toNat record) ∧ Ready i8 .xl false [] := by
  have c (m : Memory) : Calm { i8 with mem := m } := ⟨rfl, rfl, rfl, rfl, rfl, rfl, rfl⟩
  refine ⟨⟨(merging_calm ..).works (by decide) .., ⟨by decide, ⟨aligned (by decide), aligned (by decide), aligned (by decide)⟩, by unfold Apart; decide,
      (merging_calm ..).gov _⟩, by decide, by decide, coord_zero _ ⟨rfl, rfl, rfl, rfl, rfl, rfl, rfl⟩ rfl 1, by decide⟩, by decide,
    ⟨⟨rfl, rfl⟩, i8c.ready .., by decide, by decide, by decide, rfl, Mapped.hit (k := 0) ⟨rfl, rfl, rfl, rfl, rfl, rfl, rfl⟩ (by decide) (by decide)⟩,
    ⟨by unfold Fits; decide, by unfold LegalHalf; decide, mapped_claim (k := 0) ⟨rfl, rfl, rfl, rfl, rfl, rfl, rfl⟩ (by decide) (by decide)⟩,
    ⟨by unfold Fits; decide, by unfold LegalHalf; decide, mapped_claim (k := 0) ⟨rfl, rfl, rfl, rfl, rfl, rfl, rfl⟩ (by decide) (by decide)⟩,
    ⟨(c _).ready .., by decide, by decide, mapped_claim (k := 0) ⟨rfl, rfl, rfl, rfl, rfl, rfl, rfl⟩ (by decide) (by decide),
      mapped_claim (k := 0x100) ⟨rfl, rfl, rfl, rfl, rfl, rfl, rfl⟩ (by decide) (by decide)⟩, i8c.ready ..⟩

/-- A live thread in the core monitor; `x3` = 2 for RESTORE. -/
def monitor : State := let s := sys.writeX 3 2; { s with cur := { s.cur with frozen := true, thr := { s.cur.thr with saved := true } } }
/-- Poison in the header of the context's area. -/
def spoilt : State := { monitor with bad := [0] }
/-- The banks of the core taken by others, and a length of 4,096 in the context's area. -/
def crowded : State := { monitor with mem := [(0x11, 0x10)], core := { monitor.core with banks := List.replicate 40 1 } }

theorem witness_ContextMoves :
    (let o : OpI := ⟨9, 3, 0x10D⟩
     Unpoisoned monitor [3] ∧ number o = 0x10D ∧ monitor.user = false ∧ monitor.x 0 = 0 ∧ monitor.x 4 = 1 ∧ monitor.cur.frozen = true ∧
      sys.cur.frozen = false ∧ sys.x 4 = 1 ∧ monitor.x 3 = 2 ∧ monitor.restoreRoom = true ∧ crowded.restoreRoom = false ∧ monitor.restoreBad = false ∧ crowded.restoreBad = false ∧
      spoilt.restoreBad = true ∧ 3 ≤ (sys.x 3).toNat) ∧
    (monitor.cur.thr.live = true ∧ monitor.cur.thr.saved = true) ∧ busy.cur.viq[0]? = some entry := by decide

/-- A thread under debug: breakpoint 0 at its pc, sampling on. -/
def debugged : State :=
  { unlocked i8 with cur := { i8.cur with dbg := { i8.cur.dbg with ctl := 0x100, bp := i8.cur.dbg.bp.set 0 0x8000000000010000 } } }
def stopped : State := { sys with cur := { sys.cur with thr := { sys.cur.thr with wait := .stop } } }
/-- A trace record in the buffer; the sink's header at 0x8000, its ring of n bytes at 0x40000. -/
def traced (n : Byte) : State :=
  { i8 with
    core := { i8.core with trace := [⟨1, 2, 3, 4, false, 2, 0, 5⟩] }
    dev := { i8.dev with win := { i8.dev.win with ktsink := 0x8000 } }
    mem := if n = 0 then [] else [(0x8002, 4), (0x8008, n)] }

theorem interruptible {s : State} (hd : s.core.drains = []) (ha : s.core.aimed = none) (hp : s.core.parts = []) (hu : s.cur.thr.due = []) :
    Interruptible s :=
  ⟨⟨fun d h => (by rw [hd] at h; cases h), fun q h => (by rw [ha] at h; cases h)⟩, fun p h => (by rw [hp] at h; cases h),
    fun d h => (by rw [hu] at h; cases h)⟩

/-- A thread that leads an outstanding gang operation. -/
def leads : State := { i8 with core := { i8.core with parts := [⟨false, 1, none⟩] } }

theorem witness_ContextEvents :
    (LiveUser i8 ∧ Interruptible i8 ∧ i8.cur.sys.evKill = false ∧ NoStop i8) ∧ (sys.cur.thr.live = true ∧ sys.user = false) ∧
    (leads.cur.thr.live = true ∧ ¬ Interruptible leads) ∧
    (let s := unlocked i8; LiveUser s ∧ Interruptible s ∧ s.kden = true ∧ s.cur.sys.evKill = false ∧ (s.cur.thr.wait = .none → s.breakpoint = none)) ∧
    (LiveUser debugged ∧ Interruptible debugged ∧ debugged.kden = true ∧ debugged.cur.sys.evKill = false) ∧ i8.kden = false ∧
    (debugged.cur.thr.wait = .none ∧ debugged.cur.dbg.pass ≠ some debugged.cur.pc ∧ debugged.cur.half = false ∧
      ∃ k : Fin 4, debugged.cur.dbg.bp[k].getLsbD 63 = true ∧ debugged.cur.dbg.bp[k].setWidth 52 = debugged.cur.pc) ∧
    (stopped.cur.thr.live = true ∧ stopped.cur.thr.wait = .stop ∧ stopped.cur.sys.kill = false ∧ stopped.cur.sys.skipv = false) ∧
    (debugged.cur.dbg.ctl.extractLsb' 8 24 ≠ 0 ∧ debugged.core.trace.length < 2048 ∧ debugged.core.loss = 0) ∧
    (∀ n, (traced n).core.trace = ⟨1, 2, 3, 4, false, 2, 0, 5⟩ :: []) ∧
    (sinkWord (traced 0) 2 + 2 ^ 64 - sinkWord (traced 0) 3) % 2 ^ 64 = sinkWord (traced 0) 1 ∧
    (sinkWord (traced 64) 2 + 2 ^ 64 - sinkWord (traced 64) 3) % 2 ^ 64 ≠ sinkWord (traced 64) 1 ∧
    (traced 64).dev.win.ktsink.toNat + 40 ≤ sinkWord (traced 64) 0 + sinkWord (traced 64) 2 % sinkWord (traced 64) 1 ∧
    seenFrom false i8 = i8 :=
  ⟨⟨by decide, interruptible rfl rfl rfl rfl, rfl, fun _ => by decide, .inl rfl⟩, by decide, ⟨rfl, fun h => h.parts _ (.head _) rfl⟩,
    ⟨by decide, interruptible rfl rfl rfl rfl, rfl, rfl, fun _ => by decide⟩, ⟨by decide, interruptible rfl rfl rfl rfl, by decide, by decide⟩, by decide,
    ⟨by decide, by decide, by decide, 0, by decide, by decide⟩, by decide, by decide, fun _ => rfl, by decide, by decide, by decide, rfl⟩

/-- Words of `VADD v4, v1, v2`, of `KSCLR`, and of no instruction, at the head of the queue. -/
def head (w : BitVec 32) (hi : Nat) : Entry := { entry with code := .word w, vl := hi }
def queue (t : Tag) (e : Entry) : State := let s := (vec 0x100 0).putRegs 2048 t 2 1 0; { s with cur := { s.cur with viq := [e] } }

theorem lanes_on {s : State} (hi : Interruptible s) (hl : LiveUser s) (hf : s.cur.frozen = false) (hd : s.cur.thr.due = [])
    (hq : s.hasQuad = true) : LanesOn s := ⟨hi.toFreezable, hl, hf, hd, hq⟩

theorem queue_on (t : Tag) (e : Entry) : LanesOn (queue t e) :=
  lanes_on (interruptible rfl rfl rfl rfl) ⟨rfl, rfl⟩ rfl rfl (by simp [State.hasQuad, show (queue t e).core.quads = 3 from rfl])

theorem entry_free {s : State} {e : Entry} (hd : s.core.drains = []) (hf : e.fin = false) (hr : e.rid = none) : EntryFree s e :=
  ⟨hf, hr, fun u _ => by simp [State.unitDrains, hd]⟩

theorem head_is (t : Tag) (e : Entry) (hf : e.fin = false) (hr : e.rid = none) : HeadIs (queue t e) e [] :=
  { queue_on t e, entry_free rfl hf hr with head := rfl, next := nofun }

/-- An entry without elements; one that completes, one that traps on its tags, one of two groups; one with no operation; one that has nothing in
common with the head. -/
theorem witness_LanesAndWakes :
    let add (n : Nat) : Entry := head 0b1111_00000_00010_00001_00100_01101_0_01 n
    let op := vopVaddVv ⟨false, 4, 1, 2, 15⟩
    vopOf (add 0).code = some op ∧ (add 0).vl ≤ (add 0).first ∧ (∀ n, (add n).reissue = false) ∧
    (∀ t n, HeadIs (queue t (add n)) (add n) []) ∧
    (∃ t fl, op.run (add 3) (add 3).total (starting (queue 0 (add 3)) (add 3)) = .done t fl ∧ t.cur.viq = [add 3] ∧ t.cur.thr.live = true) ∧
    (∃ t c v, op.run (add 3) (add 3).total (starting (queue 1 (add 3)) (add 3)) = .trap t c v ∧ LiveUser t) ∧
    (∃ t fl, op.run (add 2048) (groupEnd (add 2048) (starting (queue 0 (add 2048)) (add 2048))) (starting (queue 0 (add 2048)) (add 2048)) = .part t fl ∧
      t.cur.viq = [add 2048] ∧ t.cur.thr.live = true) ∧
    vopOf (head 0 3).code = none ∧ HeadIs (queue 0 (head 0 3)) (head 0 3) [] ∧
    (let h := head 0b1111_00000_00111_00110_00101_01101_0_01 3
     let s := withQueue (queue 0 (add 3)) [add 3, h]
     vopOf h.code = some (vopVaddVv ⟨false, 5, 6, 7, 15⟩) ∧ h.conv = false ∧ (add 3).fin = false ∧ LanesOn s ∧ EntryFree s h ∧
      (add 3).independent h s = true ∧
      ∃ t fl, (vopVaddVv ⟨false, 5, 6, 7, 15⟩).run h h.total (withQueue s [h, add 3]) = .done t fl ∧ t.cur.viq = [h, add 3] ∧ t.cur.thr.live = true) ∧
    (waiting i8 .event).cur.thr.wait = .event ∧ i8.cur.thr.wait ≠ .event ∧
    (let s := waiting { sys with mem := [(0x10000, 0x51), (0x10002, 0x70)] } .event
     s.cur.thr.live = true ∧ s.user = false ∧ s.cur.thr.wait = .event ∧ s.mem.readVal s.cur.pc.toNat 4 = (sctlWord ⟨0, 0⟩ 3).toNat) ∧
    i8.oth.id = !i8.cur.id :=
  ⟨rfl, by decide, fun _ => rfl, fun _ _ => head_is _ _ rfl rfl, ⟨_, _, rfl, rfl, rfl⟩, ⟨_, _, _, rfl, rfl, rfl⟩, ⟨_, _, rfl, rfl, rfl⟩, rfl,
    head_is _ _ rfl rfl, ⟨rfl, rfl, rfl, lanes_on (interruptible rfl rfl rfl rfl) ⟨rfl, rfl⟩ rfl rfl (by decide), entry_free rfl rfl rfl, by decide,
      ⟨_, _, rfl, rfl, rfl⟩⟩, rfl, by decide, by decide, rfl⟩

/-- A record in the queue, its thread waiting on it, and one that waits for room. -/
def record : FaultRec := ⟨0, some 0x9000, 0, 0, 0, false, 0, 0, 0, [⟨5, 1, 0⟩], 0, false, 0, 0, 0, 0⟩
def recorded : State :=
  { i8.setSys { i8.cur.sys with fltq := 0x8000 } with
    mem := [(0x8001, 0x90), (0x8008, 4)]
    dev := { i8.dev with recs := [record, { record with rid := 1, slot := none }], nextRid := 2 }
    cur := { i8.cur with
      sys := { i8.cur.sys with fltq := 0x8000 }
      thr := { i8.cur.thr with wait := .record 0 } } }

theorem witness_FaultService :
    recorded.dev.recs = [record] ++ { record with rid := 1, slot := none } :: [] ∧ (∀ q ∈ [record], q.slot.isSome = true) ∧ record.source ≠ 7 ∧
    (seenFrom false recorded).fqSlot = some 0x9000 ∧ recorded.dev.recs.find? (·.rid == record.rid) = some record ∧ record.slot = some 0x9000 ∧
    (seenFrom false recorded).cur.sys.fltq.toNat + 32 ≤ 0x9000 + 0x30 ∧ record.pages = [⟨5, 1, 0⟩] ∧ LiveUser recorded ∧
    recorded.cur.thr.wait = .record record.rid ∧ (∀ e ∈ recorded.cur.viq, e.rid = none) ∧
    ({ recorded with cur := { recorded.cur with viq := [{ entry with rid := some 0 }] } } : State).cur.viq = { entry with rid := some record.rid } :: [] := by
  decide

/-- A prefetch slot and a copy of the thread over 8 elements of 8 bytes. -/
def descBytes (page : Byte) : List Byte := [0, page, 2, 0, 0, 0, 0, 0, 0x31, 0, 0, 0, 0, 0, 0, 0, 8, 0, 0, 0, 0, 0, 0, 0, 8] ++ List.replicate 103 0
def slot (pos arrived : Nat) : PfSlot := ⟨0, 0, false, false, 0, 0, false, 0x20000, descBytes 0x10, 4096, 0, pos, arrived, [], none, 0x10000, none⟩
def job (cur : Nat) : CopyJob :=
  ⟨0, 0, false, false, 3, 0, 0, false, false, descBytes 0x10 ++ descBytes 0x20, cur, 0, false, 0, [0x322 * 2], [], [], 0x10000, 0, none⟩
def working (p : PfSlot) (c : CopyJob) : State := { i8 with core := { i8.core with slots := [p], copies := [c] } }

theorem witness_EngineSteps :
    (let s := working (slot 0 0) (job 0)
     s.core.slots.find? (·.slot == 0) = some (slot 0 0) ∧ (∃ k line, (Stream.ofBytes (slot 0 0).desc 0).find (fun q _ => q == 0) = some (k, line) ∧
      slotTr (seenFrom false s) (slot 0 0) (line * 128) .read = (.at (.mem 0x31000 .normal), seenFrom false s)) ∧ 0 < (slot 0 0).cons + (slot 0 0).lead ∧
      s.linesOut < 4096) ∧
    (let s := working (slot 2 0) (job 0); s.core.slots.find? (·.slot == 0) = some (slot 2 0) ∧ (slot 2 0).arrived + 1 < (slot 2 0).pos ∧ (slot 2 0).arrived < (slot 2 0).pos) ∧
    (let s := working (slot 0 0) (job 0)
     let c := job 0
     s.core.copies.find? (·.slot == 0) = some c ∧ ctlComp c.dst.ctl = false ∧ c.cur < c.src.elems ∧ c.lines = [] ∧ c.red = false ∧ s.dev.replay = none ∧ c.ready s = true ∧ 0x32000 / 128 ∉ s.unread c ∧
      0 < c.src.esz ∧ (c.src.addr 0).toNat % 128 + c.src.esz ≤ 128 ∧ (c.dst.addr 0).toNat % 128 + c.src.esz ≤ 128 ∧
      0x31000 % 128 = (c.src.addr 0).toNat % 128 ∧ copyTr (s.before 0) c (c.src.addr 0).toNat .read = (.at (.mem 0x31000 .normal), s.before 0) ∧
      copyTr (s.before 0) c (c.dst.addr 0).toNat .write = (.at (.mem 0x32000 .normal), s.before 0) ∧ s.badLine 0x31000 c.src.esz = none) ∧
    (let s := working (slot 0 0) (job 8); s.core.copies.find? (·.slot == 0) = some (job 8) ∧ (job 8).cur = (job 8).src.elems ∧ (job 8).tag < 64 ∧
      (job 8).spill = false ∧ (job 8).drained = false ∧ s.cur.viq = []) ∧
    (let g : MigEntry := ⟨5, 0, 0x120028, 0x30000, 0x40000, 512, 0, 3⟩
     ({ i8 with dev := { i8.dev with mig := [g] } } : State).dev.mig[0]? = some g ∧ 512 ≤ g.prog ∧ g.newFrame % 65536 = 0 ∧ g.newFrame < 2 ^ 52 ∧
      i8.cur.thr.saved = false ∧ i8.oth.thr.saved = false ∧ i8.core.saved = [] ∧ (i8.cur.thr.live = true ∧ i8.cur.u.tid = g.tid) ∧
      (sys.oth.thr.live = false ∧ (mailed 1).oth.thr.live = true)) := by
  refine ⟨⟨rfl, ⟨0, 0x420, by decide, by decide +kernel⟩, by decide, by decide⟩, by decide, by decide +kernel, by decide +kernel, by decide⟩

/-- A context with a key, a lane table, a top-k list, a Tumbler binding, a Hinge cursor, a copy, a prefetch slot and an entry. -/
def laden : State :=
  { working (slot 0 0) (job 0) with
    cur := { busy.cur with u := { busy.cur.u with xdirty := 0x300000 } }
    core := { (working (slot 0 0) (job 0)).core with
      keyed := [⟨3, 7, 5⟩], keyedBy := some false, lanes := [(5, 1)], lanesBy := some false, topk := ⟨1, 9, [(2, 4)]⟩, topkBy := some false
      tumbler := some ⟨0, 0, 2, 1, 4⟩, tumblerBy := some false, hinge := (StreamHalf.start, { StreamHalf.start with pos := 6 }), hingeBy := some false } }

theorem witness_ContextMoves_units :
    Saveable laden ∧ (∀ u, laden.core.heldBy u = some laden.cur.id) ∧ (job 0).mine laden = true ∧ job 0 ∈ laden.core.copies ∧ (slot 0 0).mine laden = true ∧
      slot 0 0 ∈ laden.core.slots :=
  ⟨{ shared := ⟨rfl, fun u => by cases u <;> decide⟩, keyed := by decide, topk := by decide
     tumbler := fun b h => by cases h; decide
     hinge := by unfold HalfFits; decide
     copies := by decide +kernel
     slots := ⟨by decide +kernel, fun p h _ => by rw [List.mem_singleton.mp h]; exact ⟨by decide, by decide +kernel, by decide, by decide, by decide, by decide, by decide, nofun⟩⟩
     ends := rfl, entries := by decide, small := by decide
     regs := fun r => lt_of_eq_of_lt (by simp [laden, busy, i8, vec, vget]) (Nat.two_pow_pos _)
     masks := fun r => lt_of_eq_of_lt (by simp [laden, busy, i8, vec, vget, Ctx.reset]) (Nat.two_pow_pos _)
     tiles := fun r => lt_of_eq_of_lt (by simp [laden, busy, i8, vec, vget, Ctx.reset]) (Nat.two_pow_pos _) },
   fun u => by cases u <;> rfl, rfl, by decide +kernel, rfl, by decide +kernel⟩

theorem witness_Measurement :
    ({ i8 with core := { i8.core with power := .gated } } : State).core.power ≠ .run ∧ i8.core.power = .run ∧ i8.core.pairs.length < 32 ∧
    (∀ p ∈ i8.core.pairs, p.prod ≠ (1 : BitVec 52)) ∧ i8.core.shadow = [] ∧ (1 : BitVec 5) ≠ 0 := by decide

/-- A retraining link, with no link down and with link 1 of die 0 down. -/
def links (retrain down : List Nat) : State := { i8 with dev := { i8.dev with links := { i8.dev.links with retrain := retrain, down := down } } }

theorem witness_LinksAndClocks :
    (0 : BitVec 2).toNat ∉ i8.dev.links.modDown ∧ (0 : BitVec 2).toNat ∉ i8.dev.links.retrain ∧ (0 : BitVec 2).toNat ∈ (links [0] []).dev.links.retrain ∧
    (links [0] []).dev.links.down = [] ∧ ((1 : BitVec 2) ≠ 0 ∧ touches 0 0 ∧ touches 1 0 ∧ (1 : BitVec 2).toNat ∈ (links [0] [1]).dev.links.down) := by
  refine ⟨by decide, by decide, by decide, rfl, by decide, ?_, ?_, by decide⟩ <;> unfold touches <;> decide

theorem witness_PowerAndLoss :
    (State.reset.core.power = .run ∧ State.reset.cur.thr.live = false ∧ State.reset.cur.thr.ended = none ∧ State.reset.oth.thr.live = false ∧
      State.reset.oth.thr.ended = none ∧ State.reset.dev.others = []) ∧
    (let s : State := { State.reset with core := { CoreRes.reset with power := .idle } }
     s.core.power = .idle ∧ s.core.copies = [] ∧ s.core.slots = [] ∧ s.core.drains = [] ∧ s.dev.recs = [] ∧ s.core.saved = [] ∧ s.core.trace = []) ∧
    (traced 0).core.trace ≠ [] ∧ i8.dev.dieLost 0 = false ∧ ({ i8 with dev := { i8.dev with lost := [0] } } : State).dev.dieLost 0 = true ∧
    i8.dev.dieState.getLsbD 12 = false ∧ i8.die ≠ 1 ∧ i8.die = 0 ∧ i8.die < 4 ∧ i8.dev.others = [] ∧
    i8.cache.below = [] := by decide

/-- The device has booted, UALink port 0 is up. -/
def answering : State :=
  { i8 with dev := { i8.dev with
    ualId := some 0
    links := { i8.dev.links with portDown := [] }
    pilot := { i8.dev.pilot with held := false } } }

theorem sound_hbm (a n : Nat) (h : 0 < n) (hn : a + n ≤ 0x3000000000) : SoundHbm answering a n := by
  refine ⟨h, by omega, fun x _ hx => ⟨0, ?_, rfl⟩, by simp [answering, vec, State.reset]⟩
  simp only [regionOf]; rw [if_pos (by omega), if_pos (by omega)]; congr 1; omega

/-- The keyway's two ends: the digest of the key given is the stored one, or it is not (what SM3 gives is left open). -/
theorem witness_OutsideAccess :
    i8.dev.pilot.held = true ∧ HostDead { answering with dev := { answering.dev with lost := [0, 1, 2, 3] } } ∧ Answering answering ∧ SoundHbm answering 0 8 ∧ SoundHbm answering 0x2FFFFFFF80 128 ∧ 0x30000 % 8 = 0 ∧
    SoundHbm answering 0x30000 8 ∧ (0x100000000000 ≤ 0x17FFFFFFFF80 ∧ 0x17FFFFFFFF80 < 0x180000000000 ∧ 0x17FFFFFFFF80 / 128 ∉ answering.bad) ∧
    (answering.dev.ualId.isSome ∧ ∃ p, p < 12 ∧ p ∉ answering.dev.links.portDown) ∧ redFormat 1 0x012 4 = true ∧ answering.dev.win.fails < 8 ∧
    8 ≤ ({ answering.dev.win with fails := 8 } : Window).fails ∧
    (let s : State := { answering with dev := { answering.dev with pilot := { answering.dev.pilot with digest := Config.sm3 answering.dev.win.kwKey } } }
     Config.sm3 s.dev.win.kwKey = s.dev.pilot.digest) ∧
    (let s : State := { answering with dev := { answering.dev with pilot := { answering.dev.pilot with digest := 0 :: Config.sm3 answering.dev.win.kwKey } } }
     Config.sm3 s.dev.win.kwKey ≠ s.dev.pilot.digest) ∧
    (answering.dev.disp.record % 128 = 0 ∧ answering.dev.disp.record < 2 ^ 52) :=
  ⟨rfl, .inl (by decide), ⟨rfl, by unfold HostDead; decide, rfl, rfl⟩, sound_hbm _ _ (by decide) (by decide), sound_hbm _ _ (by decide) (by decide), rfl, sound_hbm _ _ (by decide) (by decide),
    by decide, ⟨rfl, 0, by decide, by decide⟩, by decide, by decide, by decide, rfl, fun h => by have := congrArg List.length h; simp at this, by decide⟩

/-- A booted device whose list stands at 0x3F000; address space 0 has the tables at 0x100000, which map 0x50000 to 0x30000, where a native
image begins. `x` holds the record, linked at 0x40000. -/
def listed (link x : Memory) : State :=
  { State.reset with
    mem := [(0x30000, 0x50), (0x30001, 0x5A), (0x30002, 0x4B), (0x30003, 0x31), (0x30018, 4)] ++ link ++ x ++ [(0x100000, 1), (0x100002, 0x11), (0x110000, 1),
      (0x110002, 0x12), (0x120028, 0x6F), (0x12002A, 3)]
    dev := { Device.reset with
      disp := { Dispatcher.reset with ready := true, cursor := 0x3F000, spaces := [(0, 0x100000)] }
      pilot := { Pilot.reset with held := false } } }
/-- The record: image 0x50000, DONEADDR 0x50100, and a reserved bit of CTRL. -/
def launchRecord (bad : Byte) : Memory := [(0x4000A, 5), (0x40019, 1), (0x4001A, 5)] ++ if bad = 0 then [] else [(0x40021, bad)]

/-- A launch of one lot, and a lot of it that has ended on context 0. -/
def launch : Launch :=
  ⟨7, 0x40000, 0x50000, 0, 0x50100, 0, 0, 0x100000, 0, [0, 1, 2, 3], none, List.replicate 8 0, List.replicate 8 0, 1, [(0, 1)], 0, 0, 0, none, [], false, 0⟩
def placing : State := let s := listed [] []; { s with dev := { s.dev with disp := { s.dev.disp with launches := [launch] } } }
def ended (n : Nat) : State :=
  let s := listed [] []
  { s with
    dev := { s.dev with disp := { s.dev.disp with launches := [{ launch with lots := n, waiting := [(0, 1)] }] } }
    cur := { s.cur with thr := { s.cur.thr with ended := some false, launch := 7 } } }
/-- A context whose saved thread comes back. -/
def resuming : State := let s := listed [] []; { s with core := { s.core with saved := [{ Ctx.reset false with thr := { Thread.empty with live := true } }] } }

/-- The list's die is lost: die 1 with the record, die 0 with the cursor. -/
def listGone (d : Nat) (n : Byte) : State :=
  let s := listed [(0x3F004, n)] []; { s with dev := { s.dev with lost := [d] } }

theorem witness_LaunchAndLots :
    ((listGone 0 0).listLost 0x3F000 = true ∧ LogEntry.launchLost 0x3F000 ∉ (listGone 0 0).dev.pilot.log) ∧
    (let s := listGone 1 0x40; s.mem.readVal 0x3F000 8 = 0x4000000000 ∧ regionOf 0x4000000000 = .hbm 1 ∧ s.listLost 0x4000000000 = true ∧
      LogEntry.launchLost 0x4000000000 ∉ s.dev.pilot.log) ∧
    (let q := (listed [] []).dev.disp; q.ready = true ∧ q.corrupt = false ∧ (listed [] []).listLost q.cursor = false ∧ (listed [] []).badLine q.cursor 8 = none ∧
      (listed [] []).mem.readVal q.cursor 8 = 0) ∧
    (let n := (listed [(0x3F000, 1)] []).mem.readVal 0x3F000 8; n ≠ 0 ∧ n % 128 ≠ 0) ∧
    (∀ b ∈ [(0 : Byte), 1], let s := listed [(0x3F002, 4)] (launchRecord b)
      s.mem.readVal 0x3F000 8 = 0x40000 ∧ regionOf 0x40000 = .hbm 0 ∧ s.listLost 0x40000 = false ∧ s.badLine 0x40000 128 = none ∧
      s.dev.disp.spaces.find? (fun p => p.1 == (readLaunch s 0x40000).asid.toNat % 2 ^ 16) = some (0, 0x100000) ∧
      let s0 := withDisp s { s.dev.disp with cursor := 0x40000 }
      doneLoc (0, 0x100000) (readLaunch s 0x40000).doneAddr s0 = (.at (.mem 0x30100 .normal), s0) ∧
      (b = 0 → checkLaunch (0, 0x100000) (readLaunch s 0x40000) s0 = (.ok { launch with id := 0, entry := 0 }, s0)) ∧
      (b = 1 → checkLaunch (0, 0x100000) (readLaunch s 0x40000) s0 = (.error (some 2), s0))) ∧
    (Placing placing ∧ bestLot placing.fitsAlone placing.dev.disp.launches none = some (launch, 0) ∧ FreeHere placing ∧ placing.resumable = none ∧
      placing.takenAt 0 1 false = false ∧
      bestLot (fun l k => l.single && placing.fitsAt l k 0 1) placing.dev.disp.launches none = some (launch, 0)) ∧
    ((ended 1).dev.pilot.held = false ∧ (ended 1).cur.thr.ended = some false ∧
      bestLot (ended 2).fitsAlone (ended 2).dev.disp.launches none = some ({ launch with lots := 2 }, 0) ∧
      launch.asid = (ended 2).cur.sys.asid.toNat ∧ gangGid (ended 2).cur.u.gangid = 0 ∧ (ended 2).resumable = none) ∧
    (Placing resuming ∧ FreeHere resuming ∧ bestLot resuming.fitsAlone resuming.dev.disp.launches none = none ∧
      resuming.resumable = some { Ctx.reset false with thr := { Thread.empty with live := true } }) ∧
    (∀ n ∈ [1, 2], (ended n).cur.viq = [] ∧ (ended n).core.drains = [] ∧ (ended n).core.copies = [] ∧ (ended n).core.slots = [] ∧
      (ended n).launch (ended n).cur.thr.launch = some { launch with lots := n }) ∧
    (launch.ok + launch.failed + 1 < 2 ∧ launch.lots ≤ launch.ok + launch.failed + 1) ∧
    (let t := withDisp { ended 1 with cur := { (ended 1).cur with thr := Thread.empty } } { (ended 1).dev.disp with launches := [counted launch false] }
     doneLoc (launch.asid, launch.ptbase) launch.doneAddr t = (.at (.mem 0x30100 .normal), t)) := by
  refine ⟨by decide, by decide, by decide, by decide, fun b hb => ?_, ⟨⟨rfl, rfl, by unfold NoneFinished; decide⟩, by unfold FreeHere; decide⟩, by decide,
    ⟨⟨rfl, rfl, by unfold NoneFinished; decide⟩, by unfold FreeHere; decide⟩, by decide, by decide, by decide +kernel⟩
  simp only [List.mem_cons, List.not_mem_nil, or_false] at hb
  rcases hb with rfl | rfl
  · exact ⟨by decide, by decide, by decide, by decide, by decide, by decide +kernel, by decide +kernel, fun h => absurd h (by decide)⟩
  · exact ⟨by decide, by decide, by decide, by decide, by decide, by decide +kernel, fun h => absurd h (by decide), by decide +kernel⟩

/-- A cooperative launch of two lots, gang-shaped, on the cores 1 and 2 of die 0; core 1 is taken. -/
def together : Launch := { launch with tab := 0xA :: List.replicate 7 0, trips := 2 :: List.replicate 7 0, lots := 2, waiting := [(0, 2)] }
def coops (l : List Remote) : State :=
  let s := listed [] []
  { s with dev := { s.dev with others := l, disp := { s.dev.disp with launches := [together] } } }
def place (core : BitVec 6) : PlaceArgs := ⟨none, 0, core, false, 9, 0, 0, 0⟩

theorem witness_LaunchAndLots_cooperative :
    let os := [place 1, place 2]
    (∀ l, Placing (coops l) ∧ (coops l).dev.disp.launches = [together]) ∧ together.startable = true ∧ together.coop = true ∧ 2 ≤ together.lots ∧
    together.waiting = [(0, together.lots)] ∧ os.length = together.lots ∧ (∀ o ∈ os, o.here = none) ∧ together.gangShaped = true ∧
    oneCluster (os.map fun o => (o.die.toNat, o.core.toNat)) = true ∧ (os.map fun o => (o.die, o.core, o.ctx)).Nodup ∧
    (FreePlace (coops []) together 0 (place 1) ∧ FreePlace (coops []) together 1 (place 2)) ∧
    (coops [⟨5, 0, 1, false, 0, 3, 0, 0, []⟩]).takenAt 0 1 false = true := by
  refine ⟨fun l => ⟨⟨rfl, rfl, ?_⟩, rfl⟩, by decide, by decide, by decide, by decide, by decide, by decide, by decide, by decide, by decide, ?_, by decide⟩
  · intro j hj
    rw [List.mem_singleton.mp hj]; decide
  · unfold FreePlace; decide

/-- A replay descriptor at 0x41000 of the record at 0x40000: PASSES 1. -/
def replaying : State := listed [] (launchRecord 0 ++ [(0x41002, 4), (0x41010, 1)])
/-- Pass p of `passes` at its end, with a captured page in the save area. -/
def pass (passes p : Nat) (full : Bool) (hash : Word) : Replay := ⟨0x41000, 7, 0, passes, p, 0x200000, 1, [(false, 5)], full, hash, false, 0, 0⟩
def passing (r : Replay) : State := let s := ended 1; { s with dev := { s.dev with replay := some r } }

theorem witness_ReplayRuns :
    (replaying.dev.disp.ready = true ∧ replaying.dev.replay = none ∧ ClusterFree replaying) ∧ 0x41000 % 64 = 0 ∧
    ¬ 1 ≤ replaying.mem.readVal (0 + 16) 8 ∧ replaying.replayDescOk 0x41000 = true ∧ replaying.replayWord 0x41000 0 = 0x40000 ∧
    (readLaunch replaying 0x40000).space replaying.dev.disp = some (0, 0x100000) ∧
    (let l := { launch with id := 0, entry := 0 }
     checkLaunch (0, 0x100000) (readLaunch replaying 0x40000) replaying = (.ok l, replaying) ∧ l.coop = false ∧ replaying.replayWord 0x41000 1 < l.lots ∧
      l.mayUse replaying 0 replaying.die = true ∧ l.galys = none) :=
  ⟨⟨rfl, rfl, ⟨rfl, rfl⟩, ⟨rfl, rfl⟩, ⟨rfl, rfl, rfl⟩, nofun⟩, by decide, by decide, by decide, by decide, by decide, ⟨by decide +kernel, by decide, by decide, by decide, rfl⟩⟩

theorem here_hbm : regionOf (5 * 2 ^ 16) = .hbm 0 ∧ regionOf (0x200000 / 2 ^ 16 * 2 ^ 16) = .hbm 0 := by decide +kernel

theorem witness_ReplayRuns_passes :
    (∀ r, let s := passing r; s.dev.replay = some r ∧ s.cur.thr.ended = some false ∧ s.cur.viq = [] ∧ s.core.copies = [] ∧ s.core.slots = [] ∧
      (s.launch 7).isSome = true) ∧
    (pass 1 0 true 0).full = true ∧ (pass 2 0 false 0).full = false ∧ (pass 2 1 false 0).passes ≤ (pass 2 1 false 0).pass + 1 ∧
    (passing (pass 2 1 false 5)).cur.thr.hash ≠ (pass 2 1 false 5).hash0 ∧
    (let r := pass 2 0 false 0
     r.pass + 1 < r.passes ∧ r.launch = 7 ∧ r.got = [(false, 5)] ∧ (∀ p, regionOf (5 * 2 ^ 16) ≠ .peer p ∧ regionOf (r.save / 2 ^ 16 * 2 ^ 16) ≠ .peer p) ∧
      5 ≠ r.save / 2 ^ 16 ∧ ∀ q, q = 5 ∨ q = r.save / 2 ^ 16 → r.desc + 0x40 + 32 ≤ q * 2 ^ 16 ∨ (q + 1) * 2 ^ 16 ≤ r.desc + 0x40) :=
  ⟨fun _ => ⟨rfl, rfl, rfl, rfl, rfl, rfl⟩, rfl, rfl, by decide, by decide, ⟨by decide, rfl, rfl,
    fun _ => ⟨fun h => (nomatch here_hbm.1.symm.trans h), fun h => (nomatch here_hbm.2.symm.trans h)⟩, by decide,
    fun q h => by rcases h with rfl | rfl <;> decide +kernel⟩⟩

/-- A stored translation. -/
def translation : Translation := ⟨[1], 0, [], true, 0, true⟩
/-- Two launches with a thread on each context of the core, in a booted device. -/
theorem witness_Measurement_shares :
    let q : Launch := { launch with id := 8 }
    let s : State := { placing with
      cur := { placing.cur with thr := { Thread.empty with live := true, launch := 7 } }
      oth := { placing.oth with thr := { Thread.empty with live := true, launch := 8 } }
      dev := { placing.dev with disp := { placing.dev.disp with launches := [launch, q] } } }
    s.dev.disp.launches = [launch, q] ∧ launch.id ≠ q.id ∧ s.cur.thr.live = true ∧ s.oth.thr.live = true ∧ s.cur.thr.launch = launch.id ∧
      s.oth.thr.launch = q.id ∧ s.dev.pilot.held = false := by decide

/-- A section that is awaited by a launch whose table maps its code's place already. -/
def galysJob : GalysJob := ⟨[1], 0, []⟩
def awaiting : State :=
  let s := listed [] []
  { s with
   mem := [(0x100000, 1), (0x100002, 0x11), (0x100008, 1), (0x100009, 0x80), (0x10000A, 1), (0x10000B, 1)]
   dev := { s.dev with
    store := ⟨0, none, [], [], [galysJob], 0⟩
    disp := { s.dev.disp with launches := [{ launch with galys := some galysJob }] } } }
def storing (n : Nat) : TransStore := ⟨0, none, [], ⟨0, 0, false, [translation]⟩ :: ⟨1, 0, false, [translation]⟩ :: List.replicate n ⟨2, 0, true, []⟩, [], 0⟩

/-- The entry of every spatial level has 36 bytes, which is what its jump to the start assumes. -/
theorem test_galys_entries : ∀ j ∈ List.range 8, (asmEntry 6 j).length = 36 := by decide +kernel
/-- The code of a section without streams and body. -/
theorem galysCode_nil : (galysCode []).length = 492 := by decide +kernel

theorem witness_Translations :
    (let s := awaiting
     s.dev.store.busy.find? (fun b => b.digest == [1] && b.rev == 0) = some galysJob ∧ s.dev.store.stored [1] = none ∧
      s.placeOk 0x1000000 (galysCode []).length = true ∧
      s.codeEntry { launch with galys := some galysJob } 0x1000000 (galysCode []).length = some (2 ^ 40, 0x100008, 0x1018001) ∧ 0x100008 + 8 ≤ 0x1000000) ∧
    36 ≤ (storing 0).freeBlocks ∧
    (storing 2000).freeBlocks < 36 ∧ (storing 2000).oldest.isSome = true ∧ (storing 0).busy = [] ∧
    ({ storing 0 with busy := [galysJob] } : TransStore).busy ≠ [] ∧
    (let s := listed [] []
     FreeHere s ∧ FreeHere (other s) ∧ s.core.drains = [] ∧ s.dev.others = [] ∧ s.dev.pilot.held = false) ∧ i8.cur.thr.live = true := by
  refine ⟨by simp only [galysCode_nil]; decide +kernel, by decide, by decide +kernel, by decide +kernel, rfl, by decide, by unfold FreeHere; decide, rfl⟩

/-- The boot's places; a check of the ROM that fails, images that are missing. Images that verify need an SM2 signature, which the model leaves
open: the last part is for whichever key, image and signature verify. -/
theorem witness_BootAndReset :
    (listed [] []).dev.pilot.held = false ∧ State.reset.dev.pilot.held = true ∧ (0x1000 % 128 = 0 ∧ 0x2000 % 8 = 0 ∧
      regionOf 0x1000 = .hbm State.reset.dev.primary ∧ regionOf 0x2000 = .hbm State.reset.dev.primary ∧ 0x1000 + 128 ≤ 0x2000) ∧
    (∀ key digest : List Byte, digest ≠ Config.sm3 [] → let p := { Pilot.reset with rootKey := key, codeDigest := digest }
      p.held = true ∧ ¬ Config.sm3 p.code = p.codeDigest) ∧ Pilot.reset.fresh = false ∧ Pilot.reset.firmware = none ∧
    State.reset.dev.disp.launches = [] ∧ State.reset.cache.below = [] ∧
    ∀ (key sig own : List Byte) (i : FlashImage), i.signature = sig → Config.sm2Verify key (Config.sm3 i.bytes) sig = true →
      Config.sm2Verify key (Config.sm3 []) own = true →
      let p := { Pilot.reset with rootKey := key, codeDigest := Config.sm3 [], codeSig := own, firmware := some i, decode := some i }
      p.held = true ∧ (Config.sm3 p.code = p.codeDigest ∧ Config.sm2Verify p.rootKey p.codeDigest p.codeSig = true) ∧ p.fresh = false ∧ ∃ f d, p.firmware = some f ∧ p.decode = some d ∧
        (Config.sm2Verify p.rootKey (Config.sm3 f.bytes) f.signature = true ∧ p.rollback ≤ f.version) ∧
        (Config.sm2Verify p.rootKey (Config.sm3 d.bytes) d.signature = true ∧ p.rollback ≤ d.version) :=
  ⟨rfl, rfl, by decide, fun _ _ h => ⟨rfl, fun e => h e.symm⟩, rfl, rfl, rfl, rfl,
    fun _ _ _ i h hv ho => ⟨rfl, ⟨rfl, ho⟩, rfl, i, i, rfl, rfl, ⟨h ▸ hv, Nat.zero_le _⟩, h ▸ hv, Nat.zero_le _⟩⟩

theorem witness_PilotServices :
    State.reset.dev.pilot.log = [] ∧ (List.replicate 32 (0 : Byte)).length = 32 ∧ State.reset.dev.pilot.nonce = none ∧
    { Pilot.reset with nonce := some [] }.nonce = some [] ∧ chainsTo [] (⟨[], []⟩ : DebugAnswer).chain = false ∧
    (∀ u ∈ [Update.idle, .requested, .table [.firmware], .sent [.firmware], .transferred, .verified, .applied], { Pilot.reset with update := u }.update = u) ∧
    Pilot.reset.update = .idle ∧ Component.firmware ∈ [Component.firmware] ∧ Pilot.reset.update ≠ .applied ∧
    (let p := { Pilot.reset with update := .applied, staged := [(.firmware, ⟨[1], [2], 0⟩), (.decodeTable, ⟨[3], [4], 0⟩)] }
     p.fresh = false ∧ p.update = .applied ∧ (∀ c ∈ [Component.firmware, .decodeTable], ∃ x ∈ p.staged, x.1 = c)) := by decide

/-- `ADDI x9, x3, 4` placed where `sys` fetches. -/
def adding : State := { sys with forced := true }.withFetchWord 32 0b00000000100_000_00011_01001_00001_0_01
/-- `VADD v4, v1, v2` queued, and at pc `RSUM`'s result `x9` in `ADD x9, x9, x3`, which waits for it. -/
def summing : State :=
  let s : State := { sys with cur := { (vec 0x100 0).cur with pc := 0x10000, sys := { sys.cur.sys with mode := .user } } }
  { s with
    core := { s.core with tlb1 := [⟨0, 1, false, 0x1006F ||| 8⟩] }
    mem := Memory.write [] 0x10000 (leBytes 4 0b000000000_00011_01001_01001_00000_0_01)
    cur := { s.cur with viq := [{ entry with code := .word 0b1111_00000_00010_00001_01001_10111_0_01 }] } }

/-- Either way to the instruction; bytes that are no instruction; one that waits for the lanes, which run; one of another agent's steps. -/
theorem witness_StepRunsDecoded :
    (AtInstruction false adding ∧ AtInstruction true { adding with agenda := [none] }) ∧
    (∃ c t u, fetchCode (atMove adding) = .ok c t ∧ t.xWaits c = false ∧ decodeCode c = .ok (.addi ⟨9, 3, 4⟩) ∧ t.cur.half = false ∧
      Gives (.addi ⟨9, 3, 4⟩) t u ∧ State.stands (atMove adding) (State.afterIssue (atMove adding) u) = true) ∧
    adding.cur.thr.stale = [] ∧ adding.cur.pc.toNat + 8 ≤ 2 ^ 52 ∧
    (∀ k, k < 4 → locate adding (adding.cur.pc.toNat + 2 * k) 2 .fetch = .ok (.mem (0x10000 + 2 * k) .normal) adding) ∧
    (∃ rest, decode (adding.mem.readN 0x10000 8) = .ok (.addi ⟨9, 3, 4⟩, rest)) ∧
    (∃ t, AtInstruction false sys ∧ fetchCode (atMove sys) = .ok (.half 0) t ∧ t.xWaits (.half 0) = false ∧ decodeCode (.half 0) = .error .reservedCompact ∧
      State.stands (atMove sys) (State.afterIssue (atMove sys) (t.trap 0x02 (Code.half 0).tval)) = true) ∧
    (∃ c t r, AtInstruction true { summing with agenda := [none] } ∧ fetchCode (atMove { summing with agenda := [none] }) = .ok c t ∧ t.xWaits c = true ∧
      (moving { summing with agenda := [none] }).choose.runLanes = some r) := by
  refine ⟨⟨⟨rfl, rfl, rfl, rfl, rfl, .inr rfl, rfl⟩, ⟨rfl, rfl, rfl, rfl, rfl, .inl rfl, rfl⟩⟩, ⟨_, _, _, rfl, rfl, rfl, rfl, rfl, rfl⟩, rfl, by decide,
    fun k hk => ?_, ⟨_, rfl⟩, ⟨_, ⟨rfl, rfl, rfl, rfl, rfl, .inr rfl, rfl⟩, rfl, rfl, rfl, rfl⟩,
    ⟨_, _, _, ⟨rfl, rfl, rfl, rfl, rfl, .inl rfl, rfl⟩, rfl, rfl, rfl⟩⟩
  match k, hk with
  | 0, _ => rfl
  | 1, _ => rfl
  | 2, _ => rfl
  | 3, _ => rfl

/-- A convoy that is full, a queue that is full, one that is not, old entries that fill it, no quad under FIX, the lanes next, and an instruction without
elements. -/
theorem witness_VectorPush :
    let old (n : Nat) : State := { i8 with core := { i8.core with drains := [{ i8.cur with viq := List.replicate n entry }] } }
    sys.user = false ∧ i8.user = true ∧ (nextConvoy (some ⟨3, 0, 0, 0, 0, 0, 0⟩) false .alu).legal = false ∧ (nextConvoy none false .alu).legal = true ∧
    (let s : State := { i8 with cur := { i8.cur with viq := List.replicate 64 entry } }; s.user = true ∧ 64 ≤ s.cur.viq.length + s.oldEntries.length) ∧
    64 ≤ (old 64).cur.viq.length + (old 64).oldEntries.length ∧ (old 1).oldEntries ≠ [] ∧
    (busy.cur.viq ≠ [] ∧ busy.cur.viq.length + busy.oldEntries.length < 64) ∧
    ({ i8 with core := { i8.core with quads := 0x80 }, oth := { i8.oth with thr := { i8.oth.thr with live := true } } } : State).hasQuad = false ∧ ({ i8 with agenda := [none] } : State).lanesNext = true ∧
    (Ready none8 .alu false [] ∧ vl none8 ≤ vstart none8) :=
  ⟨rfl, rfl, by decide, by decide, by decide, by decide, by decide, by decide, by decide, rfl, none8c.ready .., by decide⟩

theorem witness_DecodeAndEncodeAgree :
    WellFormed (.add ⟨3, 1, 2⟩) ∧ encode (.add ⟨3, 1, 2⟩) = some (.word 0b000000000_00010_00001_00011_00000_0_01) ∧
    ∃ bs rest i, decode bs = .ok (i, rest) := ⟨by decide, rfl, [0x01, 0x00, 0x00, 0x00], _, _, rfl⟩

theorem witness_MemoryLaws : Memory.wf ([(1, 2)] : Memory) ∧ ∀ a, Memory.read [(1, 2)] a = Memory.read [(1, 2)] a := ⟨by decide, fun _ => rfl⟩

theorem witness_StepKeepsMemory : State.reset.memOk ∧ ∃ t, exec (.sb ⟨3, 1, 1⟩) i8 = .next t :=
  ⟨by unfold Machine.State.memOk; decide, _, rfl⟩

theorem witness_UserModeKeepsSystemState :
    encode (.swr ⟨0, 3, 0x104⟩) ≠ none ∧ i8.user = true ∧ i8.cur.id ≠ i8.oth.id ∧ ∃ t, Gives (.swr ⟨0, 3, 0x104⟩) i8 t :=
  by
  refine ⟨?_, rfl, by decide, ⟨_, rfl⟩⟩
  intro h; exact absurd h (by decide)

end Sys2Proof.Tests
end

section
/-! SUPPORT. The values of the integer operations: what R49, R77, R81 and R82 name, beside the model's functions. -/

namespace Sys2Proof.Machine

open Sys2Proof.Claims

/-! Orders. -/

theorem ofBool_slt (a b : Word) : ofBool (a.slt b) = flag (a.toInt < b.toInt) := by
  simp [ofBool, flag, BitVec.slt_eq_decide]

theorem ofBool_ult (a b : Word) : ofBool (a.ult b) = flag (a.toNat < b.toNat) := by
  simp [ofBool, flag, BitVec.ult_eq_decide]

/-- Words that rank alike under an injective key are equal, so a tie may go to either operand. -/
theorem pickBy_eq_ite_le {α : Type} [LinearOrder α] {lt : Word → Word → Bool} {key : Word → α} (inj : Function.Injective key)
    (hlt : ∀ a b, lt a b = decide (key a < key b)) (a b : Word) :
    pickBy lt a b = if key a ≤ key b then a else b := by
  simp only [pickBy, hlt, decide_eq_true_eq]
  rcases lt_trichotomy (key a) (key b) with h | h | h
  · rw [if_pos h, if_pos h.le]
  · simp [inj h]
  · rw [if_neg h.not_gt, if_neg h.not_ge]

theorem toInt_injective : Function.Injective (BitVec.toInt : Word → Int) := fun _ _ => BitVec.toInt_inj.mp

theorem pickBy_slt (a b : Word) : pickBy BitVec.slt a b = if a.toInt ≤ b.toInt then a else b :=
  pickBy_eq_ite_le toInt_injective (fun _ _ => rfl) a b

theorem pickBy_sgt (a b : Word) : pickBy (fun a b => b.slt a) a b = if b.toInt ≤ a.toInt then a else b :=
  pickBy_eq_ite_le (α := Intᵒᵈ) toInt_injective (fun _ _ => rfl) a b

theorem pickBy_ult (a b : Word) : pickBy BitVec.ult a b = if a.toNat ≤ b.toNat then a else b :=
  pickBy_eq_ite_le BitVec.toNat_injective (fun _ _ => rfl) a b

theorem pickBy_ugt (a b : Word) : pickBy (fun a b => b.ult a) a b = if b.toNat ≤ a.toNat then a else b :=
  pickBy_eq_ite_le (α := Natᵒᵈ) BitVec.toNat_injective (fun _ _ => rfl) a b

/-! Shift amounts, products. -/

/-- The low six bits of an amount (R77). -/
theorem toNat_and_63 (b : Word) : (b &&& 63).toNat = b.toNat % 64 := by
  rw [BitVec.toNat_and]
  exact Nat.and_two_pow_sub_one_eq_mod b.toNat 6

theorem sll_eq (a b : Word) : sll a b = a <<< (b.toNat % 64) := by rw [sll, toNat_and_63]

theorem srl_eq (a b : Word) : srl a b = a >>> (b.toNat % 64) := by rw [srl, toNat_and_63]

theorem sra_eq (a b : Word) : sra a b = a.sshiftRight (b.toNat % 64) := by rw [sra, toNat_and_63]

/-- A shift amount of an immediate keeps its value (R81). -/
theorem toNat_shiftAmount (k : BitVec 6) : (k.setWidth 64).toNat % 64 = k.toNat := by
  have := k.isLt
  rw [BitVec.toNat_setWidth]; omega

theorem mul_eq_ofNat (a b : Word) : a * b = BitVec.ofNat 64 (a.toNat * b.toNat) := by
  simp [BitVec.ofNat_mul]

/-! Quotients and remainders (R49). -/

/-- The one quotient that overflows, −2^63 by −1, is the dividend modulo 2^64. -/
theorem ofInt_tdiv_overflow {a b : Word} (ha : a.toInt = -2 ^ 63) (hb : b.toInt = -1) :
    BitVec.ofInt 64 (a.toInt.tdiv b.toInt) = a := by
  calc BitVec.ofInt 64 (a.toInt.tdiv b.toInt)
      = BitVec.ofInt 64 (-2 ^ 63) := by rw [ha, hb]; decide
    _ = a := by rw [← ha, BitVec.ofInt_toInt]

theorem quotientS_eq_ofInt {b : Word} (hb : b ≠ 0) (a : Word) : quotientS a b = BitVec.ofInt 64 (a.toInt.tdiv b.toInt) := by
  unfold quotientS
  rw [if_neg hb]
  split
  case isTrue h => exact (ofInt_tdiv_overflow h.1 h.2).symm
  case isFalse => rfl

theorem divS_eq (a b : Word) : divS a b = quotientS a b := by
  unfold divS
  split
  case isTrue h => simp [quotientS, h]
  case isFalse h => exact (quotientS_eq_ofInt h a).symm

theorem divU_eq (a b : Word) : divU a b = if b = 0 then allOnes else BitVec.ofNat 64 (a.toNat / b.toNat) := by
  rw [divU, ← BitVec.toNat_udiv, BitVec.ofNat_toNat, BitVec.setWidth_eq]

/-- The remainder of a truncated quotient is what the quotient leaves of the dividend. -/
theorem ofInt_tmod (a b : Word) : BitVec.ofInt 64 (a.toInt.tmod b.toInt) = a - b * BitVec.ofInt 64 (a.toInt.tdiv b.toInt) := by
  rw [Int.tmod_def, Int.sub_eq_add_neg, BitVec.ofInt_add, BitVec.ofInt_neg, BitVec.ofInt_mul, BitVec.ofInt_toInt,
    BitVec.ofInt_toInt, BitVec.sub_eq_add_neg]

theorem remS_eq (a b : Word) : remS a b = if b = 0 then a else a - b * quotientS a b := by
  unfold remS
  split
  case isTrue => rfl
  case isFalse h => rw [quotientS_eq_ofInt h, ofInt_tmod]

theorem remU_eq (a b : Word) : remU a b = if b = 0 then a else BitVec.ofNat 64 (a.toNat % b.toNat) := by
  rw [remU, ← BitVec.toNat_umod, BitVec.ofNat_toNat, BitVec.setWidth_eq]

/-! Counts of bits (R78). -/

theorem clzFrom_zero (n : Nat) : clzFrom 0#64 n = n := by
  induction n with
  | zero => rfl
  | succ n ih => simp [clzFrom, ih, Nat.add_comm]

/-- The count stops at the highest one bit. -/
theorem clzFrom_of_highest {a : Word} {k : Nat} (hk : a.getLsbD k = true) (above : ∀ j, k < j → a.getLsbD j = false) (n : Nat)
    (hn : k < n) : clzFrom a n = n - 1 - k := by
  induction n with
  | zero => omega
  | succ n ih =>
    unfold clzFrom
    rcases Nat.lt_succ_iff_lt_or_eq.mp hn with h | rfl
    · rw [above n h, if_neg Bool.false_ne_true, ih h]; omega
    · rw [if_pos hk]; omega

theorem clz_eq (a : Word) : clz a = leadingZeros a := by
  unfold clz leadingZeros
  split
  case isTrue h => rw [h]; exact congrArg (BitVec.ofNat 64) (clzFrom_zero 64)
  case isFalse h =>
    have ne : a.toNat ≠ 0 := fun e => h (BitVec.eq_of_toNat_eq e)
    rw [clzFrom_of_highest (k := Nat.log2 a.toNat) (Nat.testBit_log2 ne)]
    · intro j hj
      exact Nat.testBit_lt_two_pow (Nat.lt_of_lt_of_le Nat.lt_log2_self (Nat.pow_le_pow_right (by decide) hj))
    · exact (Nat.log2_lt ne).mpr a.isLt

theorem ctzFrom_eq (a : Word) (i n : Nat) : ctzFrom a i n = ((List.range' i n).takeWhile fun k => !a.getLsbD k).length := by
  induction n generalizing i with
  | zero => rfl
  | succ n ih =>
    rw [ctzFrom, List.range'_succ, List.takeWhile_cons]
    cases a.getLsbD i with
    | true => rfl
    | false => simp [ih, Nat.add_comm]

theorem ctz_eq (a : Word) : ctz a = trailingZeros a := by
  rw [ctz, trailingZeros, ctzFrom_eq, List.range_eq_range']

/-- One more element at the end of a count over the first n numbers. -/
theorem countP_range_succ (p : Nat → Bool) (n : Nat) : (List.range (n + 1)).countP p = (p n).toNat + (List.range n).countP p := by
  rw [List.range_succ, List.countP_append, Nat.add_comm]
  cases h : p n <;> simp [h]

theorem popFrom_eq (a : Word) (n : Nat) : popFrom a n = (List.range n).countP fun k => a.getLsbD k := by
  induction n with
  | zero => rfl
  | succ n ih => rw [popFrom, ih, countP_range_succ]

theorem popc_eq (a : Word) : popc a = oneBits a := by rw [popc, oneBits, popFrom_eq]

/-! Immediates. -/

/-- A sign-extended immediate times 2^11, modulo 2^64 (R82). -/
theorem sext_shiftLeft_11 {n : Nat} (v : BitVec n) : sext v <<< 11 = BitVec.ofInt 64 (v.toInt * 2 ^ 11) := by
  rw [BitVec.shiftLeft_eq_mul_twoPow, BitVec.ofInt_mul]
  rfl

end Sys2Proof.Machine
end

section
/-! SUPPORT. What the shared shapes of the integer instructions answer (R75, R77, R81, R82, R41), and the statements on their results. -/

namespace Sys2Proof.Machine

open Sys2Proof.Claims

/-- An instruction that applies f to two registers writes its value v. -/
theorem writesX_of_alu2 (f : Word → Word → Word) {i : Instr} {s : State} {len : Nat} {d a b : BitVec 5} {v : Word}
    (hi : exec i s = alu2 len f d a b s) (ha : Unpoisoned s [a]) (hb : Unpoisoned s [b]) (hv : f (s.x a) (s.x b) = v) :
    WritesX i s d v len := by
  have hab : s.xPoisoned [a, b] = false := by rw [xPoisoned_cons, ha, hb]; rfl
  rw [WritesX, Gives, hi, alu2, withX_clean hab, hv]

/-- An instruction that applies f to one register likewise. -/
theorem writesX_of_alu1 (f : Word → Word) {i : Instr} {s : State} {len : Nat} {d a : BitVec 5} {v : Word}
    (hi : exec i s = alu1 len f d a s) (ha : Unpoisoned s [a]) (hv : f (s.x a) = v) : WritesX i s d v len := by
  rw [WritesX, Gives, hi, alu1, withX_clean ha, hv]

/-- `LUP` reads no register. -/
theorem writesX_of_lup {n len : Nat} {i : Instr} {s : State} {d : BitVec 5} (imm : BitVec n) (hi : exec i s = lup len d (sext imm) s) :
    WritesX i s d (BitVec.ofInt 64 (imm.toInt * 2 ^ 11)) len := by
  rw [WritesX, Gives, hi, lup, sext_shiftLeft_11]

/-- Settles O1: each operation applies its function to one or two registers, and the function's value is its row of R77. -/
theorem scalarIntegerResults : Obligations.ScalarIntegerResults := by
  unfold Obligations.ScalarIntegerResults
  intro o s ha
  refine ⟨fun hb => ⟨?add, ?sub, ?and, ?or, ?xor, ?andn, ?sll, ?srl, ?sra, ?slt, ?sltu, ?min, ?max, ?minu, ?maxu, ?mul, ?mulh, ?mulhu,
    ?div, ?divu, ?rem, ?remu⟩, ?clz, ?ctz, ?popc⟩
  case add => exact writesX_of_alu2 (· + ·) rfl ha hb rfl
  case sub => exact writesX_of_alu2 (· - ·) rfl ha hb rfl
  case and => exact writesX_of_alu2 (· &&& ·) rfl ha hb rfl
  case or => exact writesX_of_alu2 (· ||| ·) rfl ha hb rfl
  case xor => exact writesX_of_alu2 (· ^^^ ·) rfl ha hb rfl
  case andn => exact writesX_of_alu2 (fun a b => a &&& ~~~b) rfl ha hb rfl
  case sll => exact writesX_of_alu2 sll rfl ha hb (sll_eq ..)
  case srl => exact writesX_of_alu2 srl rfl ha hb (srl_eq ..)
  case sra => exact writesX_of_alu2 sra rfl ha hb (sra_eq ..)
  case slt => exact writesX_of_alu2 (fun a b => ofBool (a.slt b)) rfl ha hb (ofBool_slt ..)
  case sltu => exact writesX_of_alu2 (fun a b => ofBool (a.ult b)) rfl ha hb (ofBool_ult ..)
  case min => exact writesX_of_alu2 (pickBy BitVec.slt) rfl ha hb (pickBy_slt ..)
  case max => exact writesX_of_alu2 (pickBy fun a b => b.slt a) rfl ha hb (pickBy_sgt ..)
  case minu => exact writesX_of_alu2 (pickBy BitVec.ult) rfl ha hb (pickBy_ult ..)
  case maxu => exact writesX_of_alu2 (pickBy fun a b => b.ult a) rfl ha hb (pickBy_ugt ..)
  case mul => exact writesX_of_alu2 (· * ·) rfl ha hb (mul_eq_ofNat ..)
  case mulh => exact writesX_of_alu2 mulhS rfl ha hb rfl
  case mulhu => exact writesX_of_alu2 mulhU rfl ha hb rfl
  case div => exact writesX_of_alu2 divS rfl ha hb (divS_eq ..)
  case divu => exact writesX_of_alu2 divU rfl ha hb (divU_eq ..)
  case rem => exact writesX_of_alu2 remS rfl ha hb (remS_eq ..)
  case remu => exact writesX_of_alu2 remU rfl ha hb (remU_eq ..)
  case clz => exact writesX_of_alu1 clz rfl ha (clz_eq _)
  case ctz => exact writesX_of_alu1 ctz rfl ha (ctz_eq _)
  case popc => exact writesX_of_alu1 popc rfl ha (popc_eq _)

theorem immediateResults : Claims.ImmediateResults := by
  refine ⟨fun d a i w s h => ⟨?addi, ?addiWide, ?andi, ?andiWide, ?ori, ?oriWide, ?xori, ?xoriWide, ?slti, ?sltiWide, ?sltiu, ?sltiuWide,
    ?muli, ?muliWide⟩, fun o s h => ⟨?slli, ?srli, ?srai⟩, fun d i w s => ⟨writesX_of_lup i rfl, writesX_of_lup w rfl⟩⟩
  case addi => exact writesX_of_alu1 (· + sext i) rfl h rfl
  case addiWide => exact writesX_of_alu1 (· + sext w) rfl h rfl
  case andi => exact writesX_of_alu1 (· &&& sext i) rfl h rfl
  case andiWide => exact writesX_of_alu1 (· &&& sext w) rfl h rfl
  case ori => exact writesX_of_alu1 (· ||| sext i) rfl h rfl
  case oriWide => exact writesX_of_alu1 (· ||| sext w) rfl h rfl
  case xori => exact writesX_of_alu1 (· ^^^ sext i) rfl h rfl
  case xoriWide => exact writesX_of_alu1 (· ^^^ sext w) rfl h rfl
  case slti => exact writesX_of_alu1 (fun x => ofBool (x.slt (sext i))) rfl h (ofBool_slt ..)
  case sltiWide => exact writesX_of_alu1 (fun x => ofBool (x.slt (sext w))) rfl h (ofBool_slt ..)
  case sltiu => exact writesX_of_alu1 (fun x => ofBool (x.ult (sext i))) rfl h (ofBool_ult ..)
  case sltiuWide => exact writesX_of_alu1 (fun x => ofBool (x.ult (sext w))) rfl h (ofBool_ult ..)
  case muli => exact writesX_of_alu1 (· * sext i) rfl h (mul_eq_ofNat ..)
  case muliWide => exact writesX_of_alu1 (· * sext w) rfl h (mul_eq_ofNat ..)
  case slli => exact writesX_of_alu1 (fun x => sll x (o.sh.setWidth 64)) rfl h (by rw [sll_eq, toNat_shiftAmount])
  case srli => exact writesX_of_alu1 (fun x => srl x (o.sh.setWidth 64)) rfl h (by rw [srl_eq, toNat_shiftAmount])
  case srai => exact writesX_of_alu1 (fun x => sra x (o.sh.setWidth 64)) rfl h (by rw [sra_eq, toNat_shiftAmount])

theorem compactScalarResults : Claims.CompactScalarResults := by
  intro o s ha
  refine ⟨fun hb => ⟨?add, ?sub, ?and, ?or, ?xor, ?sll, ?srl⟩, ?addi, ?mv⟩
  case add => exact writesX_of_alu2 (· + ·) rfl ha hb rfl
  case sub => exact writesX_of_alu2 (· - ·) rfl ha hb rfl
  case and => exact writesX_of_alu2 (· &&& ·) rfl ha hb rfl
  case or => exact writesX_of_alu2 (· ||| ·) rfl ha hb rfl
  case xor => exact writesX_of_alu2 (· ^^^ ·) rfl ha hb rfl
  case sll => exact writesX_of_alu2 sll rfl ha hb (sll_eq ..)
  case srl => exact writesX_of_alu2 srl rfl ha hb (srl_eq ..)
  case addi => exact writesX_of_alu1 (· + sext o.b) rfl ha rfl
  case mv => exact writesX_of_alu2 (b := 0) (· + ·) rfl ha rfl (BitVec.add_zero _)

/-- Settles O28: the immediate forms and the compact ops are the shapes of R77 with an immediate or `x[XLAST]` as a source. -/
theorem immediateAndCompactResults : Obligations.ImmediateAndCompactResults := by
  unfold Obligations.ImmediateAndCompactResults
  exact ⟨immediateResults, compactScalarResults⟩

end Sys2Proof.Machine
end

section
/-! SUPPORT. Branches (R85-R88): targets, conditions, the wait for a mask, and the statements on them. -/

namespace Sys2Proof.Machine

open Sys2Proof.Claims

/-! Targets (R85). -/

theorem State.target_eq_aim (s : State) {n : Nat} (off : BitVec n) : s.target (sext off) = Claims.aim s off.toInt := by
  have hpc : BitVec.ofInt 64 (s.cur.pc.toNat : Int) = s.cur.pc.setWidth 64 := by rw [BitVec.ofInt_natCast, BitVec.ofNat_toNat]
  rw [Claims.aim, Int.two_mul, BitVec.ofInt_add, BitVec.ofInt_add, hpc, State.target, BitVec.add_assoc]
  rfl

theorem State.jump_of_inRange {s : State} {t : Word} (h : t.toNat < 2 ^ 52) (k : State → State) :
    s.jump t k = (k s).transfer (t.setWidth 52) := by
  simp only [State.jump, inRange, h, decide_true, if_true]

theorem State.jump_of_outOfRange {s : State} {t : Word} (h : 2 ^ 52 ≤ t.toNat) (k : State → State) : s.jump t k = s.trap cRange t := by
  simp only [State.jump, inRange, Nat.not_lt.mpr h, decide_false, Bool.false_eq_true, if_false]

/-- An instruction that jumps under the condition P, and otherwise goes on after the same register effect. -/
theorem branches_of_exec {n len : Nat} {i : Instr} {s : State} {off : BitVec n} {k : State → State} {P : Prop} [Decidable P]
    {taken : Bool} (hP : taken = true ↔ P)
    (hi : exec i s = .next (if P then s.jump (s.target (sext off)) k else (k s).retireBranch len)) :
    Branches i s len off.toInt taken k := by
  rw [State.target_eq_aim] at hi
  refine ⟨fun h => ?_, fun h (hr : (Claims.aim s off.toInt).toNat < 2 ^ 52) => ?_,
    fun h (hr : 2 ^ 52 ≤ (Claims.aim s off.toInt).toNat) => ?_⟩
  · rw [Gives, hi, if_neg (fun p => by simp [hP.mpr p] at h)]
  · rw [Gives, hi, if_pos (hP.mp h), State.jump_of_inRange hr]; rfl
  · rw [Gives, hi, if_pos (hP.mp h), State.jump_of_outOfRange hr]; rfl

/-- A branch without a register effect completes when its target is in range. -/
theorem completes_of_branches {len : Nat} {off : Int} {i : Instr} {s : State} {taken : Bool} {P : Prop} [Decidable P]
    (h : Branches i s len off taken id) (hP : taken = true ↔ P) (hr : (Claims.aim s off).toNat < 2 ^ 52) : Completes i s len off P := by
  obtain ⟨notTaken, inRange, -⟩ := h
  unfold Completes
  split
  case isTrue p => exact inRange (hP.mpr p) hr
  case isFalse p => exact notTaken (Bool.eq_false_iff.mpr fun t => p (hP.mp t))

/-! Branches on a register (R86). -/

/-- Both lengths of a BRX row whose condition on the word is the condition p on its signed value. -/
theorem branches_of_brx {short : OpB → Instr} {wide : OpBW → Instr} (c : Word → Bool) (p : Int → Bool) (hc : ∀ v, p v.toInt = c v)
    (hs : ∀ o s, exec (short o) s = brx 4 c o.a (sext o.off) s) (hw : ∀ o s, exec (wide o) s = brx 8 c o.a (sext o.off) s) :
    (∀ (o : OpB) (s : State), Unpoisoned s [o.a] → Branches (short o) s 4 o.off.toInt (p (s.x o.a).toInt) id) ∧
    ∀ (o : OpBW) (s : State), Unpoisoned s [o.a] → Branches (wide o) s 8 o.off.toInt (p (s.x o.a).toInt) id := by
  constructor
  · intro o s h
    exact branches_of_exec (by rw [hc]) (by rw [hs, brx, withX_clean h]; rfl)
  · intro o s h
    exact branches_of_exec (by rw [hc]) (by rw [hw, brx, withX_clean h]; rfl)

/-- A word is zero when its signed value is. -/
theorem toInt_beq_zero (v : Word) : (v.toInt == 0) = (v == 0) := by
  rw [Bool.eq_iff_iff, beq_iff_eq, beq_iff_eq, ← BitVec.toInt_inj]; rfl

theorem toInt_bne_zero (v : Word) : (v.toInt != 0) = (v != 0) := by rw [bne, bne, toInt_beq_zero]

theorem decide_nonneg_toInt (v : Word) : decide (0 ≤ v.toInt) = !v.slt 0 := by
  rw [BitVec.slt_eq_decide, ← decide_not]; exact decide_eq_decide.mpr Int.not_lt.symm

theorem decide_nonpos_toInt (v : Word) : decide (v.toInt ≤ 0) = !BitVec.slt 0 v := by
  rw [BitVec.slt_eq_decide, ← decide_not]; exact decide_eq_decide.mpr Int.not_lt.symm

/-- `BDNZ` branches unless the count was 1, and writes the lowered count either way. -/
theorem branches_of_bdnz {n len : Nat} {i : Instr} {s : State} {a : BitVec 5} {off : BitVec n} (hi : exec i s = bdnz len a (sext off) s)
    (h : Unpoisoned s [a]) : Branches i s len off.toInt (s.x a ≠ 1) (·.writeX a (s.x a - 1)) :=
  branches_of_exec (P := s.x a - 1 ≠ 0) (by rw [decide_eq_true_eq, sub_ne_zero]) (by rw [hi, bdnz, withX_clean h])

theorem registerBranches : Claims.RegisterBranches := by
  refine ⟨?_, fun o s h => branches_of_bdnz rfl h, fun o s h => branches_of_bdnz rfl h⟩
  simp only [regBranches, List.forall_mem_cons, List.not_mem_nil, false_imp_iff, implies_true, and_true]
  refine ⟨?eqz, ?nez, ?ltz, ?gez, ?gtz, ?lez⟩
  case eqz => exact branches_of_brx (· == 0) (· == 0) toInt_beq_zero (fun _ _ => rfl) (fun _ _ => rfl)
  case nez => exact branches_of_brx (· != 0) (· != 0) toInt_bne_zero (fun _ _ => rfl) (fun _ _ => rfl)
  case ltz => exact branches_of_brx (·.slt 0) (· < 0) (fun _ => rfl) (fun _ _ => rfl) (fun _ _ => rfl)
  case gez => exact branches_of_brx (fun v => !v.slt 0) (0 ≤ ·) decide_nonneg_toInt (fun _ _ => rfl) (fun _ _ => rfl)
  case gtz => exact branches_of_brx (BitVec.slt 0) (0 < ·) (fun _ => rfl) (fun _ _ => rfl) (fun _ _ => rfl)
  case lez => exact branches_of_brx (fun v => !BitVec.slt 0 v) (· ≤ 0) decide_nonpos_toInt (fun _ _ => rfl) (fun _ _ => rfl)

/-- What `BDNZ` answers with a target in range. -/
theorem bdnz_completes {len : Nat} {off : Int} {i : Instr} {s : State} {a : BitVec 5}
    (h : Branches i s len off (s.x a ≠ 1) (·.writeX a (s.x a - 1))) (hr : (Claims.aim s off).toNat < 2 ^ 52) :
    exec i s = .next (if s.x a = 1 then (s.writeX a 0).retireBranch len
      else (s.writeX a (s.x a - 1)).transfer ((Claims.aim s off).setWidth 52)) := by
  obtain ⟨notTaken, inRange, -⟩ := h
  split
  case isTrue e =>
    have := notTaken (by simp [e])
    rwa [e] at this
  case isFalse e => exact inRange (decide_eq_true e) hr

theorem registerBranchesComplete : Claims.RegisterBranchesComplete := by
  obtain ⟨rows, bdnz, bdnzWide⟩ := registerBranches
  simp only [regBranches, List.forall_mem_cons] at rows
  obtain ⟨⟨beqz, beqzWide⟩, ⟨bnez, bnezWide⟩, ⟨bltz, bltzWide⟩, ⟨bgez, bgezWide⟩, ⟨bgtz, bgtzWide⟩, ⟨blez, blezWide⟩, -⟩ := rows
  constructor
  · intro o s h hr
    exact ⟨completes_of_branches (beqz o s h) beq_iff_eq hr, completes_of_branches (bnez o s h) bne_iff_ne hr,
      completes_of_branches (bltz o s h) decide_eq_true_iff hr, completes_of_branches (bgez o s h) decide_eq_true_iff hr,
      completes_of_branches (bgtz o s h) decide_eq_true_iff hr, completes_of_branches (blez o s h) decide_eq_true_iff hr,
      bdnz_completes (bdnz o s h) hr⟩
  · intro o s h hr
    exact ⟨completes_of_branches (beqzWide o s h) beq_iff_eq hr, completes_of_branches (bnezWide o s h) bne_iff_ne hr,
      completes_of_branches (bltzWide o s h) decide_eq_true_iff hr, completes_of_branches (bgezWide o s h) decide_eq_true_iff hr,
      completes_of_branches (bgtzWide o s h) decide_eq_true_iff hr, completes_of_branches (blezWide o s h) decide_eq_true_iff hr,
      bdnz_completes (bdnzWide o s h) hr⟩

/-! Branches on a mask (R87, R88). -/

theorem countMask_eq_countP (m n : Nat) : countMask m n = (List.range n).countP m.testBit := by
  induction n with
  | zero => rfl
  | succ n ih => rw [countMask, ih, countP_range_succ]

/-- The search from the young end of the queue finds the latest entry that writes the mask. -/
theorem State.maskWaits_eq_false_iff (s : State) (k : BitVec 4) : s.maskWaits k = false ↔ MaskReady s k := by
  unfold State.maskWaits MaskReady
  split
  case isTrue => simp
  case isFalse =>
    constructor
    · intro h l e r hq hw hr
      have found : s.cur.viq.reverse.find? (fun e => e.writesMask s k.toNat) = some e :=
        List.find?_eq_some_iff_append.mpr ⟨hw, r.reverse, l.reverse, by simp [hq], by simpa using hr⟩
      rw [found] at h
      simpa using h
    · intro h
      split
      case h_1 e found =>
        obtain ⟨hw, r, l, hq, hr⟩ := List.find?_eq_some_iff_append.mp found
        have hq' : s.cur.viq = l.reverse ++ e :: r.reverse := by rw [← List.reverse_reverse s.cur.viq, hq]; simp
        rw [h _ e _ hq' hw (by simpa using hr)]; rfl
      case h_2 => rfl

theorem brm_of_ready {len : Nat} {c : Nat → Nat → Bool} {k : BitVec 4} {off : Word} {s : State} (hr : MaskReady s k) (hf : MaskFree s k) :
    brm len c k off s = .next (if c (setBits s k) (vl s) then s.jump (s.target off) id else s.retireBranch len) := by
  have hp : s.cur.poison.m.getLsbD k.toNat = false := hf
  simp only [brm, (s.maskWaits_eq_false_iff k).mpr hr, hp, countMask_eq_countP]
  rfl

theorem brm_of_not_ready {len : Nat} {c : Nat → Nat → Bool} {k : BitVec 4} {off : Word} {s : State} (hr : ¬ MaskReady s k) :
    brm len c k off s = .next s := by
  have hw : s.maskWaits k = true := by rwa [← State.maskWaits_eq_false_iff, Bool.not_eq_false] at hr
  rw [brm, hw]; rfl

/-- Both lengths of a BRM row with the condition p. -/
theorem branches_of_brm {short : OpM → Instr} {wide : OpMW → Instr} (c p : Nat → Nat → Bool) (hc : ∀ m n, p m n = c m n)
    (hs : ∀ o s, exec (short o) s = brm 4 c o.k (sext o.off) s) (hw : ∀ o s, exec (wide o) s = brm 8 c o.k (sext o.off) s) :
    (∀ (o : OpM) (s : State),
      (MaskReady s o.k → MaskFree s o.k → Branches (short o) s 4 o.off.toInt (p (setBits s o.k) (vl s)) id) ∧
      (¬ MaskReady s o.k → Gives (short o) s s)) ∧
    ∀ (o : OpMW) (s : State),
      (MaskReady s o.k → MaskFree s o.k → Branches (wide o) s 8 o.off.toInt (p (setBits s o.k) (vl s)) id) ∧
      (¬ MaskReady s o.k → Gives (wide o) s s) := by
  constructor
  · intro o s
    exact ⟨fun hr hf => branches_of_exec (by rw [hc]) (by rw [hs, brm_of_ready hr hf]; rfl), fun hr => by rw [Gives, hs, brm_of_not_ready hr]⟩
  · intro o s
    exact ⟨fun hr hf => branches_of_exec (by rw [hc]) (by rw [hw, brm_of_ready hr hf]; rfl), fun hr => by rw [Gives, hw, brm_of_not_ready hr]⟩

theorem maskBranches : Claims.MaskBranches := by
  unfold Claims.MaskBranches
  simp only [Claims.maskBranches, List.forall_mem_cons, List.not_mem_nil, false_imp_iff, implies_true, and_true]
  refine ⟨?any, ?all, ?none, ?nall⟩
  case any =>
    have positive (m _n : Nat) : decide (m ≠ 0) = decide (0 < m) := decide_eq_decide.mpr Nat.pos_iff_ne_zero.symm
    exact branches_of_brm (fun m _ => decide (0 < m)) (fun m _ => m ≠ 0) positive (fun _ _ => rfl) (fun _ _ => rfl)
  case all => exact branches_of_brm (fun m n => m == n) (fun m n => m = n) (fun _ _ => rfl) (fun _ _ => rfl) (fun _ _ => rfl)
  case none => exact branches_of_brm (fun m _ => m == 0) (fun m _ => m = 0) (fun _ _ => rfl) (fun _ _ => rfl) (fun _ _ => rfl)
  case nall => exact branches_of_brm (fun m n => decide (m < n)) (fun m n => m < n) (fun _ _ => rfl) (fun _ _ => rfl) (fun _ _ => rfl)

theorem maskBranchesComplete : Claims.MaskBranchesComplete := by
  have rows := maskBranches
  simp only [Claims.MaskBranches, Claims.maskBranches, List.forall_mem_cons] at rows
  obtain ⟨⟨bany, banyWide⟩, ⟨ball, ballWide⟩, ⟨bnone, bnoneWide⟩, ⟨bnall, bnallWide⟩, -⟩ := rows
  constructor
  · intro o s h hf hr
    exact ⟨completes_of_branches ((bany o s).1 h hf) decide_eq_true_iff hr, completes_of_branches ((ball o s).1 h hf) decide_eq_true_iff hr,
      completes_of_branches ((bnone o s).1 h hf) decide_eq_true_iff hr, completes_of_branches ((bnall o s).1 h hf) decide_eq_true_iff hr⟩
  · intro o s h hf hr
    exact ⟨completes_of_branches ((banyWide o s).1 h hf) decide_eq_true_iff hr,
      completes_of_branches ((ballWide o s).1 h hf) decide_eq_true_iff hr,
      completes_of_branches ((bnoneWide o s).1 h hf) decide_eq_true_iff hr,
      completes_of_branches ((bnallWide o s).1 h hf) decide_eq_true_iff hr⟩

/-- Settles O40: every row is a jump under its condition, and a row completes because its condition holds or fails. -/
theorem branches : Obligations.Branches := by
  unfold Obligations.Branches
  exact ⟨registerBranches, maskBranches, registerBranchesComplete, maskBranchesComplete⟩

end Sys2Proof.Machine
end
